-- ==== Sys2Proof/Word.lean ====
section
/-! DEFINITION. The word types of the EV-480 model and the three plain arithmetic words of the manual
("Rounding and limits" of spec/00_scope.md): clamp, round half up, and a count that holds at its top. -/

namespace Sys2Proof

/-- One byte of a message port frame. -/
abbrev Byte := BitVec 8

/-- A value of the site clock: 32 bits, wrapping (R18). -/
abbrev Clock := BitVec 32

/-- A count that runs 0..65535 and holds at 65535, after it was moved to `n`. -/
def sat16 (n : Nat) : Nat := min n 65535

/-- Clamp to `lo..hi`. Where `lo` is above `hi` the value is raised to `lo` and then lowered to `hi`
(the order R176 states for Thalt_min and Thalt_max). -/
def clampNat (lo hi x : Nat) : Nat := min (max x lo) hi

/-- Clamp of a signed quantity. -/
def clampInt (lo hi x : Int) : Int := min (max x lo) hi

/-- Round half up of the mean of non-negative integers with sum `sum` over count `n`. -/
def roundHalfUp (sum n : Nat) : Nat := (2 * sum + n) / (2 * n)

/-- Milliseconds as microseconds. -/
def ms (n : Nat) : Nat := n * 1000

/-- Seconds as microseconds. -/
def sec (n : Nat) : Nat := n * 1000000

/-- A function applied to every entry of a vector, by recursion on its list so that it evaluates. -/
def vmap {α β : Type} {n : Nat} (f : α → β) (v : Vector α n) : Vector β n :=
  ⟨⟨v.toList.map f⟩, by simp⟩

/-- Two vectors combined entry by entry, by recursion on their lists so that it evaluates. -/
def vzip {α β γ : Type} {n : Nat} (f : α → β → γ) (v : Vector α n) (w : Vector β n) : Vector γ n :=
  ⟨⟨List.zipWith f v.toList w.toList⟩, by simp⟩

/-- One entry of a vector changed by a function. -/
def vupd {α : Type} {n : Nat} (v : Vector α n) (i : Fin n) (f : α → α) : Vector α n :=
  v.set i (f v[i])

end Sys2Proof
end

