-- ==== Sys2Proof/Syntax.lean ====
section
/-! DEFINITION. The commands of the EV-480: one constructor of `Instr` per row of spec/opcode_table.json, with
the operands the events carry. Time stamps are microseconds of the part's own time base (assumption 1). -/

namespace Sys2Proof

/-- The two message ports (11). -/
inductive Port where
  | s
  | m
deriving DecidableEq, Repr

/-- Rail or scanner side: A is the north rail and scanner T0, B the south rail and scanner T1. -/
inductive Side where
  | a
  | b
deriving DecidableEq, Repr

/-- The two sensor pairs (2.1). -/
inductive Pair where
  | west
  | east
deriving DecidableEq, Repr

/-- The four pair sensors (2.1); the gate sensor GS has a row of its own. -/
inductive WheelSensor where
  | wo
  | wi
  | ei
  | eo
deriving DecidableEq, Repr

/-- The shutter state a scanner frame reports (R130). -/
inductive ShutterSense where
  | opened
  | closed
deriving DecidableEq, Repr

/-- The fields of a gauge frame as they arrive (R60). `overRange` and `samples` are in channel order. -/
structure GaugeFrame where
  node      : Byte
  seq       : Byte
  overRange : Vector Bool 4
  samples   : Vector (BitVec 20) 4
  check     : BitVec 16
deriving DecidableEq, Repr

/-- What arrives on a gauge link: a frame, or one that came incomplete (R60). -/
inductive GaugeArrival where
  | incomplete
  | frame (f : GaugeFrame)
deriving DecidableEq, Repr

/-- The fields of a scanner frame as they arrive (R130). -/
structure ScannerFrame where
  node        : Byte
  seq         : Byte
  shutter     : ShutterSense
  shutterTemp : BitVec 16
  sample      : BitVec 16
  check       : BitVec 16
deriving DecidableEq, Repr

/-- What arrives on a scanner link. -/
inductive ScannerArrival where
  | incomplete
  | frame (f : ScannerFrame)
deriving DecidableEq, Repr

/-- The commands, one per row of spec/opcode_table.json in the table's order. The request rows name the port
whose oldest unserved request is served; the values a request carries stand in that queued frame. -/
inductive Instr where
  | powerOn
  | portFramingReady (p : Port)
  | frameReceived (p : Port) (t : Nat) (bytes : List Byte)
  | badKind (p : Port)
  | status (p : Port)
  | clockSet (p : Port)
  | enable (p : Port)
  | disable (p : Port)
  | dormancyOn (p : Port)
  | dormancyOff (p : Port)
  | restart (p : Port)
  | configSet (p : Port)
  | configGet (p : Port)
  | calibrationSet (p : Port)
  | calibrationGet (p : Port)
  | channelState (p : Port)
  | trainList (p : Port)
  | trainHeader (p : Port)
  | axlesRead (p : Port)
  | vehiclesRead (p : Port)
  | trainStream (p : Port)
  | trainRelease (p : Port)
  | alertTake (p : Port)
  | alertCount (p : Port)
  | outputFrameSent (p : Port)
  | streamPage (p : Port)
  | lineBreak (p : Port)
  | lineBreakEnd (p : Port)
  | approachRisingEdge (t : Nat)
  | approachFallingEdge (t : Nat)
  | armingTimerExpiry
  | sweepTimerExpiry
  | sweepDurationExpiry
  | restTimerExpiry
  | siteClockTick
  | wheelSensorEdge (w : WheelSensor) (t : Nat)
  | gateSensorEdge (t : Nat)
  | pairTimerExpiry (pr : Pair)
  | haltTimerExpiry
  | clearTimerExpiry
  | standTimerExpiry
  | gaugeFrame (g : Fin 4) (t : Nat) (a : GaugeArrival)
  | gaugeLossTimerExpiry (g : Fin 4)
  | quietTimerExpiry (k : Fin 16)
  | scannerFrame (x : Side) (t : Nat) (a : ScannerArrival)
  | scannerLossTimerExpiry (x : Side)
  | shutterTimerExpiry (x : Side)
  | gateTimeExpiry
  | evaluationCompletion (e : Fin 2)
  | sweepStep
deriving DecidableEq, Repr

end Sys2Proof
end

