-- ==== Sys2Proof/Decode.lean ====
section
/-! DEFINITION. The command a word spells by the bits of spec/opcode_table.json. The table gives no row any
bits (every row has empty fields and no fixed bits), so no word spells a command (assumption 19). -/

namespace Sys2Proof

/-- No row of the table has bits: every word is answered `none`. -/
def decodeTableWord (_nbits _w : Nat) : Option Instr := none

end Sys2Proof
end

