-- ==== Sys2Proof/Config.lean ====
section
/-! DEFINITION. What the part fixes once for all (capacities and full scales the manual states) and the one
free value of the model. The settings a host can change are the configuration items of Machine/Items.lean. -/

namespace Sys2Proof.Config

/-- LMAX, wheel load full scale in 0.1 kN (spec/00_scope.md, Quantities). -/
def loadMax : Nat := 6000

/-- Axle records an axle table can hold (R155). -/
def axleTable : Nat := 512

/-- Vehicle records a vehicle table can hold (R156). -/
def vehicleTable : Nat := 256

/-- Requests a lane can hold (R98). -/
def laneDepth : Nat := 16

/-- Requests a lane may hold for the closing sweep to add one (R107). -/
def sweepRoom : Nat := 7

/-- Entries an alert level queue can hold (R165). -/
def alertDepth : Nat := 32

/-- Requests a port's request queue can hold (R172). -/
def requestDepth : Nat := 2

/-- Notices that can wait in a port's output queue (R173). -/
def noticeDepth : Nat := 16

/-- Classes the spacing history can hold (R49). -/
def historyDepth : Nat := 6

/-- The top of a held 32-bit count: baseline ages in ms (R68), calibration ages in s (R132). -/
def ageMax : Nat := 4294967295

/-- Payload bytes a frame has room for behind an outcome byte: L is at most 250 and counts kind, tag and
payload (11.7). -/
def replyRoom : Nat := 247

/-- FREE VALUE (assumption 14): the rise R145 states as peak minus ambient, for a gate record that carries a
peak but no ambient. The manual gives it no value. Nothing can be proved of it. -/
opaque freeRise : Int → Int

end Sys2Proof.Config
end

