-- ==== Sys2Proof/Machine/Items.lean ====
section
/-! DEFINITION. The 54 configuration items of 11.5: number, range and default. An approach mode is 0 for
PULSE and 1 for LEVEL; an alert mask is a set of levels with NOTICE as bit 0, WATCH bit 1, ALERT bit 2 and
CRITICAL bit 3. -/

namespace Sys2Proof.Machine

/-- The configuration items, in the order of their numbers 1..54. -/
inductive Item where
  | approachMode
  | tarm
  | tsweep
  | dsweep
  | settleSamples
  | dpair
  | tpair
  | gmax
  | thaltMin
  | thaltMax
  | tclear
  | tstand
  | shortMax
  | midMax
  | speedTol
  | kFine
  | kCoarse
  | wfast
  | zmax
  | tquiet
  | ton
  | toff
  | nclose
  | lmin
  | lmax
  | pstart
  | pend
  | gtol
  | tlost
  | gFactor
  | twatch
  | talert
  | qalert
  | hcrit
  | vimp
  | vmax
  | amax
  | imax
  | emax
  | gainA
  | gainB
  | lg
  | ka
  | calBlocks
  | tcalSkip
  | calMaxAge
  | thot
  | twarm
  | tmate
  | tfloor
  | trel
  | relMinCount
  | maskS
  | maskM
deriving DecidableEq, Repr

/-- All items in the order of their numbers. -/
def Item.all : List Item :=
  [.approachMode, .tarm, .tsweep, .dsweep, .settleSamples, .dpair, .tpair, .gmax, .thaltMin,
   .thaltMax, .tclear, .tstand, .shortMax, .midMax, .speedTol, .kFine, .kCoarse, .wfast,
   .zmax, .tquiet, .ton, .toff, .nclose, .lmin, .lmax, .pstart, .pend,
   .gtol, .tlost, .gFactor, .twatch, .talert, .qalert, .hcrit, .vimp, .vmax,
   .amax, .imax, .emax, .gainA, .gainB, .lg, .ka, .calBlocks, .tcalSkip,
   .calMaxAge, .thot, .twarm, .tmate, .tfloor, .trel, .relMinCount, .maskS, .maskM]

/-- The place of an item: its number less one. -/
def Item.idx (i : Item) : Fin 54 := ⟨i.ctorIdx, by cases i <;> decide⟩

/-- The number of an item (11.5). -/
def Item.number (i : Item) : Nat := i.ctorIdx + 1

/-- The item a number names, `none` outside 1..54 (R176). -/
def Item.ofNumber (n : Nat) : Option Item :=
  match n with
  | 0 => none
  | k + 1 => Item.all[k]?

/-- Lowest value, highest value and default of an item (11.5). -/
def Item.table : Item → Nat × Nat × Nat
  | .approachMode => (0, 1, 0)
  | .tarm => (10, 600, 120)
  | .tsweep => (10, 3600, 240)
  | .dsweep => (1, 30, 3)
  | .settleSamples => (0, 1000, 200)
  | .dpair => (100, 1000, 250)
  | .tpair => (500, 5000, 2000)
  | .gmax => (5000, 40000, 20000)
  | .thaltMin => (1, 10, 2)
  | .thaltMax => (5, 120, 30)
  | .tclear => (2, 120, 10)
  | .tstand => (60, 7200, 900)
  | .shortMax => (1000, 3000, 2200)
  | .midMax => (2500, 6000, 4500)
  | .speedTol => (5, 50, 25)
  | .kFine => (4, 12, 8)
  | .kCoarse => (1, 6, 3)
  | .wfast => (100, 50000, 2000)
  | .zmax => (5, 300, 300)
  | .tquiet => (10, 500, 50)
  | .ton => (50, 2000, 150)
  | .toff => (20, 1990, 100)
  | .nclose => (1, 16, 3)
  | .lmin => (50, 1000, 150)
  | .lmax => (500, 4000, 1600)
  | .pstart => (0, 3990, 200)
  | .pend => (10, 4000, 500)
  | .gtol => (0, 8, 2)
  | .tlost => (1, 50, 5)
  | .gFactor => (0, 3, 2)
  | .twatch => (0, 6000, 600)
  | .talert => (0, 6000, 1500)
  | .qalert => (100, 999, 250)
  | .hcrit => (1000, 6000, 4000)
  | .vimp => (0, 20000, 4200)
  | .vmax => (10000, 50000, 36000)
  | .amax => (1000, 12000, 3300)
  | .imax => (1, 100, 20)
  | .emax => (1, 100, 30)
  | .gainA => (1, 4095, 40)
  | .gainB => (1, 4095, 40)
  | .lg => (100, 2000, 400)
  | .ka => (4, 14, 10)
  | .calBlocks => (1, 8, 4)
  | .tcalSkip => (1, 240, 15)
  | .calMaxAge => (1, 24, 6)
  | .thot => (100, 2500, 800)
  | .twarm => (100, 2500, 500)
  | .tmate => (50, 2000, 300)
  | .tfloor => (0, 2000, 200)
  | .trel => (50, 2000, 350)
  | .relMinCount => (4, 64, 8)
  | .maskS => (0, 15, 15)
  | .maskM => (0, 15, 12)

/-- The lowest value of an item's range. -/
def Item.lo (i : Item) : Nat := i.table.1

/-- The highest value of an item's range. -/
def Item.hi (i : Item) : Nat := i.table.2.1

/-- The default of an item. -/
def Item.default (i : Item) : Nat := i.table.2.2

/-- The two alert masks are the immediate items; every other item is deferred (11.5). -/
def Item.immediate : Item → Bool
  | .maskS => true
  | .maskM => true
  | _ => false

/-- Bytes an item's value takes on a port: the smallest of 1, 2 or 4 that holds its range (11, field encoding;
assumption 6). -/
def Item.width (i : Item) : Nat := if i.hi ≤ 255 then 1 else 2

/-- The defaults of all items, in the order of their numbers. -/
def Item.defaults : Vector Nat 54 :=
  ⟨⟨Item.all.map Item.default⟩, rfl⟩

end Sys2Proof.Machine
end

