-- ==== Sys2Proof/Machine/State.lean ====
section
/-! DEFINITION. The state of the EV-480, block by block, as plain data, and the state after power-on.
Timers are held as their deadline on the time base `State.now` (`none` while stopped). -/

namespace Sys2Proof.Machine

/-! ## Families of like things -/

/-- One value per message port. -/
structure PerPort (α : Type) where
  s : α
  m : α
deriving DecidableEq, Repr

/-- The value of a port. -/
def PerPort.get {α : Type} (x : PerPort α) : Port → α
  | .s => x.s
  | .m => x.m

/-- The value of a port changed by a function. -/
def PerPort.upd {α : Type} (x : PerPort α) (p : Port) (f : α → α) : PerPort α :=
  match p with
  | .s => { x with s := f x.s }
  | .m => { x with m := f x.m }

/-- One value per rail, or per scanner. -/
structure PerSide (α : Type) where
  a : α
  b : α
deriving DecidableEq, Repr

/-- The value of a side. -/
def PerSide.get {α : Type} (x : PerSide α) : Side → α
  | .a => x.a
  | .b => x.b

/-- The value of a side changed by a function. -/
def PerSide.upd {α : Type} (x : PerSide α) (y : Side) (f : α → α) : PerSide α :=
  match y with
  | .a => { x with a := f x.a }
  | .b => { x with b := f x.b }

/-- One value per sensor pair. -/
structure PerPair (α : Type) where
  west : α
  east : α
deriving DecidableEq, Repr

/-- The value of a pair. -/
def PerPair.get {α : Type} (x : PerPair α) : Pair → α
  | .west => x.west
  | .east => x.east

/-- The value of a pair changed by a function. -/
def PerPair.upd {α : Type} (x : PerPair α) (y : Pair) (f : α → α) : PerPair α :=
  match y with
  | .west => { x with west := f x.west }
  | .east => { x with east := f x.east }

/-- The four lanes of the Evaluation Engine (R97). -/
inductive Lane where
  | a
  | b
  | thermal
  | vehicle
deriving DecidableEq, Repr

/-- One value per lane. -/
structure PerLane (α : Type) where
  a : α
  b : α
  thermal : α
  vehicle : α
deriving DecidableEq, Repr

/-- The value of a lane. -/
def PerLane.get {α : Type} (x : PerLane α) : Lane → α
  | .a => x.a
  | .b => x.b
  | .thermal => x.thermal
  | .vehicle => x.vehicle

/-- The value of a lane changed by a function. -/
def PerLane.upd {α : Type} (x : PerLane α) (y : Lane) (f : α → α) : PerLane α :=
  match y with
  | .a => { x with a := f x.a }
  | .b => { x with b := f x.b }
  | .thermal => { x with thermal := f x.thermal }
  | .vehicle => { x with vehicle := f x.vehicle }

/-- The alert levels, lowest first (Orders of grades). -/
inductive AlertLevel where
  | notice
  | watch
  | alert
  | critical
deriving DecidableEq, Repr

/-- One value per alert level. -/
structure PerLevel (α : Type) where
  notice : α
  watch : α
  alert : α
  critical : α
deriving DecidableEq, Repr

/-- The value of an alert level. -/
def PerLevel.get {α : Type} (x : PerLevel α) : AlertLevel → α
  | .notice => x.notice
  | .watch => x.watch
  | .alert => x.alert
  | .critical => x.critical

/-- The value of an alert level changed by a function. -/
def PerLevel.upd {α : Type} (x : PerLevel α) (l : AlertLevel) (f : α → α) : PerLevel α :=
  match l with
  | .notice => { x with notice := f x.notice }
  | .watch => { x with watch := f x.watch }
  | .alert => { x with alert := f x.alert }
  | .critical => { x with critical := f x.critical }

/-! ## Site Sequencer (01) -/

/-- The site state (R1). -/
inductive SiteState where
  | offline
  | dormant
  | sweep
  | patrol
  | armed
  | passage
deriving DecidableEq, Repr

/-- The cause a SITE STATE notice carries (R4). -/
inductive Cause where
  | powerOn
  | enable
  | disable
  | dormancy
  | restart
  | approach
  | approachTimeout
  | approachRelease
  | trainStart
  | trainClosure
  | sweepStart
  | sweepEnd
  | wheelWake
  | rest
deriving DecidableEq, Repr

/-- The state of the Site Sequencer (R2). -/
structure Ssq where
  site           : SiteState
  dormancy       : Bool
  disablePending : Bool
  latch          : Bool
  armTimer       : Option Nat
  sweepTimer     : Option Nat
  sweepDurTimer  : Option Nat
  restTimer      : Option Nat
  streaming      : Bool
  falseApproach  : Nat
  clock          : Clock
  /-- When the site clock advances next (R18). -/
  clockDue       : Nat
  /-- The level of the approach input pin (R10). -/
  approachInput  : Bool
deriving DecidableEq, Repr

/-! ## Axle Tracker (02) -/

/-- Geographic direction of travel. -/
inductive Direction where
  | east
  | west
deriving DecidableEq, Repr

/-- Direction relative to d0 (R26). -/
inductive RelDir where
  | forward
  | reverse
deriving DecidableEq, Repr

/-- The motion state of an open train (R26). -/
inductive Motion where
  | movingFwd
  | movingRev
  | halted
deriving DecidableEq, Repr

/-- The state of a pair machine, with the held time stamp of its pending first edge (R21). -/
inductive PairState where
  | idle
  | outerFirst (held : Nat)
  | innerFirst (held : Nat)
deriving DecidableEq, Repr

/-- A sensor-pair machine with its pair timer and half-crossing count (R21, R23). -/
structure PairMachine where
  st            : PairState
  timer         : Option Nat
  halfCrossings : Nat
deriving DecidableEq, Repr

/-- What the tracker holds for the open train (R26 to R42). -/
structure OpenTrain where
  slot       : Fin 4
  number     : Nat
  d0         : Direction
  entry      : Pair
  motion     : Motion
  lastDir    : RelDir
  /-- Current speed in mm/s; 0 while HALTED. -/
  speed      : Nat
  lastSpeed  : Nat
  n          : Nat
  h          : Nat
  x          : Nat
  haltTimer  : Option Nat
  clearTimer : Option Nat
  standTimer : Option Nat
  /-- Time and travel direction of the last accepted crossing of each pair (R27). -/
  lastCross  : PerPair (Option (Nat × Direction))
deriving DecidableEq, Repr

/-- The Axle Tracker (R44). -/
structure Axt where
  pairs         : PerPair PairMachine
  train         : Option OpenTrain
  continuation  : Bool
  stray         : Nat
  unenteredExit : Nat
  pointerClamp  : Nat
deriving DecidableEq, Repr

/-! ## Vehicle Segmenter (03) -/

/-- Spacing classes (R48). -/
inductive SpacingClass where
  | short
  | mid
  | long
  | unknown
deriving DecidableEq, Repr

/-- What the segmenter holds of a vehicle opened and not removed (chapter 3, state list). -/
structure SegVehicle where
  first       : Nat
  deficitMark : Bool
deriving DecidableEq, Repr

/-- The Vehicle Segmenter (R59). `history` and `vehicles` have the newest entry first; the head of `vehicles`
is the open vehicle, and the vehicle count V is the length of `vehicles`. -/
structure Vsg where
  history     : List SpacingClass
  deficit     : Nat
  /-- Speed and inner-sensor time stamp of the last forward entry (R46). -/
  reference   : Option (Nat × Nat)
  interrupted : Bool
  vehicles    : List SegVehicle
deriving DecidableEq, Repr

/-! ## Gauge side (04) -/

/-- The state of a gauge node (R61). -/
inductive NodeStatus where
  | off
  | settling
  | present
  | lost
deriving DecidableEq, Repr

/-- A command over a sensor link (R3). -/
inductive StreamCommand where
  | streamOn
  | streamOff
deriving DecidableEq, Repr

/-- A gauge node (R60 to R66). `prev` is absent while the sequence is unsynchronised. -/
structure GaugeNode where
  status    : NodeStatus
  prev      : Option Byte
  settle    : Nat
  lossTimer : Option Nat
  bad       : Nat
  duplicate : Nat
  missing   : Nat
  losses    : Nat
  /-- The stream commands the part has sent over this link since power-on, oldest first (R3, assumption 22). -/
  sent      : List StreamCommand
deriving DecidableEq, Repr

/-- A channel's calibration record (R72). `isSet` is false for the state DEFAULT. -/
structure CalRecord where
  b1    : Nat
  b2    : Nat
  b3    : Nat
  m0    : Nat
  m1    : Nat
  m2    : Nat
  m3    : Nat
  isSet : Bool
deriving DecidableEq, Repr

/-- The default calibration record (R72). -/
def CalRecord.default : CalRecord :=
  { b1 := 100000, b2 := 200000, b3 := 300000, m0 := 4096, m1 := 4096, m2 := 4096, m3 := 4096, isSet := false }

/-- A Gauge Channel Unit (R68). `z` is absent while the baseline is UNSET; the age counts from `ageFrom`. -/
structure Channel where
  z          : Option Int
  ageFrom    : Nat
  quiet      : Option Nat
  cal        : CalRecord
  pendingCal : Option CalRecord
deriving DecidableEq, Repr

/-! ## Crib Capture Units (05) -/

/-- Which way an opening moved its pointer (R79, R139). -/
inductive Move where
  | forward
  | reverse
deriving DecidableEq, Repr

/-- An open capture (R79). `axle` is absent for an ORPHAN capture. -/
structure Capture where
  slot          : Fin 4
  axle          : Option Nat
  move          : Option Move
  dir           : Direction
  speed         : Nat
  staleAtOpen   : Bool
  defaultAtOpen : Bool
  distance      : Nat
  peak          : Nat
  plateauSum    : Nat
  plateauCount  : Nat
  lowCount      : Nat
  gapCount      : Nat
  gapped        : Bool
  saturated     : Bool
  reversed      : Bool
deriving DecidableEq, Repr

/-- A Crib Capture Unit (R79). -/
structure CaptureUnit where
  pointer    : Nat
  capture    : Option Capture
  staleSeen  : Bool
  orphan     : Nat
  noise      : Nat
  undone     : Nat
  unrecorded : Nat
deriving DecidableEq, Repr

/-! ## Records of a report (05, 07, 08, 09) -/

/-- A crib record (R92). -/
structure CribRecord where
  plateau    : Option Nat
  peak       : Nat
  speed      : Nat
  dir        : Direction
  stale      : Bool
  truncated  : Bool
  gapped     : Bool
  reversed   : Bool
  saturated  : Bool
  defaultCal : Bool
deriving DecidableEq, Repr

/-- The eight places of one rail's crib set with its dirty flag (R93, R97). -/
structure CribSet where
  places : Vector (Option CribRecord) 8
  dirty  : Bool
deriving DecidableEq, Repr

/-- A gate record (R143). -/
structure GateRecord where
  peak      : Option Int
  count     : Nat
  ambient   : Option Int
  gapped    : Bool
  truncated : Bool
  calAged   : Bool
  calNone   : Bool
deriving DecidableEq, Repr

/-- Quality grades, lowest first. -/
inductive Quality where
  | incomplete
  | degraded
  | full
deriving DecidableEq, Repr

/-- Result levels, lowest first. -/
inductive ResultLevel where
  | absent
  | normal
  | watch
  | alert
  | critical
deriving DecidableEq, Repr

/-- Bearing levels, lowest first. -/
inductive BearingLevel where
  | absent
  | normal
  | warm
  | hot
deriving DecidableEq, Repr

/-- A wheel result (R119). -/
structure WheelResult where
  quality  : Quality
  assessed : Bool
  w        : Option Nat
  d        : Option Nat
  hMax     : Option Nat
  q        : Option Nat
  ve       : Option Nat
  level    : ResultLevel
deriving DecidableEq, Repr

/-- The axle results (R122), present together. -/
structure AxleResults where
  load      : Nat
  quality   : Quality
  imbalance : Nat
deriving DecidableEq, Repr

/-- A bearing result (R145). -/
structure BearingResult where
  quality : Quality
  peak    : Option Int
  ambient : Option Int
  rise    : Option Int
  mdiff   : Option Int
  rel     : Option Int
  level   : BearingLevel
deriving DecidableEq, Repr

/-- An axle record (R32, R155). -/
structure AxleRecord where
  index         : Nat
  entryTime     : Clock
  entrySpeed    : Nat
  spacing       : Option (Nat × SpacingClass)
  vehicle       : Option Nat
  pass          : Nat
  cribs         : PerSide CribSet
  gates         : PerSide (Option GateRecord)
  gateDirty     : Bool
  wheels        : PerSide (Option WheelResult)
  peakWheel     : ResultLevel
  results       : Option AxleResults
  overloadMark  : Bool
  imbalanceMark : Bool
  bearings      : PerSide (Option BearingResult)
  peakBearing   : BearingLevel
  counted       : PerSide Bool
deriving DecidableEq, Repr

/-- A vehicle's form (R52). -/
inductive Form where
  | two
  | four
  | six
  | unclassified
deriving DecidableEq, Repr

/-- A vehicle record (R56, R156). -/
structure VehicleRecord where
  index        : Nat
  first        : Nat
  count        : Nat
  form         : Option Form
  isOpen       : Bool
  dirty        : Bool
  gross        : Option Nat
  endImbalance : Option Nat
  worstWheel   : ResultLevel
  worstBearing : BearingLevel
  quality      : Option Quality
  endMark      : Bool
deriving DecidableEq, Repr

/-- Closure kinds (R42). -/
inductive ClosureKind where
  | completePass
  | withdrawn
  | standing
deriving DecidableEq, Repr

/-- The header flags (R154). -/
structure HeaderFlags where
  noApproach        : Bool
  continuation      : Bool
  calAborted        : Bool
  haltedOnSite      : Bool
  reversed          : Bool
  directionConflict : Bool
  countConflict     : Bool
  axleOverflow      : Bool
  vehicleOverflow   : Bool
  staleChannels     : Bool
  aborted           : Bool
deriving DecidableEq, Repr

/-- Axle records standing at each peak wheel level (R154). -/
structure WheelCounts where
  normal   : Nat
  watch    : Nat
  alert    : Nat
  critical : Nat
deriving DecidableEq, Repr

/-- Axle records standing at each peak bearing level (R154). -/
structure BearingCounts where
  normal : Nat
  warm   : Nat
  hot    : Nat
deriving DecidableEq, Repr

/-- The train header (R153). -/
structure Header where
  number        : Nat
  slot          : Fin 4
  d0            : Direction
  entry         : Pair
  startTime     : Clock
  endTime       : Option Clock
  closure       : Option ClosureKind
  flags         : HeaderFlags
  h             : Nat
  recorded      : Nat
  vehicles      : Nat
  minSpeed      : Option Nat
  maxSpeed      : Option Nat
  thermalSum    : PerSide Int
  thermalCount  : PerSide Nat
  wheelPeaks    : WheelCounts
  bearingPeaks  : BearingCounts
  dropped       : Nat
  /-- The stale channel set, channel k as bit k. -/
  staleChannels : BitVec 16
deriving DecidableEq, Repr

/-- A train report: header, axle table and vehicle table, each in index order (R155, R156). -/
structure Report where
  header   : Header
  axles    : List AxleRecord
  vehicles : List VehicleRecord
deriving DecidableEq, Repr

/-- The state of a report slot that is not FREE (R150). -/
inductive SlotState where
  | filling
  | closing
  | complete
  | released
deriving DecidableEq, Repr

/-- A report slot that is not FREE. -/
structure HeldSlot where
  st     : SlotState
  report : Report
deriving DecidableEq, Repr

/-- The Report Store (R163). A FREE slot is `none`: it holds no header and no records. -/
structure Rps where
  slots         : Vector (Option HeldSlot) 4
  /-- The allocation order, oldest first (R150). -/
  order         : List (Fin 4)
  trainCounter  : Nat
  droppedWrites : Nat
deriving DecidableEq, Repr

/-! ## Thermal Scanner Unit (08) -/

/-- The state of a scanner node (R130). -/
inductive ScannerStatus where
  | off
  | present
  | lost
deriving DecidableEq, Repr

/-- The state of a scanner's calibration record (R132). -/
inductive CalState where
  | none
  | valid
  | failed
deriving DecidableEq, Repr

/-- The values of a usable scanner calibration record (R132); the age counts from `validAt`. -/
structure CalReference where
  sRef    : Nat
  tRef    : Int
  time    : Clock
  validAt : Nat
deriving DecidableEq, Repr

/-- Calibration progress (R135). -/
inductive CalProgress where
  | idle
  | waiting
  | accumulating
deriving DecidableEq, Repr

/-- A scanner with its node, calibration and ambient (R130 to R138). -/
structure Scanner where
  status        : ScannerStatus
  prev          : Option Byte
  lossTimer     : Option Nat
  bad           : Nat
  duplicate     : Nat
  missing       : Nat
  losses        : Nat
  calState      : CalState
  ref           : Option CalReference
  progress      : CalProgress
  shutterTimer  : Option Nat
  calSum        : Nat
  calCount      : Nat
  shutterClosed : Bool
  /-- The ambient A in 1/64 of 0.1 degree; absent while unset. -/
  ambient       : Option Int
  /-- The stream commands the part has sent over this link since power-on, oldest first (R3, assumption 22). -/
  sent          : List StreamCommand
deriving DecidableEq, Repr

/-- An open gate of one scanner (R139, R141). -/
structure Gate where
  count    : Nat
  peak     : Option Int
  gapCount : Nat
  gapped   : Bool
  calNone  : Bool
  calAged  : Bool
deriving DecidableEq, Repr

/-- The remaining time of a gate pair: running down to a deadline, or held (R140). -/
inductive GateClock where
  | running (deadline : Nat)
  | held (remaining : Nat)
deriving DecidableEq, Repr

/-- An open gate pair (R139). `undone`, `stored` and `urgent` say what its closed gates have come to. -/
structure GatePair where
  axle   : Option Nat
  move   : Option Move
  dir    : Direction
  clock  : GateClock
  gates  : PerSide (Option Gate)
  undone : Bool
  stored : Bool
  urgent : Bool
deriving DecidableEq, Repr

/-- The Thermal Scanner Unit (R149). -/
structure Tsu where
  scanners   : PerSide Scanner
  pointer    : Nat
  pair       : Option GatePair
  gateOrphan : Nat
  gateUndone : Nat
  calSkip    : Nat
deriving DecidableEq, Repr

/-! ## Evaluation Engine (06) -/

/-- An evaluation request (R97). -/
structure Request where
  lane   : Lane
  slot   : Fin 4
  number : Nat
  target : Nat
  urgent : Bool
deriving DecidableEq, Repr

/-- The axle indices `first` up to `first + count - 1` of a report slot (R99). -/
structure Coverage where
  slot  : Fin 4
  first : Nat
  count : Nat
deriving DecidableEq, Repr

/-- What a vehicle snapshot holds of one axle record (R103). -/
structure AxleSnap where
  results     : Option AxleResults
  peakWheel   : ResultLevel
  peakBearing : BearingLevel
deriving DecidableEq, Repr

/-- The snapshot of a vehicle record that held the index at the grant (R103). `axles` has the range's axles
that have a record, in index order. -/
structure VehicleSnap where
  index  : Nat
  first  : Nat
  count  : Nat
  isOpen : Bool
  axles  : List AxleSnap
deriving DecidableEq, Repr

/-- The snapshot of a THERMAL target (R103). -/
structure ThermalSnap where
  gates  : PerSide (Option GateRecord)
  sum    : PerSide Int
  count  : PerSide Nat
  status : PerSide ScannerStatus
deriving DecidableEq, Repr

/-- What an evaluation read at its grant (R103). -/
inductive Snapshot where
  | rail (places : Vector (Option CribRecord) 8)
  | thermal (t : ThermalSnap)
  | vehicle (v : Option VehicleSnap)
deriving DecidableEq, Repr

/-- An evaluation in flight (R99), with the configuration values at its grant (R103). -/
structure Evaluation where
  req      : Request
  coverage : Coverage
  snapshot : Snapshot
  config   : Vector Nat 54
  changed  : Bool
  removed  : Bool
deriving DecidableEq, Repr

/-- The three sets of an axle record the closing sweep visits (R107). -/
inductive SetKind where
  | railA
  | railB
  | gate
deriving DecidableEq, Repr

/-- The cursor of the closing sweep (R107). -/
inductive SweepPos where
  | axle (i : Nat) (k : SetKind)
  | vehicle (j : Nat)
deriving DecidableEq, Repr

/-- The Evaluation Engine (R111). The head of `sweepQueue` is the slot the sweep serves. -/
structure Evu where
  lanes        : PerLane (List Request)
  lrg          : List Lane
  urgentMark   : Bool
  evals        : Vector (Option Evaluation) 2
  sweepQueue   : List (Fin 4)
  sweepPos     : SweepPos
  sweepWaiting : Bool
  sweepResting : Bool
  rewalk       : Bool
  dropped      : PerLane Nat
  discarded    : PerLane Nat
deriving DecidableEq, Repr

/-! ## Alert Queues (10) -/

/-- Alert kinds, in the order of the table of 10.1. -/
inductive AlertKind where
  | wheelImpact
  | axleOverload
  | sideImbalance
  | endImbalance
  | bearingHot
  | bearingWarm
  | nodeLost
  | calFailed
  | channelStale
  | slotOverwritten
  | countConflict
deriving DecidableEq, Repr

/-- What a block hands over when it posts an alert (R164). `train` is the train number and slot. -/
structure AlertDraft where
  level   : AlertLevel
  kind    : AlertKind
  train   : Option (Nat × Fin 4)
  axle    : Option Nat
  vehicle : Option Nat
  side    : Option Side
  value   : Int
deriving DecidableEq, Repr

/-- An alert entry (R164). -/
structure AlertEntry where
  number : Nat
  draft  : AlertDraft
  time   : Clock
deriving DecidableEq, Repr

/-- The Alert Queues (R170). Queues have the oldest entry first. -/
structure Atq where
  queues : PerLevel (List AlertEntry)
  lost   : PerLevel Nat
  number : Nat
deriving DecidableEq, Repr

/-! ## Message Ports and Configuration (11) -/

/-- A port's receiver (R171), with the bytes of the frame collected so far. -/
inductive Receiver where
  | hunt
  | length
  | body (len : Byte) (got : List Byte)
deriving DecidableEq, Repr

/-- A request in a port's queue (R172). `served` says that its reply has been made. -/
structure QueuedRequest where
  kind    : Byte
  tag     : Byte
  payload : List Byte
  served  : Bool
deriving DecidableEq, Repr

/-- What an output frame is: a frame of a reply (its last one or not), a notice, or a stream page. -/
inductive FrameClass where
  | reply (last : Bool)
  | notice
  | page
deriving DecidableEq, Repr

/-- A frame the port is to send (R173): kind, tag and payload of 11.7. -/
structure OutFrame where
  kind    : Byte
  tag     : Byte
  payload : List Byte
  cls     : FrameClass
deriving DecidableEq, Repr

/-- A running stream (R174). -/
structure StreamState where
  slot     : Fin 4
  number   : Nat
  tag      : Byte
  nextPage : Nat
deriving DecidableEq, Repr

/-- A port machine (R179). `leaving` is the frame being sent, `waiting` the output queue behind it. -/
structure PortMachine where
  receiver   : Receiver
  requests   : List QueuedRequest
  leaving    : Option OutFrame
  waiting    : List OutFrame
  stream     : Option StreamState
  bad        : Nat
  overflow   : Nat
  noticeLoss : Nat
  lineBreaks : Nat
  /-- A break stands on the line (R178). -/
  broken     : Bool
  /-- The notice of R2 has been made since power-on. -/
  ready      : Bool
deriving DecidableEq, Repr

/-- Message Ports and Configuration (R177, R179). Values are held in the order of the item numbers. -/
structure Mpc where
  ports      : PerPort PortMachine
  active     : Vector Nat 54
  pendingCfg : Vector (Option Nat) 54
deriving DecidableEq, Repr

/-! ## The whole machine -/

/-- The state of the part. `now` is the part's own time base in microseconds (R20, assumption 1); `pending` is
the queue of commands waiting, first in, first out. -/
structure State where
  now      : Nat
  ssq      : Ssq
  axt      : Axt
  vsg      : Vsg
  nodes    : Vector GaugeNode 4
  channels : Vector Channel 16
  units    : Vector CaptureUnit 16
  evu      : Evu
  tsu      : Tsu
  rps      : Rps
  atq      : Atq
  mpc      : Mpc
  pending  : List Instr
deriving DecidableEq, Repr

/-- The faults that stop the part: the manual names none, every command completes in every state. -/
inductive Fault where
deriving DecidableEq, Repr

/-- The refusals of the model. -/
inductive Refusal where
  /-- Raised by `exec` for a row that has no meaning yet. Safe: nothing is claimed of it. No arm answers it. -/
  | notModelled (mnemonic : String)
deriving DecidableEq, Repr

/-! ## Values after power-on -/

/-- The Site Sequencer after power-on (R2). The first advance of the clock is due one second later. -/
def Ssq.reset : Ssq :=
  { site := .offline, dormancy := false, disablePending := false, latch := false, armTimer := none,
    sweepTimer := none, sweepDurTimer := none, restTimer := none, streaming := false, falseApproach := 0,
    clock := 0, clockDue := 1000000, approachInput := false }

/-- A pair machine after power-on (R44). -/
def PairMachine.reset : PairMachine := { st := .idle, timer := none, halfCrossings := 0 }

/-- The Axle Tracker after power-on and after RESTART (R44). -/
def Axt.reset : Axt :=
  { pairs := { west := .reset, east := .reset }, train := none, continuation := false, stray := 0,
    unenteredExit := 0, pointerClamp := 0 }

/-- The Vehicle Segmenter after power-on and after RESTART (R59). -/
def Vsg.reset : Vsg :=
  { history := [], deficit := 0, reference := none, interrupted := false, vehicles := [] }

/-- A gauge node after power-on (R77). -/
def GaugeNode.reset : GaugeNode :=
  { status := .off, prev := none, settle := 0, lossTimer := none, bad := 0, duplicate := 0, missing := 0,
    losses := 0, sent := [] }

/-- A Gauge Channel Unit after power-on (R77). -/
def Channel.reset : Channel :=
  { z := none, ageFrom := 0, quiet := none, cal := .default, pendingCal := none }

/-- A Crib Capture Unit after power-on and after RESTART (R96). -/
def CaptureUnit.reset : CaptureUnit :=
  { pointer := 0, capture := none, staleSeen := false, orphan := 0, noise := 0, undone := 0, unrecorded := 0 }

/-- The Evaluation Engine after power-on (R111). -/
def Evu.reset : Evu :=
  { lanes := { a := [], b := [], thermal := [], vehicle := [] }, lrg := [.a, .b, .thermal, .vehicle],
    urgentMark := false, evals := Vector.replicate 2 none, sweepQueue := [], sweepPos := .axle 0 .railA,
    sweepWaiting := false, sweepResting := false, rewalk := false,
    dropped := { a := 0, b := 0, thermal := 0, vehicle := 0 },
    discarded := { a := 0, b := 0, thermal := 0, vehicle := 0 } }

/-- A scanner after power-on (R149). -/
def Scanner.reset : Scanner :=
  { status := .off, prev := none, lossTimer := none, bad := 0, duplicate := 0, missing := 0, losses := 0,
    calState := .none, ref := none, progress := .idle, shutterTimer := none, calSum := 0, calCount := 0,
    shutterClosed := false, ambient := none, sent := [] }

/-- The Thermal Scanner Unit after power-on (R149). -/
def Tsu.reset : Tsu :=
  { scanners := { a := .reset, b := .reset }, pointer := 0, pair := none, gateOrphan := 0, gateUndone := 0,
    calSkip := 0 }

/-- The Report Store after power-on (R163). -/
def Rps.reset : Rps :=
  { slots := Vector.replicate 4 none, order := [], trainCounter := 0, droppedWrites := 0 }

/-- The Alert Queues after power-on (R170). -/
def Atq.reset : Atq :=
  { queues := { notice := [], watch := [], alert := [], critical := [] },
    lost := { notice := 0, watch := 0, alert := 0, critical := 0 }, number := 0 }

/-- A port machine after power-on (R179). -/
def PortMachine.reset : PortMachine :=
  { receiver := .hunt, requests := [], leaving := none, waiting := [], stream := none, bad := 0, overflow := 0,
    noticeLoss := 0, lineBreaks := 0, broken := false, ready := false }

/-- Message Ports and Configuration after power-on (R177, R179). -/
def Mpc.reset : Mpc :=
  { ports := { s := .reset, m := .reset }, active := Item.defaults, pendingCfg := Vector.replicate 54 none }

/-- The part after power-on (R2, R44, R59, R77, R96, R111, R149, R163, R170, R177, R179). -/
def State.reset : State :=
  { now := 0, ssq := .reset, axt := .reset, vsg := .reset, nodes := Vector.replicate 4 .reset,
    channels := Vector.replicate 16 .reset, units := Vector.replicate 16 .reset, evu := .reset, tsu := .reset,
    rps := .reset, atq := .reset, mpc := .reset, pending := [] }

/-! ## One block of the state changed by a function -/

/-- The Site Sequencer changed. -/
def State.modSsq (s : State) (f : Ssq → Ssq) : State := { s with ssq := f s.ssq }

/-- The Axle Tracker changed. -/
def State.modAxt (s : State) (f : Axt → Axt) : State := { s with axt := f s.axt }

/-- The Vehicle Segmenter changed. -/
def State.modVsg (s : State) (f : Vsg → Vsg) : State := { s with vsg := f s.vsg }

/-- One gauge node changed. -/
def State.modNode (s : State) (g : Fin 4) (f : GaugeNode → GaugeNode) : State :=
  { s with nodes := vupd s.nodes g f }

/-- One channel unit changed. -/
def State.modChannel (s : State) (k : Fin 16) (f : Channel → Channel) : State :=
  { s with channels := vupd s.channels k f }

/-- One capture unit changed. -/
def State.modUnit (s : State) (k : Fin 16) (f : CaptureUnit → CaptureUnit) : State :=
  { s with units := vupd s.units k f }

/-- The Evaluation Engine changed. -/
def State.modEvu (s : State) (f : Evu → Evu) : State := { s with evu := f s.evu }

/-- The Thermal Scanner Unit changed. -/
def State.modTsu (s : State) (f : Tsu → Tsu) : State := { s with tsu := f s.tsu }

/-- The Report Store changed. -/
def State.modRps (s : State) (f : Rps → Rps) : State := { s with rps := f s.rps }

/-- The Alert Queues changed. -/
def State.modAtq (s : State) (f : Atq → Atq) : State := { s with atq := f s.atq }

/-- Ports and configuration changed. -/
def State.modMpc (s : State) (f : Mpc → Mpc) : State := { s with mpc := f s.mpc }

/-- One port machine changed. -/
def State.modPort (s : State) (p : Port) (f : PortMachine → PortMachine) : State :=
  { s with mpc := { s.mpc with ports := s.mpc.ports.upd p f } }

end Sys2Proof.Machine
end

