-- ==== Sys2Proof/Machine/Encode.lean ====
section
/-! DEFINITION. The bytes of named fields on a message port (11, field encoding; 11.7; assumption 6): an integer
takes 1, 2 or 4 bytes, high byte first; an enumeration is its position in its listing, a grade its position in
the orders of the introduction; an optional field follows a presence byte; a set of flags is 1 or 2 bytes with
its first member as bit 0. -/

namespace Sys2Proof.Machine

/-! ## Base encodings -/

/-- A one-byte integer. -/
def u8 (n : Nat) : List Byte := [BitVec.ofNat 8 n]

/-- A two-byte integer, high byte first. -/
def u16 (n : Nat) : List Byte := [BitVec.ofNat 8 (n / 256), BitVec.ofNat 8 n]

/-- A four-byte integer, high byte first. -/
def u32 (n : Nat) : List Byte :=
  [BitVec.ofNat 8 (n / 16777216), BitVec.ofNat 8 (n / 65536), BitVec.ofNat 8 (n / 256), BitVec.ofNat 8 n]

/-- A two-byte signed integer in two's complement. -/
def i16 (n : Int) : List Byte := u16 (BitVec.ofInt 16 n).toNat

/-- A four-byte signed integer in two's complement. -/
def i32 (n : Int) : List Byte := u32 (BitVec.ofInt 32 n).toNat

/-- A field that is set or clear. -/
def flag (b : Bool) : List Byte := if b then [1] else [0]

/-- An optional field: a presence byte, then the field if present. -/
def opt {α : Type} (f : α → List Byte) : Option α → List Byte
  | none => [0]
  | some x => 1 :: f x

/-- The number whose bit k is the k-th member of a set of flags. -/
def flagBits : List Bool → Nat
  | [] => 0
  | b :: bs => (if b then 1 else 0) + 2 * flagBits bs

/-- Two bytes read high byte first. -/
def nat16 (hi lo : Byte) : Nat := hi.toNat * 256 + lo.toNat

/-- Four bytes read high byte first. -/
def nat32 (a b c d : Byte) : Nat := ((a.toNat * 256 + b.toNat) * 256 + c.toNat) * 256 + d.toNat

/-! ## Enumerations and grades -/

/-- Position in the listing of R1. -/
def SiteState.code : SiteState → Nat
  | .offline => 0
  | .dormant => 1
  | .sweep => 2
  | .patrol => 3
  | .armed => 4
  | .passage => 5

/-- Position in the listing of R4. -/
def Cause.code : Cause → Nat
  | .powerOn => 0
  | .enable => 1
  | .disable => 2
  | .dormancy => 3
  | .restart => 4
  | .approach => 5
  | .approachTimeout => 6
  | .approachRelease => 7
  | .trainStart => 8
  | .trainClosure => 9
  | .sweepStart => 10
  | .sweepEnd => 11
  | .wheelWake => 12
  | .rest => 13

/-- EAST, WEST. -/
def Direction.code : Direction → Nat
  | .east => 0
  | .west => 1

/-- West pair, east pair. -/
def pairCode : Pair → Nat
  | .west => 0
  | .east => 1

/-- Side or rail A, B. -/
def sideCode : Side → Nat
  | .a => 0
  | .b => 1

/-- Position in the listing of R26. -/
def Motion.code : Motion → Nat
  | .movingFwd => 0
  | .movingRev => 1
  | .halted => 2

/-- Position in the listing of R61. -/
def NodeStatus.code : NodeStatus → Nat
  | .off => 0
  | .settling => 1
  | .present => 2
  | .lost => 3

/-- Position in the listing of R130. -/
def ScannerStatus.code : ScannerStatus → Nat
  | .off => 0
  | .present => 1
  | .lost => 2

/-- Position in the listing of R132. -/
def CalState.code : CalState → Nat
  | .none => 0
  | .valid => 1
  | .failed => 2

/-- Position in the listing of R135. -/
def CalProgress.code : CalProgress → Nat
  | .idle => 0
  | .waiting => 1
  | .accumulating => 2

/-- Position in the listing of R97. -/
def Lane.code : Lane → Nat
  | .a => 0
  | .b => 1
  | .thermal => 2
  | .vehicle => 3

/-- Position in the alert-level order. -/
def AlertLevel.code : AlertLevel → Nat
  | .notice => 0
  | .watch => 1
  | .alert => 2
  | .critical => 3

/-- Position in the table of 10.1. -/
def AlertKind.code : AlertKind → Nat
  | .wheelImpact => 0
  | .axleOverload => 1
  | .sideImbalance => 2
  | .endImbalance => 3
  | .bearingHot => 4
  | .bearingWarm => 5
  | .nodeLost => 6
  | .calFailed => 7
  | .channelStale => 8
  | .slotOverwritten => 9
  | .countConflict => 10

/-- Position in the quality order. -/
def Quality.rank : Quality → Nat
  | .incomplete => 0
  | .degraded => 1
  | .full => 2

/-- Position in the result-level order. -/
def ResultLevel.rank : ResultLevel → Nat
  | .absent => 0
  | .normal => 1
  | .watch => 2
  | .alert => 3
  | .critical => 4

/-- Position in the bearing-level order. -/
def BearingLevel.rank : BearingLevel → Nat
  | .absent => 0
  | .normal => 1
  | .warm => 2
  | .hot => 3

/-- Position in the listing of R42. -/
def ClosureKind.code : ClosureKind → Nat
  | .completePass => 0
  | .withdrawn => 1
  | .standing => 2

/-- The forms of R52: TWO, FOUR, SIX, UNCLASSIFIED (assumption 6). -/
def Form.code : Form → Nat
  | .two => 0
  | .four => 1
  | .six => 2
  | .unclassified => 3

/-- Position in the listing of R150, where FREE is 0. -/
def slotCode : Option HeldSlot → Nat
  | none => 0
  | some h =>
    match h.st with
    | .filling => 1
    | .closing => 2
    | .complete => 3
    | .released => 4

/-- The spacing class byte of 11.7: 0 is absent. -/
def spacingCode : Option (Nat × SpacingClass) → Nat
  | none => 0
  | some (_, .short) => 1
  | some (_, .mid) => 2
  | some (_, .long) => 3
  | some (_, .unknown) => 4

/-- A quality as its high half byte of 11.7: 0 is absent. -/
def qualityCode : Option Quality → Nat
  | none => 0
  | some q => q.rank + 1

/-! ## Records -/

/-- The flags of a train header in the order of R154. -/
def HeaderFlags.bits (f : HeaderFlags) : Nat :=
  flagBits [f.noApproach, f.continuation, f.calAborted, f.haltedOnSite, f.reversed, f.directionConflict,
    f.countConflict, f.axleOverflow, f.vehicleOverflow, f.staleChannels, f.aborted]

/-- Wheel peak counts, NORMAL to CRITICAL. -/
def WheelCounts.bytes (c : WheelCounts) : List Byte := u16 c.normal ++ u16 c.watch ++ u16 c.alert ++ u16 c.critical

/-- Bearing peak counts, NORMAL to HOT. -/
def BearingCounts.bytes (c : BearingCounts) : List Byte := u16 c.normal ++ u16 c.warm ++ u16 c.hot

/-- The train header in the order of R153; the running sum and count stand side by side, A's pair first
(assumption 6). -/
def Header.bytes (h : Header) : List Byte :=
  u16 h.number ++ u8 h.slot ++ u8 h.d0.code ++ u8 (pairCode h.entry) ++ u32 h.startTime.toNat
    ++ opt (fun t : Clock => u32 t.toNat) h.endTime ++ opt (fun k : ClosureKind => u8 k.code) h.closure
    ++ u16 h.flags.bits ++ u16 h.h ++ u16 h.recorded ++ u16 h.vehicles ++ opt u16 h.minSpeed ++ opt u16 h.maxSpeed
    ++ i32 h.thermalSum.a ++ u16 h.thermalCount.a ++ i32 h.thermalSum.b ++ u16 h.thermalCount.b
    ++ h.wheelPeaks.bytes ++ h.bearingPeaks.bytes ++ u16 h.dropped ++ u16 h.staleChannels.toNat

/-- A crib record in the order of R92. -/
def CribRecord.bytes (c : CribRecord) : List Byte :=
  opt u16 c.plateau ++ u16 c.peak ++ u16 c.speed ++ u8 c.dir.code
    ++ u8 (flagBits [c.stale, c.truncated, c.gapped, c.reversed, c.saturated, c.defaultCal])

/-- A gate record in the order of R143. -/
def GateRecord.bytes (g : GateRecord) : List Byte :=
  opt i16 g.peak ++ u16 g.count ++ opt i16 g.ambient ++ u8 (flagBits [g.gapped, g.truncated, g.calAged, g.calNone])

/-- A bearing result in the order of R145. -/
def BearingResult.bytes (b : BearingResult) : List Byte :=
  u8 b.quality.rank ++ opt i16 b.peak ++ opt i16 b.ambient ++ opt i16 b.rise ++ opt i16 b.mdiff ++ opt i16 b.rel
    ++ u8 b.level.rank

/-- The wheel result byte of offsets 18 and 19 of the axle summary entry. -/
def wheelByte : Option WheelResult → Nat
  | none => 0
  | some r => qualityCode (some r.quality) * 16 + r.level.rank

/-- The static load of a stored wheel result, 0 where absent. -/
def wheelLoadField (r : Option WheelResult) : Nat := (r.bind (·.w)).getD 0

/-- The axle summary entry, 25 bytes (11.7). -/
def AxleRecord.summary (x : AxleRecord) : List Byte :=
  u16 x.index ++ u32 x.entryTime.toNat ++ u16 x.entrySpeed ++ u16 ((x.spacing.map (·.1)).getD 0)
    ++ u8 (spacingCode x.spacing) ++ u8 (x.vehicle.getD 0) ++ u8 x.pass
    ++ u8 (flagBits [x.vehicle.isSome, x.cribs.a.dirty, x.cribs.b.dirty, x.gateDirty])
    ++ u16 (wheelLoadField x.wheels.a) ++ u16 (wheelLoadField x.wheels.b)
    ++ u8 (wheelByte x.wheels.a) ++ u8 (wheelByte x.wheels.b)
    ++ u16 ((x.results.map (·.load)).getD 0) ++ u8 ((x.results.map (·.imbalance)).getD 0)
    ++ u8 (qualityCode (x.results.map (·.quality)) * 16 + x.peakWheel.rank)
    ++ u8 x.peakBearing.rank

/-- The detail of an axle record: sixteen crib places, two gate records, two bearing results (R162, R175). -/
def AxleRecord.detail (x : AxleRecord) : List Byte :=
  (x.cribs.a.places.toList ++ x.cribs.b.places.toList).flatMap (opt CribRecord.bytes)
    ++ opt GateRecord.bytes x.gates.a ++ opt GateRecord.bytes x.gates.b
    ++ opt BearingResult.bytes x.bearings.a ++ opt BearingResult.bytes x.bearings.b

/-- A vehicle record in the order of R156. -/
def VehicleRecord.bytes (v : VehicleRecord) : List Byte :=
  u8 v.index ++ u16 v.first ++ u16 v.count ++ opt (fun f : Form => u8 f.code) v.form ++ u8 (if v.isOpen then 0 else 1)
    ++ opt u32 v.gross ++ opt u8 v.endImbalance ++ u8 v.worstWheel.rank ++ u8 v.worstBearing.rank
    ++ opt (fun q : Quality => u8 q.rank) v.quality ++ flag v.endMark ++ flag v.dirty

/-- The alert entry, 20 bytes (11.7). A field its presence bits show absent holds 0 (assumption 6). -/
def AlertEntry.bytes (e : AlertEntry) : List Byte :=
  u16 e.number ++ u8 e.draft.level.code ++ u8 e.draft.kind.code
    ++ u8 (flagBits [e.draft.train.isSome, e.draft.axle.isSome, e.draft.vehicle.isSome, e.draft.side.isSome])
    ++ u16 ((e.draft.train.map (·.1)).getD 0) ++ u8 ((e.draft.train.map (fun t => t.2.val)).getD 0)
    ++ u16 (e.draft.axle.getD 0) ++ u8 (e.draft.vehicle.getD 0) ++ u8 ((e.draft.side.map sideCode).getD 0)
    ++ i32 e.draft.value ++ u32 e.time.toNat

/-- A calibration record in the order of R72. -/
def CalRecord.bytes (c : CalRecord) : List Byte :=
  u32 c.b1 ++ u32 c.b2 ++ u32 c.b3 ++ u16 c.m0 ++ u16 c.m1 ++ u16 c.m2 ++ u16 c.m3 ++ flag c.isSet

/-- The value of an item in the item's width. -/
def Item.bytes (i : Item) (v : Nat) : List Byte := if i.width = 1 then u8 v else u16 v

/-! ## Outcomes and frames -/

/-- The outcome of a reply (R172). -/
inductive ReplyOutcome where
  | badKind
  | badLength
  | outOfRange
  | done
  | noChange
  | pending
  | now
  | deferred
  | taken
  | empty
  | accepted
  | wrongState
  | conflict
deriving DecidableEq, Repr

/-- The number of an outcome, in the order R172 lists them, from BAD_KIND = 0. -/
def ReplyOutcome.code : ReplyOutcome → Nat
  | .badKind => 0
  | .badLength => 1
  | .outOfRange => 2
  | .done => 3
  | .noChange => 4
  | .pending => 5
  | .now => 6
  | .deferred => 7
  | .taken => 8
  | .empty => 9
  | .accepted => 10
  | .wrongState => 11
  | .conflict => 12

/-- The bytes cut into pieces of at most `n + 1`, in order; at least one piece. -/
def chunks (n : Nat) : Nat → List Byte → List (List Byte)
  | 0, bs => [bs]
  | k + 1, bs => if bs.length ≤ n + 1 then [bs] else bs.take (n + 1) :: chunks n k (bs.drop (n + 1))

/-- The frames of a reply, one per body: each begins with the outcome, whose bit 7 is set in every frame but the
last (R172). -/
def replyFrames (kind tag : Byte) (o : ReplyOutcome) : List (List Byte) → List OutFrame
  | [] => []
  | [b] => [{ kind := kind, tag := tag, payload := BitVec.ofNat 8 o.code :: b, cls := .reply true }]
  | b :: b' :: bs =>
    { kind := kind, tag := tag, payload := BitVec.ofNat 8 (o.code + 128) :: b, cls := .reply false }
      :: replyFrames kind tag o (b' :: bs)

/-- One shift of the check register: generator x^16 + x^12 + x^5 + 1 (R171). -/
def crcShift (r : BitVec 16) : BitVec 16 := if r.msb then (r <<< 1) ^^^ 0x1021#16 else r <<< 1

/-- One byte taken into the check register, most significant bit first (R171). -/
def crcByte (r : BitVec 16) (b : Byte) : BitVec 16 :=
  let x := r ^^^ (b.setWidth 16 <<< 8)
  crcShift (crcShift (crcShift (crcShift (crcShift (crcShift (crcShift (crcShift x)))))))

/-- The check value of R171: the register starts at all ones, and there is no final inversion. -/
def crc (bs : List Byte) : BitVec 16 := bs.foldl crcByte 0xFFFF#16

/-- A frame as it stands on the line: sync, length, kind, tag, payload, check value high byte first (11.7). -/
def OutFrame.wire (f : OutFrame) : List Byte :=
  let counted := BitVec.ofNat 8 (f.payload.length + 2) :: f.kind :: f.tag :: f.payload
  0xC3#8 :: counted ++ u16 (crc counted).toNat

end Sys2Proof.Machine
end

