-- ==== Sys2Proof/Machine/Ops.lean ====
section
/-! DEFINITION. Shared operations: the time base, configuration values, output frames and notices, alerts, writes
to the Report Store, and the marks of evaluations in flight. -/

namespace Sys2Proof.Machine

/-! ## Time and configuration -/

/-- The time base moved forward to `t`, never back (assumption 1). -/
def State.advance (t : Nat) (s : State) : State := { s with now := max s.now t }

/-- The active value of an item. -/
def State.cfg (s : State) (i : Item) : Nat := s.mpc.active[i.idx]

/-- The future value of an item: its pending value if one is held, its active value otherwise (R176). -/
def State.futureCfg (s : State) (i : Item) : Nat := (s.mpc.pendingCfg[i.idx]).getD (s.cfg i)

/-- The approach mode is LEVEL. -/
def State.levelMode (s : State) : Bool := s.cfg .approachMode == 1

/-! ## Output frames and notices -/

/-- A frame made for a port: it begins to leave if nothing is leaving, and waits otherwise (R173). -/
def PortMachine.push (f : OutFrame) (pm : PortMachine) : PortMachine :=
  match pm.leaving with
  | none => { pm with leaving := some f }
  | some _ => { pm with waiting := pm.waiting ++ [f] }

/-- The notices that wait in a port's output queue (R173). -/
def PortMachine.waitingNotices (pm : PortMachine) : Nat := pm.waiting.countP (fun f => f.cls == .notice)

/-- A notice made for a port: discarded and counted during a break (R178) and beside 16 waiting notices (R173),
a frame with tag 0 otherwise. -/
def PortMachine.notice (kind : Byte) (payload : List Byte) (pm : PortMachine) : PortMachine :=
  if pm.broken || Config.noticeDepth ≤ pm.waitingNotices then { pm with noticeLoss := sat16 (pm.noticeLoss + 1) }
  else pm.push { kind := kind, tag := 0, payload := payload, cls := .notice }

/-- A notice made for one port. -/
def State.noticeTo (p : Port) (kind : Byte) (payload : List Byte) (s : State) : State :=
  s.modPort p (·.notice kind payload)

/-- A notice made for both ports. -/
def State.noticeBoth (kind : Byte) (payload : List Byte) (s : State) : State :=
  (s.noticeTo .s kind payload).noticeTo .m kind payload

/-- The payload of a SITE STATE notice (R4). -/
def siteStatePayload (new : SiteState) (previous : Option SiteState) (cause : Cause) (disablePending : Bool)
    (time : Clock) : List Byte :=
  u8 new.code ++ opt (fun x : SiteState => u8 x.code) previous ++ u8 cause.code ++ flag disablePending ++ u32 time.toNat

/-- The payload of a STREAM END notice (R175): `ending` is 0 COMPLETE, 1 INTERRUPTED, 2 SLOT_GONE. -/
def streamEndPayload (st : StreamState) (ending : Nat) : List Byte :=
  u8 st.slot ++ u16 st.number ++ u8 ending ++ u16 st.nextPage

/-- A running stream of a port ends: the state returns to IDLE and a STREAM END notice is made (R175). -/
def PortMachine.endStream (ending : Nat) (pm : PortMachine) : PortMachine :=
  match pm.stream with
  | none => pm
  | some st => ({ pm with stream := none }).notice 0x44 (streamEndPayload st ending)

/-! ## Alerts -/

/-- The number after a post: after 65535 it goes to 1, not 0 (R164). -/
def nextNumber (n : Nat) : Nat := if 65535 ≤ n then 1 else n + 1

/-- A queue and its lost count after a post: the oldest of 32 entries is discarded and counted (R165). -/
def enqueueAlert (e : AlertEntry) (q : List AlertEntry) (lost : Nat) : List AlertEntry × Nat :=
  if q.length < Config.alertDepth then (q ++ [e], lost) else (q.drop 1 ++ [e], sat16 (lost + 1))

/-- The Alert Queues after a post, with the site clock's value (R164, R165). -/
def Atq.post (d : AlertDraft) (time : Clock) (a : Atq) : Atq :=
  let e : AlertEntry := { number := nextNumber a.number, draft := d, time := time }
  let r := enqueueAlert e (a.queues.get d.level) (a.lost.get d.level)
  { queues := a.queues.upd d.level (fun _ => r.1), lost := a.lost.upd d.level (fun _ => r.2),
    number := nextNumber a.number }

/-- The mask item of a port (R168). -/
def maskItem : Port → Item
  | .s => .maskS
  | .m => .maskM

/-- The port's alert mask includes the level. -/
def State.maskHas (s : State) (p : Port) (l : AlertLevel) : Bool := (s.cfg (maskItem p)).testBit l.code

/-- An ALERT PENDING notice for one port, with the level and the entries it holds (R167, R168). -/
def State.pendingNotice (p : Port) (l : AlertLevel) (s : State) : State :=
  s.noticeTo p 0x43 (u8 l.code ++ u8 (s.atq.queues.get l).length)

/-- An ALERT PENDING notice for a port whose mask includes the level, nothing for the other (R167). -/
def State.pendingNoticeIfMasked (p : Port) (l : AlertLevel) (s : State) : State :=
  if s.maskHas p l then s.pendingNotice p l else s

/-- A post: the entry is completed and filed, and a level that was empty is announced to each port whose mask
includes it (R164, R165, R167). -/
def State.post (d : AlertDraft) (s : State) : State :=
  let filed := s.modAtq (·.post d s.ssq.clock)
  if (s.atq.queues.get d.level).isEmpty then
    (filed.pendingNoticeIfMasked .s d.level).pendingNoticeIfMasked .m d.level
  else filed

/-- Several posts of one event, in order (R164). -/
def State.postAll (ds : List AlertDraft) (s : State) : State := ds.foldl (fun s d => s.post d) s

/-- Train number and slot of the open train, for an alert that carries them if a train is open (R64, R131). -/
def State.openTrainId (s : State) : Option (Nat × Fin 4) := s.axt.train.map (fun t => (t.number, t.slot))

/-! ## The Report Store -/

/-- A slot accepts writes: it is FILLING or CLOSING (R157). -/
def HeldSlot.writable (h : HeldSlot) : Bool := h.st == .filling || h.st == .closing

/-- A slot is FILLING or CLOSING. -/
def State.slotActive (s : State) (k : Fin 4) : Bool := (s.rps.slots[k]).any HeldSlot.writable

/-- A slot is CLOSING. -/
def State.slotClosing (s : State) (k : Fin 4) : Bool := (s.rps.slots[k]).any (fun h => h.st == .closing)

/-- Some slot is CLOSING (R17). -/
def State.anyClosing (s : State) : Bool := s.slotClosing 0 || s.slotClosing 1 || s.slotClosing 2 || s.slotClosing 3

/-- The report a write or a snapshot of train `number` in slot `k` concerns: the slot is FILLING or CLOSING and
holds that train (R157). -/
def State.liveReport (s : State) (k : Fin 4) (number : Nat) : Option Report :=
  match s.rps.slots[k] with
  | some h => if h.writable && h.report.header.number == number then some h.report else none
  | none => none

/-- A write to slot `k` that names train `number`: accepted, or dropped and counted (R157). -/
def State.write (k : Fin 4) (number : Nat) (f : Report → Report) (s : State) : State :=
  match s.rps.slots[k] with
  | some h =>
    if h.writable && h.report.header.number == number then
      s.modRps fun r => { r with slots := r.slots.set k (some { h with report := f h.report }) }
    else s.modRps fun r => { r with droppedWrites := sat16 (r.droppedWrites + 1) }
  | none => s.modRps fun r => { r with droppedWrites := sat16 (r.droppedWrites + 1) }

/-- A write to the open train's report (R157). -/
def State.writeTrain (f : Report → Report) (s : State) : State :=
  match s.axt.train with
  | some t => s.write t.slot t.number f
  | none => s

/-- A header changed. -/
def Report.modHeader (f : Header → Header) (r : Report) : Report := { r with header := f r.header }

/-- Header flags changed. -/
def Report.modFlags (f : HeaderFlags → HeaderFlags) (r : Report) : Report :=
  r.modHeader fun h => { h with flags := f h.flags }

/-- One axle record changed, if the table holds it. -/
def Report.modAxle (i : Nat) (f : AxleRecord → AxleRecord) (r : Report) : Report :=
  { r with axles := r.axles.modify i f }

/-- One vehicle record changed, if the table holds it. -/
def Report.modVehicle (i : Nat) (f : VehicleRecord → VehicleRecord) (r : Report) : Report :=
  { r with vehicles := r.vehicles.modify i f }

/-- The recorded vehicle whose range contains an axle index (R106). -/
def Report.coveringVehicle (r : Report) (axle : Nat) : Option VehicleRecord :=
  r.vehicles.find? (fun v => v.first ≤ axle && axle < v.first + v.count)

/-! ## Marks of evaluations in flight -/

/-- The evaluation is of the target `target` of lane `l` in train `number` of slot `k`. -/
def Evaluation.isOf (l : Lane) (k : Fin 4) (number target : Nat) (e : Evaluation) : Bool :=
  e.req.lane == l && e.req.slot == k && e.req.number == number && e.req.target == target

/-- Sets the changed mark of an evaluation in flight whose target was marked dirty (R104). -/
def State.markChanged (l : Lane) (k : Fin 4) (number target : Nat) (s : State) : State :=
  s.modEvu fun v => { v with evals := vmap (fun e => e.map fun e =>
    if e.isOf l k number target then { e with changed := true } else e) v.evals }

/-- Sets the removed mark of an evaluation in flight of a vehicle whose record is deleted (R104). -/
def State.markRemoved (k : Fin 4) (number target : Nat) (s : State) : State :=
  s.modEvu fun v => { v with evals := vmap (fun e => e.map fun e =>
    if e.isOf .vehicle k number target then { e with removed := true } else e) v.evals }

/-! ## Small shared pieces -/

/-- The lane of a rail's requests (R93). -/
def railLane : Side → Lane
  | .a => .a
  | .b => .b

/-- The other side. -/
def Side.other : Side → Side
  | .a => .b
  | .b => .a

/-- The other pair. -/
def Pair.other : Pair → Pair
  | .west => .east
  | .east => .west

/-- The opposite geographic direction. -/
def Direction.opposite : Direction → Direction
  | .east => .west
  | .west => .east

/-- The geographic direction of a motion relative to d0. -/
def Direction.along (d0 : Direction) : RelDir → Direction
  | .forward => d0
  | .reverse => d0.opposite

/-- Motion taken by the crib and gate pointers: the motion state, or the last moving direction while HALTED (R82). -/
def OpenTrain.motionTaken (t : OpenTrain) : RelDir :=
  match t.motion with
  | .movingFwd => .forward
  | .movingRev => .reverse
  | .halted => t.lastDir

/-- The train is moving. -/
def OpenTrain.moving (t : OpenTrain) : Bool := t.motion != .halted

/-- What a pointer does at an opening: attribution, new pointer and move (the table of R82 and R139). -/
def applyPointer (taken : RelDir) (pointer n : Nat) : Option Nat × Nat × Option Move :=
  match taken with
  | .forward => if pointer < n then (some pointer, pointer + 1, some .forward) else (none, pointer, none)
  | .reverse => if 0 < pointer then (some (pointer - 1), pointer - 1, some .reverse) else (none, pointer, none)

/-- The before value of a pointer move (R82, R139). -/
def beforeValue (axle : Nat) : Option Move → Nat
  | some .reverse => axle + 1
  | _ => axle

/-- The open train changed. -/
def State.modTrain (f : OpenTrain → OpenTrain) (s : State) : State :=
  s.modAxt fun a => { a with train := a.train.map f }

/-- The sixteen channels in order. -/
def allChannels : List (Fin 16) := [0, 1, 2, 3, 4, 5, 6, 7, 8, 9, 10, 11, 12, 13, 14, 15]

/-- The gauge node of a channel (4.1). -/
def channelNode (k : Fin 16) : Fin 4 := ⟨k.val / 4, by omega⟩

/-- Channel `j` of node `g` (4.1). -/
def nodeChannel (g : Fin 4) (j : Fin 4) : Fin 16 := ⟨4 * g.val + j.val, by omega⟩

/-- The rail of a channel. -/
def channelRail (k : Fin 16) : Side := if k.val < 8 then .a else .b

/-- The crib of a channel on its rail. -/
def channelCrib (k : Fin 16) : Fin 8 := ⟨k.val % 8, by omega⟩

end Sys2Proof.Machine
end

