-- ==== Sys2Proof/Machine/Evaluate.lean ====
section
/-! DEFINITION. What the evaluations compute: wheel results and their merge (07), axle results, vehicle results, and
bearing results (08). Every function here is of the snapshot, the configuration at the grant and the report alone. -/

namespace Sys2Proof.Machine

/-- A configuration value of an evaluation, as it stood at the grant (R103). -/
def cfgOf (c : Vector Nat 54) (i : Item) : Nat := c.get i.idx

/-! ## Levels -/

/-- The higher of two result levels. -/
def ResultLevel.higher (x y : ResultLevel) : ResultLevel := if x.rank < y.rank then y else x

/-- The higher of two bearing levels. -/
def BearingLevel.higher (x y : BearingLevel) : BearingLevel := if x.rank < y.rank then y else x

/-- The lower of two qualities. -/
def Quality.lower (x y : Quality) : Quality := if y.rank < x.rank then y else x

/-- The alert level of a result level above NORMAL (R121). -/
def ResultLevel.alertLevel : ResultLevel → Option AlertLevel
  | .watch => some .watch
  | .alert => some .alert
  | .critical => some .critical
  | _ => none

/-! ## Wheel result (R112 to R119) -/

/-- A present record is valid (R112). -/
def CribRecord.valid (c : CribRecord) : Bool :=
  c.plateau.isSome && !c.truncated && !c.gapped && !c.reversed && !c.defaultCal

/-- A valid record is fresh (R112). -/
def CribRecord.fresh (c : CribRecord) : Bool := c.valid && !c.stale

/-- The present records of a crib set. -/
def presentRecords (places : Vector (Option CribRecord) 8) : List CribRecord := places.toList.filterMap id

/-- The used set and its first quality, `none` where there is none (R113). -/
def usedSet (present : List CribRecord) : Option (List CribRecord × Quality) :=
  let fresh := present.filter CribRecord.fresh
  let valid := present.filter CribRecord.valid
  if 5 ≤ fresh.length then some (fresh, .full)
  else if 4 ≤ valid.length then some (valid, .degraded)
  else none

/-- The evaluation speed of a used set (R114). -/
def evalSpeed (used : List CribRecord) : Nat := roundHalfUp (used.map (·.speed)).sum used.length

/-- The middle plateau loads of a used set, in ascending order: all but the lowest and the highest (R115). -/
def middleLoads (used : List CribRecord) : List Nat :=
  (((used.map fun c => c.plateau.getD 0).insertionSort (· ≤ ·)).drop 1).dropLast

/-- The static wheel load W (R115). -/
def staticLoad (middle : List Nat) : Nat := roundHalfUp middle.sum middle.length

/-- The spread D (R115). -/
def spread (middle : List Nat) : Nat := middle.getLastD 0 - middle.headD 0

/-- The peak a record counts with (R116). -/
def CribRecord.countedPeak (c : CribRecord) : Nat := if c.saturated then Config.loadMax else c.peak

/-- The highest peak of a list of records, `none` if it is empty (R116, R119). -/
def highestPeak : List CribRecord → Option Nat
  | [] => none
  | c :: cs => some (cs.foldl (fun m x => max m x.countedPeak) c.countedPeak)

/-- The dynamic ratio Q in per cent (R117). -/
def dynamicRatio (hMax w : Nat) : Nat :=
  if w = 0 then (if hMax = 0 then 0 else 999) else min (hMax * 100 / w) 999

/-- The level of an evaluation with a used set (R118). -/
def impactLevel (c : Vector Nat 54) (assessed : Bool) (hMax w d : Nat) : ResultLevel :=
  if cfgOf c .hcrit ≤ hMax then .critical
  else if assessed ∧ cfgOf c .talert + cfgOf c .gFactor * d < hMax - w ∧ cfgOf c .qalert ≤ dynamicRatio hMax w then
    .alert
  else if assessed ∧ cfgOf c .twatch + cfgOf c .gFactor * d < hMax - w then .watch
  else .normal

/-- The quality after the upper speed limit (R114). -/
def speedLimited (vmax ve : Nat) (q : Quality) : Quality := if vmax < ve ∧ q = .full then .degraded else q

/-- The wheel result of a used set (R114 to R119). -/
def usedResult (c : Vector Nat 54) (used : List CribRecord) (q : Quality) : WheelResult :=
  let ve := evalSpeed used
  let assessed := decide (cfgOf c .vimp ≤ ve)
  let w := staticLoad (middleLoads used)
  let d := spread (middleLoads used)
  let hMax := (highestPeak used).getD 0
  { quality := speedLimited (cfgOf c .vmax) ve q, assessed := assessed, w := some w, d := some d,
    hMax := some hMax, q := some (dynamicRatio hMax w), ve := some ve, level := impactLevel c assessed hMax w d }

/-- The wheel result where there is no used set (R119). -/
def incompleteResult (c : Vector Nat 54) (present : List CribRecord) : WheelResult :=
  let hMax := highestPeak present
  { quality := .incomplete, assessed := false, w := none, d := none, hMax := hMax, q := none, ve := none,
    level := if hMax.any fun h => decide (cfgOf c .hcrit ≤ h) then .critical else .absent }

/-- The wheel result of a rail evaluation (R112 to R119). -/
def wheelResult (c : Vector Nat 54) (places : Vector (Option CribRecord) 8) : WheelResult :=
  match usedSet (presentRecords places) with
  | some (used, q) => usedResult c used q
  | none => incompleteResult c (presentRecords places)

/-! ## Merging and axle results (R120 to R122) -/

/-- A new wheel result merged into the stored one (R120). -/
def mergeWheel (stored : Option WheelResult) (new : WheelResult) : WheelResult :=
  match stored with
  | none => new
  | some old =>
    if old.quality.rank < new.quality.rank then new
    else if old.quality = new.quality ∧ old.level.rank ≤ new.level.rank then new
    else old

/-- The axle results of two static loads (R122). -/
def axleResultsOf (wa wb : Nat) (qa qb : Quality) : AxleResults :=
  let l := wa + wb
  { load := l, quality := qa.lower qb, imbalance := if l = 0 then 0 else (max wa wb - min wa wb) * 100 / l }

/-- The axle results of two stored wheel results, if both hold a static load (R122). -/
def axleResults (a b : Option WheelResult) : Option AxleResults :=
  match a, b with
  | some ra, some rb =>
    match ra.w, rb.w with
    | some wa, some wb => some (axleResultsOf wa wb ra.quality rb.quality)
    | _, _ => none
  | _, _ => none

/-- The axle record after the merge, the peak update and the axle results (R120 to R122). Axle results that are not
computed leave those held. -/
def AxleRecord.mergeRail (x : Side) (new : WheelResult) (ax : AxleRecord) : AxleRecord :=
  let wheels := ax.wheels.upd x fun old => some (mergeWheel old new)
  { ax with
    wheels := wheels
    peakWheel := ax.peakWheel.higher new.level
    results := (axleResults wheels.a wheels.b).orElse fun _ => ax.results }

/-- The results of this completion pass Amax and the overload mark was clear (R123). -/
def overloads (c : Vector Nat 54) (ax : AxleRecord) : Bool :=
  !ax.overloadMark && (axleResults ax.wheels.a ax.wheels.b).any fun r => decide (cfgOf c .amax < r.load)

/-- The results of this completion pass Imax and the imbalance mark was clear (R123). -/
def imbalances (c : Vector Nat 54) (ax : AxleRecord) : Bool :=
  !ax.imbalanceMark && (axleResults ax.wheels.a ax.wheels.b).any fun r => decide (cfgOf c .imax < r.imbalance)

/-- The marks after the two tests of R123. -/
def AxleRecord.markLimits (c : Vector Nat 54) (ax : AxleRecord) : AxleRecord :=
  { ax with overloadMark := ax.overloadMark || overloads c ax, imbalanceMark := ax.imbalanceMark || imbalances c ax }

/-! ## Peak counts (R154) -/

/-- The count of one peak wheel level moved by a function. -/
def WheelCounts.upd (c : WheelCounts) (l : ResultLevel) (f : Nat → Nat) : WheelCounts :=
  match l with
  | .absent => c
  | .normal => { c with normal := f c.normal }
  | .watch => { c with watch := f c.watch }
  | .alert => { c with alert := f c.alert }
  | .critical => { c with critical := f c.critical }

/-- The wheel peak counts after an axle's peak level went from `old` to `new` (R154). -/
def WheelCounts.move (c : WheelCounts) (old new : ResultLevel) : WheelCounts :=
  if old = new then c else (c.upd old (· - 1)).upd new (· + 1)

/-- The count of one peak bearing level moved by a function. -/
def BearingCounts.upd (c : BearingCounts) (l : BearingLevel) (f : Nat → Nat) : BearingCounts :=
  match l with
  | .absent => c
  | .normal => { c with normal := f c.normal }
  | .warm => { c with warm := f c.warm }
  | .hot => { c with hot := f c.hot }

/-- The bearing peak counts after an axle's peak level went from `old` to `new` (R154). -/
def BearingCounts.move (c : BearingCounts) (old new : BearingLevel) : BearingCounts :=
  if old = new then c else (c.upd old (· - 1)).upd new (· + 1)

/-- An axle record replaced, with the header's peak counts following its peak levels (R154). -/
def Report.putAxle (i : Nat) (old new : AxleRecord) (r : Report) : Report :=
  { r with
    axles := r.axles.set i new
    header := { r.header with
      wheelPeaks := r.header.wheelPeaks.move old.peakWheel new.peakWheel
      bearingPeaks := r.header.bearingPeaks.move old.peakBearing new.peakBearing } }

/-! ## Rail completion (R125) -/

/-- The vehicle an alert of an axle carries (R124). -/
def coveringIndex (r : Report) (axle : Nat) : Option Nat := (r.coveringVehicle axle).map (·.index)

/-- The WHEEL_IMPACT alert of a rise of the peak wheel level from `old` to `new` (R121, R124). -/
def wheelImpactAlerts (q : Request) (x : Side) (vehicle : Option Nat) (old new : ResultLevel) (w : WheelResult) :
    List AlertDraft :=
  if old.rank < new.rank then
    match new.alertLevel with
    | some l =>
      [{ level := l, kind := .wheelImpact, train := some (q.number, q.slot), axle := some q.target,
         vehicle := vehicle, side := some x, value := (w.hMax.getD 0 : Nat) }]
    | none => []
  else []

/-- The alerts of the two limits of R123, for the axle record before its marks are set. -/
def limitAlerts (c : Vector Nat 54) (q : Request) (vehicle : Option Nat) (ax : AxleRecord) : List AlertDraft :=
  let value (f : AxleResults → Nat) : Int := (((axleResults ax.wheels.a ax.wheels.b).map f).getD 0 : Nat)
  (if overloads c ax then
    [{ level := .alert, kind := .axleOverload, train := some (q.number, q.slot), axle := some q.target,
       vehicle := vehicle, side := none, value := value (·.load) }]
   else [])
  ++ (if imbalances c ax then
    [{ level := .watch, kind := .sideImbalance, train := some (q.number, q.slot), axle := some q.target,
       vehicle := vehicle, side := none, value := value (·.imbalance) }]
   else [])

/-- A rail completion on the report: its new contents and its alerts in order (R125). -/
def railCompletion (c : Vector Nat 54) (q : Request) (x : Side) (w : WheelResult) (r : Report) :
    Report × List AlertDraft :=
  match r.axles[q.target]? with
  | none => (r, [])
  | some ax =>
    let merged := ax.mergeRail x w
    let vehicle := coveringIndex r q.target
    (r.putAxle q.target ax (merged.markLimits c),
      wheelImpactAlerts q x vehicle ax.peakWheel merged.peakWheel w ++ limitAlerts c q vehicle merged)

/-! ## Vehicle results (R126 to R128) -/

/-- The results of all k axles of a vehicle, `none` where one lacks them or k is 0 (R126). -/
def VehicleSnap.allResults (v : VehicleSnap) : Option (List AxleResults) :=
  if 1 ≤ v.count ∧ v.axles.length = v.count then v.axles.mapM (·.results) else none

/-- The lowest quality of a list, FULL for none. -/
def lowestQuality (rs : List AxleResults) : Quality := rs.foldl (fun q r => q.lower r.quality) .full

/-- The worst wheel level of a vehicle (R126). -/
def VehicleSnap.worstWheel (v : VehicleSnap) : ResultLevel := v.axles.foldl (fun l x => l.higher x.peakWheel) .absent

/-- The worst bearing level of a vehicle (R126). -/
def VehicleSnap.worstBearing (v : VehicleSnap) : BearingLevel :=
  v.axles.foldl (fun l x => l.higher x.peakBearing) .absent

/-- The end imbalance of a vehicle whose axle loads are all present (R127). -/
def endImbalanceOf (loads : List Nat) : Option Nat :=
  let h := loads.length / 2
  let f := (loads.take h).sum
  let b := (loads.drop (loads.length - h)).sum
  if 1 ≤ h ∧ 0 < f + b then some ((max f b - min f b) * 100 / (f + b)) else none

/-- The results of a vehicle evaluation written into the vehicle record (R126 to R128). -/
def VehicleRecord.putResults (v : VehicleSnap) (x : VehicleRecord) : VehicleRecord :=
  let rs := v.allResults
  { x with
    gross := rs.map fun rs => (rs.map (·.load)).sum
    endImbalance := rs.bind fun rs => endImbalanceOf (rs.map (·.load))
    worstWheel := v.worstWheel, worstBearing := v.worstBearing
    quality := some ((rs.map lowestQuality).getD .incomplete) }

/-- The end imbalance is above Emax and the mark is clear (R127). -/
def endImbalanced (c : Vector Nat 54) (x : VehicleRecord) : Bool :=
  !x.endMark && x.endImbalance.any fun e => decide (cfgOf c .emax < e)

/-- A vehicle completion on the report (R127, R128). -/
def vehicleCompletion (c : Vector Nat 54) (q : Request) (v : VehicleSnap) (r : Report) : Report × List AlertDraft :=
  match r.vehicles[q.target]? with
  | none => (r, [])
  | some x =>
    let y := x.putResults v
    ({ r with vehicles := r.vehicles.set q.target { y with endMark := y.endMark || endImbalanced c y } },
      if endImbalanced c y then
        [{ level := .watch, kind := .endImbalance, train := some (q.number, q.slot), axle := none,
           vehicle := some q.target, side := none, value := (y.endImbalance.getD 0 : Nat) }]
      else [])

/-! ## Bearing results (R145 to R147) -/

/-- The quality of a bearing result (R145). -/
def bearingQuality (g : Option GateRecord) (status : ScannerStatus) : Quality :=
  match g with
  | none => .incomplete
  | some g =>
    if g.count = 0 ∨ g.peak = none ∨ g.calNone ∨ status = .lost then .incomplete
    else if g.gapped || g.truncated || g.calAged then .degraded
    else .full

/-- The rise of a gate record with peak `p` (R145); a free value where the record carries no ambient
(assumption 14). -/
def riseOf (p : Int) : Option Int → Int
  | some a => clampInt (-500) 2500 (p - a)
  | none => Config.freeRise p

/-- The rise of a side, absent if it is INCOMPLETE (R145). -/
def ThermalSnap.rise (t : ThermalSnap) (x : Side) : Option Int :=
  match t.gates.get x with
  | none => none
  | some g =>
    if bearingQuality (some g) (t.status.get x) = .incomplete then none else g.peak.map fun p => riseOf p g.ambient

/-- The mate difference of a side (R145). -/
def ThermalSnap.mdiff (t : ThermalSnap) (x : Side) : Option Int :=
  match t.rise x, t.rise (Side.other x) with
  | some d, some e => some (d - e)
  | _, _ => none

/-- The train-relative excess of a side (R145). -/
def ThermalSnap.rel (c : Vector Nat 54) (t : ThermalSnap) (x : Side) : Option Int :=
  match t.rise x with
  | some d =>
    if cfgOf c .relMinCount ≤ t.count.get x then some (d - t.sum.get x / (t.count.get x : Int)) else none
  | none => none

/-- The WARM condition (R145). -/
def warmHolds (c : Vector Nat 54) (d : Int) (mdiff rel : Option Int) : Bool :=
  decide ((cfgOf c .twarm : Int) ≤ d)
    || (mdiff.any (fun m => decide ((cfgOf c .tmate : Int) ≤ m)) && decide ((cfgOf c .tfloor : Int) ≤ d))
    || rel.any (fun r => decide ((cfgOf c .trel : Int) ≤ r))

/-- The bearing level of a side that is not INCOMPLETE (R145). -/
def bearingLevel (c : Vector Nat 54) (d : Int) (mdiff rel : Option Int) : BearingLevel :=
  if (cfgOf c .thot : Int) ≤ d then .hot else if warmHolds c d mdiff rel then .warm else .normal

/-- The bearing result of a side (R145). -/
def bearingResult (c : Vector Nat 54) (t : ThermalSnap) (x : Side) : BearingResult :=
  { quality := bearingQuality (t.gates.get x) (t.status.get x)
    peak := (t.gates.get x).bind (·.peak), ambient := (t.gates.get x).bind (·.ambient)
    rise := t.rise x, mdiff := t.mdiff x, rel := t.rel c x
    level := match t.rise x with | some d => bearingLevel c d (t.mdiff x) (t.rel c x) | none => .absent }

/-- A new bearing result merged into the stored one (R146, by the rule of R120). -/
def mergeBearing (stored : Option BearingResult) (new : BearingResult) : BearingResult :=
  match stored with
  | none => new
  | some old =>
    if old.quality.rank < new.quality.rank then new
    else if old.quality = new.quality ∧ old.level.rank ≤ new.level.rank then new
    else old

/-- The axle record after the merge of both sides and the peak update (R146), with the counted-in-mean flags set for
the sides that enter the mean (R147). -/
def AxleRecord.mergeThermal (a b : BearingResult) (ax : AxleRecord) : AxleRecord :=
  { ax with
    bearings := { a := some (mergeBearing ax.bearings.a a), b := some (mergeBearing ax.bearings.b b) }
    peakBearing := (ax.peakBearing.higher a.level).higher b.level
    counted := { a := ax.counted.a || decide (a.quality ≠ .incomplete), b := ax.counted.b || decide (b.quality ≠ .incomplete) } }

/-- The rise a side adds to the train's mean, if it enters it (R147). -/
def countedRise (counted : Bool) (new : BearingResult) : Option Int :=
  if new.quality ≠ .incomplete ∧ !counted then new.rise else none

/-- The running sums and counts after a THERMAL completion (R147). -/
def Header.addRises (a b : Option Int) (h : Header) : Header :=
  { h with
    thermalSum := { a := h.thermalSum.a + a.getD 0, b := h.thermalSum.b + b.getD 0 }
    thermalCount := { a := h.thermalCount.a + a.elim 0 (fun _ => 1), b := h.thermalCount.b + b.elim 0 (fun _ => 1) } }

/-- The side a bearing alert names: the one whose new level is the new peak, A where both are (R146). -/
def bearingAlertSide (peak : BearingLevel) (a : BearingResult) : Side := if a.level = peak then .a else .b

/-- Level and kind of the alert of a rise to a peak bearing level (R146). -/
def BearingLevel.alertOf : BearingLevel → Option (AlertLevel × AlertKind)
  | .hot => some (.critical, .bearingHot)
  | .warm => some (.alert, .bearingWarm)
  | _ => none

/-- The alert of a THERMAL completion (R146). -/
def bearingAlerts (q : Request) (vehicle : Option Nat) (old new : BearingLevel) (a b : BearingResult) :
    List AlertDraft :=
  if old.rank < new.rank then
    match new.alertOf with
    | some (l, k) =>
      [{ level := l, kind := k, train := some (q.number, q.slot), axle := some q.target, vehicle := vehicle,
         side := some (bearingAlertSide new a),
         value := (match bearingAlertSide new a with | .a => a.rise | .b => b.rise).getD 0 }]
    | none => []
  else []

/-- A THERMAL completion on the report (R146, R147). -/
def thermalCompletion (c : Vector Nat 54) (q : Request) (t : ThermalSnap) (r : Report) : Report × List AlertDraft :=
  match r.axles[q.target]? with
  | none => (r, [])
  | some ax =>
    let a := bearingResult c t .a
    let b := bearingResult c t .b
    let merged := ax.mergeThermal a b
    ((r.putAxle q.target ax merged).modHeader
        (Header.addRises (countedRise ax.counted.a a) (countedRise ax.counted.b b)),
      bearingAlerts q (coveringIndex r q.target) ax.peakBearing merged.peakBearing a b)

/-! ## Any completion -/

/-- The evaluation writes something at its completion: a vehicle evaluation that was removed or had an empty snapshot
does not (R105, step 1). -/
def Evaluation.writes (e : Evaluation) : Bool :=
  match e.snapshot with
  | .vehicle v => v.isSome && !e.removed
  | _ => true

/-- The report an evaluation leaves and the alerts it posts (R105, step 1). -/
def Evaluation.complete (e : Evaluation) (r : Report) : Report × List AlertDraft :=
  match e.snapshot with
  | .rail places => railCompletion e.config e.req (if e.req.lane = .a then .a else .b) (wheelResult e.config places) r
  | .thermal t => thermalCompletion e.config e.req t r
  | .vehicle none => (r, [])
  | .vehicle (some v) => if e.removed then (r, []) else vehicleCompletion e.config e.req v r

/-- The four values of an axle record the follow-on compares (R106). -/
def AxleRecord.watched (x : AxleRecord) : Option (Nat × Quality) × ResultLevel × BearingLevel :=
  (x.results.map fun r => (r.load, r.quality), x.peakWheel, x.peakBearing)

end Sys2Proof.Machine
end

