-- ==== Sys2Proof/Machine/Flags.lean ====
section
/-! DEFINITION. Conditions the rules read and hold no state of their own for: elapsed ages, STALE, clear, the
conditions of a scanner record, and the settle point. -/

namespace Sys2Proof.Machine

/-- The age of a channel's baseline in ms, held at the top (R68). -/
def State.baselineAge (s : State) (k : Fin 16) : Nat := min ((s.now - s.channels[k].ageFrom) / 1000) Config.ageMax

/-- A channel is STALE: its baseline is UNSET or its age is above Zmax (R68). -/
def State.stale (s : State) (k : Fin 16) : Bool :=
  s.channels[k].z.isNone || s.cfg .zmax * 1000 < s.baselineAge k

/-- A channel is clear: no capture is open on it and its quiet timer is not running (R69). -/
def State.clear (s : State) (k : Fin 16) : Bool := s.units[k].capture.isNone && s.channels[k].quiet.isNone

/-- Baselines are tracked in this site state (the table of R1, R70). -/
def SiteState.tracksBaselines : SiteState → Bool
  | .patrol => true
  | .sweep => true
  | .passage => true
  | _ => false

/-- Link streams run in this site state (R1). -/
def SiteState.streams : SiteState → Bool
  | .offline => false
  | .dormant => false
  | _ => true

/-- The age of a scanner's calibration record in s, held at the top; 0 until it has been VALID (R132). -/
def Scanner.age (now : Nat) (x : Scanner) : Nat :=
  match x.ref with
  | some r => min ((now - r.validAt) / 1000000) Config.ageMax
  | none => 0

/-- The record is usable: s_ref and Tref are present (R132). -/
def Scanner.usable (x : Scanner) : Bool := x.ref.isSome

/-- The record is aged: usable, and its age is above cal_max_age or its state is FAILED (R132). -/
def State.scannerAged (s : State) (x : Side) : Bool :=
  let y := s.tsu.scanners.get x
  y.usable && (decide (s.cfg .calMaxAge * 3600 < y.age s.now) || y.calState == .failed)

/-- The record is fresh: VALID and its age is below Tcal_skip (R132). -/
def State.scannerFresh (s : State) (x : Side) : Bool :=
  let y := s.tsu.scanners.get x
  y.calState == .valid && decide (y.age s.now < s.cfg .tcalSkip * 60)

/-- The site states in which the settle point can hold (R17). -/
def SiteState.settles : SiteState → Bool
  | .patrol => true
  | .dormant => true
  | .offline => true
  | _ => false

/-- The settle point holds (R17). -/
def State.settleHolds (s : State) : Bool := s.ssq.site.settles && !s.anyClosing

/-- The channels whose stale-seen mark is set, channel k as bit k (R94). -/
def State.staleSeenSet (s : State) : BitVec 16 :=
  BitVec.ofNat 16 (flagBits (s.units.toList.map (·.staleSeen)))

end Sys2Proof.Machine
end

