-- ==== Sys2Proof/Machine/Lanes.lean ====
section
/-! DEFINITION. The Evaluation Engine's requests, lanes, arbitration and grants (6.1 to 6.4), and the start of a
sweep pass (R107, R108), which a dropped request can cause; the sweep at a target, which a request leaving its lane can
cause to be tried again (R107). -/

namespace Sys2Proof.Machine

/-! ## Coverage -/

/-- The axles a request's target covers as the records stand: one axle, or a vehicle record's range, or no axle
where no vehicle record holds the index (R99, R101). -/
def State.coverageOf (s : State) (r : Request) : Coverage :=
  match r.lane with
  | .vehicle =>
    match (s.rps.slots[r.slot]).bind (fun h => h.report.vehicles[r.target]?) with
    | some v => { slot := r.slot, first := v.first, count := v.count }
    | none => { slot := r.slot, first := 0, count := 0 }
  | _ => { slot := r.slot, first := r.target, count := 1 }

/-- Two coverages share an axle record of the same report slot (R101). Axles beyond the axle table have no record. DESIGN CHOICE:
a target that covers no record is permitted beside its own evaluation too, where R98's closing sentence says otherwise
(assumption 29). -/
def Coverage.overlaps (c d : Coverage) : Bool :=
  c.slot == d.slot && decide (max c.first d.first <
    min (min (c.first + c.count) (d.first + d.count)) Config.axleTable)

/-- A coverage shares no axle record with any evaluation in flight (R101). -/
def State.coverageFree (s : State) (c : Coverage) : Bool :=
  s.evu.evals.toList.all fun e => match e with
    | some e => !(c.overlaps e.coverage)
    | none => true

/-- A lane's head, if it is permitted (R101). -/
def State.permittedHead (s : State) (l : Lane) : Option Request :=
  match (s.evu.lanes.get l).head? with
  | some r => if s.coverageFree (s.coverageOf r) then some r else none
  | none => none

/-! ## Stale heads -/

/-- A request is stale: its slot no longer holds its train, or is neither FILLING nor CLOSING (R100). -/
def State.staleRequest (s : State) (r : Request) : Bool := (s.liveReport r.slot r.number).isNone

/-- Stale heads of one lane are removed and counted (R100). -/
def State.purgeLane (l : Lane) (s : State) : State :=
  let kept := (s.evu.lanes.get l).dropWhile s.staleRequest
  s.modEvu fun v => { v with
    lanes := v.lanes.upd l (fun _ => kept)
    discarded := v.discarded.upd l (fun n => sat16 (n + ((v.lanes.get l).length - kept.length))) }

/-- Stale heads are removed until no lane has one (R100). -/
def State.purge (s : State) : State := (((s.purgeLane .a).purgeLane .b).purgeLane .thermal).purgeLane .vehicle

/-! ## Grant -/

/-- The free evaluation slot a grant takes: E0 if both are free (R100). -/
def Evu.freeSlot (v : Evu) : Option (Fin 2) :=
  if v.evals[0].isNone then some 0 else if v.evals[1].isNone then some 1 else none

/-- The THERMAL lane is granted by urgent precedence (R102, step 1). -/
def State.urgentGrant (s : State) : Bool :=
  !s.evu.urgentMark && ((s.permittedHead .thermal).any (·.urgent))

/-- The lane granted, if any has a permitted head (R102). -/
def State.pickLane (s : State) : Option Lane :=
  if s.urgentGrant then some .thermal else s.evu.lrg.find? (fun l => (s.permittedHead l).isSome)

/-- What a vehicle snapshot takes of an axle record (R103). -/
def AxleRecord.snap (x : AxleRecord) : AxleSnap :=
  { results := x.results, peakWheel := x.peakWheel, peakBearing := x.peakBearing }

/-- The snapshot of a report for a request (R103). `status` is the node status of both scanners. -/
def Report.snapshot (r : Report) (status : PerSide ScannerStatus) (q : Request) : Snapshot :=
  match q.lane with
  | .a => .rail (((r.axles[q.target]?).map (fun x => x.cribs.a.places)).getD (Vector.replicate 8 none))
  | .b => .rail (((r.axles[q.target]?).map (fun x => x.cribs.b.places)).getD (Vector.replicate 8 none))
  | .thermal => .thermal
    { gates := ((r.axles[q.target]?).map (·.gates)).getD { a := none, b := none }
      sum := r.header.thermalSum, count := r.header.thermalCount, status := status }
  | .vehicle => .vehicle ((r.vehicles[q.target]?).map fun v =>
    { index := v.index, first := v.first, count := v.count, isOpen := v.isOpen
      axles := ((r.axles.drop v.first).take v.count).map AxleRecord.snap })

/-- The node status of both scanners (R103). -/
def State.scannerStatus (s : State) : PerSide ScannerStatus :=
  { a := s.tsu.scanners.a.status, b := s.tsu.scanners.b.status }

/-- A snapshot with nothing in it, for a slot that holds no report. -/
def Snapshot.empty : Lane → Snapshot
  | .vehicle => .vehicle none
  | .thermal => .thermal
    { gates := { a := none, b := none }, sum := { a := 0, b := 0 }, count := { a := 0, b := 0 }
      status := { a := .off, b := .off } }
  | _ => .rail (Vector.replicate 8 none)

/-- The evaluation a granted request becomes: coverage fixed, records read, marks clear (R99, R103). -/
def State.evaluationFor (s : State) (r : Request) : Evaluation :=
  { req := r, coverage := s.coverageOf r
    snapshot := match s.rps.slots[r.slot] with
      | some h => h.report.snapshot s.scannerStatus r
      | none => Snapshot.empty r.lane
    config := s.mpc.active, changed := false, removed := false }

/-- The urgent mark after a grant to a lane (R102). -/
def State.urgentMarkAfter (s : State) (l : Lane) : Bool :=
  if s.urgentGrant then true else if l = .thermal then false else s.evu.urgentMark

/-- The LRG order after a grant: the granted lane moves to the last place (R102). -/
def lrgAfter (order : List Lane) (l : Lane) : List Lane := order.filter (· ≠ l) ++ [l]

/-- The head `r` of lane `l` is granted into evaluation slot `e` (R102, R103). -/
def State.grant (e : Fin 2) (l : Lane) (r : Request) (s : State) : State :=
  s.modEvu fun v => { v with
    lanes := v.lanes.upd l (fun q => q.drop 1)
    lrg := lrgAfter v.lrg l
    urgentMark := s.urgentMarkAfter l
    evals := v.evals.set e (some (s.evaluationFor r)) }

/-- One round of the arbitration: stale heads are removed, then at most one head is granted (R100). -/
def State.arbitrateOnce (s : State) : State :=
  let s := s.purge
  match s.evu.freeSlot, s.pickLane with
  | some e, some l =>
    match (s.evu.lanes.get l).head? with
    | some r => s.grant e l r
    | none => s
  | _, _ => s

/-- The arbitration of R100: at most two grants, since there are two evaluation slots; heads a grant brings up are
examined for staleness like any other (assumption 11). -/
def State.arbitrate (s : State) : State := s.arbitrateOnce.arbitrateOnce.purge

/-! ## Requests -/

/-- The first target of a sweep pass (R107). -/
def SweepPos.first : SweepPos := .axle 0 .railA

/-- A request for the sweep's slot was dropped: the rewalk mark is set, or a resting sweep begins a new pass at
once (R108). -/
def Evu.noteDrop (k : Fin 4) (v : Evu) : Evu :=
  if v.sweepQueue.head? = some k then
    if v.sweepResting then { v with sweepResting := false, sweepWaiting := false, rewalk := false, sweepPos := .first }
    else { v with rewalk := true }
  else v

/-- A queued request has the same slot, train number and target as a new one of its lane (R98). -/
def Request.sameTarget (r q : Request) : Bool := q.slot == r.slot && q.number == r.number && q.target == r.target

/-- A new request merged into a lane that holds its like: the queued one keeps its place and becomes urgent if
either was (R98, step 1). -/
def mergeRequest (r : Request) (q : List Request) : List Request :=
  q.map fun x => if r.sameTarget x then { x with urgent := x.urgent || r.urgent } else x

/-- A request dropped at a full lane (R98, step 3). -/
def State.dropRequest (r : Request) (s : State) : State :=
  (s.modEvu fun v => { v with dropped := v.dropped.upd r.lane (fun n => sat16 (n + 1)) }.noteDrop r.slot).write
    r.slot r.number (Report.modHeader fun h => { h with dropped := sat16 (h.dropped + 1) })

/-- A request reaches its lane: merged, added at the tail, or dropped (R98). -/
def State.lodge (r : Request) (s : State) : State :=
  let q := s.evu.lanes.get r.lane
  if q.any r.sameTarget then s.modEvu fun v => { v with lanes := v.lanes.upd r.lane (mergeRequest r) }
  else if q.length < Config.laneDepth then s.modEvu fun v => { v with lanes := v.lanes.upd r.lane (· ++ [r]) }
  else s.dropRequest r

/-- A request is made: ignored for a slot that is neither FILLING nor CLOSING (R97), lodged otherwise (R98), and the
engine arbitrates on its arrival (R100). -/
def State.submit (r : Request) (s : State) : State :=
  if s.slotActive r.slot then (s.lodge r).arbitrate else s

/-! ## The sweep's targets (R107) -/

/-- The dirty flag of a target in a report. -/
def Report.dirtyAt (r : Report) (l : Lane) (i : Nat) : Bool :=
  match l with
  | .a => (r.axles[i]?).any (·.cribs.a.dirty)
  | .b => (r.axles[i]?).any (·.cribs.b.dirty)
  | .thermal => (r.axles[i]?).any (·.gateDirty)
  | .vehicle => (r.vehicles[i]?).any (·.dirty)

/-- The lane and target index of a cursor position. -/
def SweepPos.target : SweepPos → Lane × Nat
  | .axle i .railA => (.a, i)
  | .axle i .railB => (.b, i)
  | .axle i .gate => (.thermal, i)
  | .vehicle j => (.vehicle, j)

/-- A cursor past the last axle record stands at the first vehicle. -/
def SweepPos.norm (r : Report) : SweepPos → SweepPos
  | .axle i k => if i < r.axles.length then .axle i k else .vehicle 0
  | .vehicle j => .vehicle j

/-- The cursor moves on (R107). -/
def SweepPos.next (r : Report) : SweepPos → SweepPos
  | .axle i .railA => .axle i .railB
  | .axle i .railB => .axle i .gate
  | .axle i .gate => SweepPos.norm r (.axle (i + 1) .railA)
  | .vehicle j => .vehicle (j + 1)

/-- The cursor stands past the last target. -/
def SweepPos.atEnd (r : Report) : SweepPos → Bool
  | .axle _ _ => false
  | .vehicle j => decide (r.vehicles.length ≤ j)

/-- The cursor put at `pos`, the sweep waiting no more. -/
def State.moveSweep (pos : SweepPos) (s : State) : State :=
  s.modEvu fun v => { v with sweepPos := pos, sweepWaiting := false }

/-- An evaluation of a target is in flight. One with its removed mark set is of a vehicle that is gone, whatever vehicle
holds the index now (R104, R107). -/
def State.targetInFlight (s : State) (l : Lane) (k : Fin 4) (number target : Nat) : Bool :=
  s.evu.evals.toList.any fun e => e.any fun e => e.isOf l k number target && !e.removed

/-- The sweep of slot `k` at the target `pos`: passed by, requested, or waited for (the table of R107). -/
def State.sweepVisit (k : Fin 4) (r : Report) (pos : SweepPos) (s : State) : State :=
  let l := pos.target.1
  let i := pos.target.2
  let number := r.header.number
  if !r.dirtyAt l i || s.targetInFlight l k number i then s.moveSweep (pos.next r)
  else if (s.evu.lanes.get l).length ≤ Config.sweepRoom then
    (s.submit { lane := l, slot := k, number := number, target := i, urgent := false }).moveSweep (pos.next r)
  else s.modEvu fun v => { v with sweepPos := pos, sweepWaiting := true }

/-- The waiting sweep tries its target again (R107). Where that takes the cursor past the last target, the next
SWEEP_STEP ends the pass (assumption 12). -/
def State.retrySweep (s : State) : State :=
  match s.evu.sweepQueue.head? with
  | none => s
  | some k => match s.rps.slots[k] with
    | none => s
    | some h => s.sweepVisit k h.report (s.evu.sweepPos.norm h.report)

/-- The sweep waits in `s`, and a request has left the lane it waits for on the way to `u` (R107). -/
def State.freesSweep (s u : State) : Bool :=
  let l := s.evu.sweepPos.target.1
  s.evu.sweepWaiting && decide ((u.evu.lanes.get l).length < (s.evu.lanes.get l).length)

/-- The arbitration of R100, and the further try of a sweep whose lane a request left in it (R107). -/
def State.serveLanes (s : State) : State :=
  let u := s.arbitrate
  if s.freesSweep u then u.retrySweep else u

/-- A request that a completion makes reaches its lane, or is ignored for a slot that is neither FILLING nor CLOSING (R97, R98).
Nothing is arbitrated: that is the completion's last step (R105). -/
def State.file (r : Request) (s : State) : State := if s.slotActive r.slot then s.lodge r else s

/-- A request of a block reaches the engine: as `State.submit`, with the waiting sweep's further try. -/
def State.request (r : Request) (s : State) : State :=
  if s.slotActive r.slot then (s.lodge r).serveLanes else s

/-! ## The sweep's queue -/

/-- A slot joins the tail of the sweep's queue; the sweep starts on it if it reaches the head (R107). -/
def Evu.joinSweep (k : Fin 4) (v : Evu) : Evu :=
  if v.sweepQueue.isEmpty then
    { v with sweepQueue := [k], sweepPos := .first, sweepWaiting := false, sweepResting := false, rewalk := false }
  else { v with sweepQueue := v.sweepQueue ++ [k] }

/-- A slot leaves the sweep's queue; a sweep that was serving it starts on the next slot (R107). -/
def Evu.leaveSweep (k : Fin 4) (v : Evu) : Evu :=
  if v.sweepQueue.head? = some k then
    { v with sweepQueue := v.sweepQueue.filter (· ≠ k), sweepPos := .first, sweepWaiting := false,
             sweepResting := false, rewalk := false }
  else { v with sweepQueue := v.sweepQueue.filter (· ≠ k) }

end Sys2Proof.Machine
end

