-- ==== Sys2Proof/Machine/Site.lean ====
section
/-! DEFINITION. The Site Sequencer (01): streams, the calibration call, changes of the site state, the settle
point, and the rows of the approach input, its timers and the site clock. -/

namespace Sys2Proof.Machine

/-! ## Link streams (R3, R61, R66, R130) -/

/-- A stream-on command is sent over a gauge link: an OFF node starts its settle discard, or is PRESENT at once where that is 0
(R3, R61, R66). -/
def GaugeNode.streamOn (now settle tlost : Nat) (g : GaugeNode) : GaugeNode :=
  let g := { g with sent := g.sent ++ [.streamOn] }
  if g.status = .off then
    { g with status := if settle = 0 then .present else .settling, prev := none, settle := settle,
             lossTimer := some (now + ms tlost) }
  else g

/-- A stream-off command is sent over a gauge link: its node is OFF (R3, R61). -/
def GaugeNode.streamOff (g : GaugeNode) : GaugeNode :=
  { g with status := .off, lossTimer := none, sent := g.sent ++ [.streamOff] }

/-- A stream-on command is sent over a scanner link: an OFF node becomes PRESENT, unsynchronised (R3, R130). -/
def Scanner.streamOn (now tlost : Nat) (x : Scanner) : Scanner :=
  let x := { x with sent := x.sent ++ [.streamOn] }
  if x.status = .off then { x with status := .present, prev := none, lossTimer := some (now + ms tlost) } else x

/-- A stream-off command is sent over a scanner link: its node is OFF (R3, R130). -/
def Scanner.streamOff (x : Scanner) : Scanner :=
  { x with status := .off, lossTimer := none, sent := x.sent ++ [.streamOff] }

/-- A stream-on command over each of the six sensor links (R3). -/
def State.streamOn (s : State) : State :=
  { s with
    ssq := { s.ssq with streaming := true }
    nodes := vmap (·.streamOn s.now (s.cfg .settleSamples) (s.cfg .tlost)) s.nodes
    tsu := { s.tsu with scanners :=
      { a := s.tsu.scanners.a.streamOn s.now (s.cfg .tlost), b := s.tsu.scanners.b.streamOn s.now (s.cfg .tlost) } } }

/-- A stream-off command over each of the six sensor links (R3). -/
def State.streamOff (s : State) : State :=
  { s with
    ssq := { s.ssq with streaming := false }
    nodes := vmap GaugeNode.streamOff s.nodes
    tsu := { s.tsu with scanners := { a := s.tsu.scanners.a.streamOff, b := s.tsu.scanners.b.streamOff } } }

/-- The streams follow the site state: a command is sent only when they start or stop (R3). -/
def State.followStreams (s : State) : State :=
  if s.ssq.site.streams && !s.ssq.streaming then s.streamOn
  else if !s.ssq.site.streams && s.ssq.streaming then s.streamOff
  else s

/-! ## The calibration call (R12, R135, R137) -/

/-- A scanner's calibration begins: shutter line closed, WAITING, shutter timer 2 s, sum and count 0 (R135). -/
def Scanner.beginCalibration (now : Nat) (x : Scanner) : Scanner :=
  { x with shutterClosed := true, progress := .waiting, shutterTimer := some (now + sec 2), calSum := 0, calCount := 0 }

/-- The call: skipped and counted if both records are fresh, begun on both scanners otherwise (R135). -/
def State.callCalibration (s : State) : State :=
  if s.scannerFresh .a && s.scannerFresh .b then
    s.modTsu fun u => { u with calSkip := sat16 (u.calSkip + 1) }
  else
    s.modTsu fun u => { u with scanners :=
      { a := u.scanners.a.beginCalibration s.now, b := u.scanners.b.beginCalibration s.now } }

/-- A scanner's calibration is stopped by a withdrawal: its record stays as it was (R137). -/
def Scanner.stopCalibration (x : Scanner) : Scanner :=
  if x.progress = .idle then x
  else { x with shutterTimer := none, calSum := 0, calCount := 0, shutterClosed := false, progress := .idle }

/-- The call is withdrawn (R137). -/
def State.withdrawCalibration (s : State) : State :=
  s.modTsu fun u => { u with scanners := { a := u.scanners.a.stopCalibration, b := u.scanners.b.stopCalibration } }

/-- A calibration is in flight: either scanner's progress is not IDLE (R135). -/
def State.calibrationInFlight (s : State) : Bool :=
  s.tsu.scanners.a.progress != .idle || s.tsu.scanners.b.progress != .idle

/-! ## Changes of the site state -/

/-- What leaving a site state stops: the four timers, each of which runs in one state alone (R8, R13, R15), and on
leaving ARMED the calibration call (R12). -/
def State.leaveSite (s : State) : State :=
  let s := if s.ssq.site = .armed then s.withdrawCalibration else s
  s.modSsq fun q => { q with armTimer := none, sweepTimer := none, sweepDurTimer := none, restTimer := none }

/-- A pair machine returned to IDLE without counting (R20, R44). -/
def PairMachine.idled (m : PairMachine) : PairMachine := { m with st := .idle, timer := none }

/-- What entering a site state starts or clears: on OFFLINE the latch and the pair machines (R6, R20), on DORMANT
the sweep timer, on SWEEP the sweep duration timer, on PATROL with dormancy on the rest timer (R15), on ARMED the
arming timer in PULSE mode (R8, R10) and the calibration call (R12), on PASSAGE the latch (R13). -/
def State.entryActions (s : State) : State :=
  match s.ssq.site with
  | .offline =>
    { s with
      ssq := { s.ssq with latch := false }
      axt := { s.axt with pairs := { west := s.axt.pairs.west.idled, east := s.axt.pairs.east.idled } } }
  | .dormant => s.modSsq fun q => { q with sweepTimer := some (s.now + sec (s.cfg .tsweep)) }
  | .sweep => s.modSsq fun q => { q with sweepDurTimer := some (s.now + sec (s.cfg .dsweep)) }
  | .patrol =>
    if s.ssq.dormancy then s.modSsq fun q => { q with restTimer := some (s.now + sec (s.cfg .tclear)) } else s
  | .armed =>
    (if s.levelMode then s
     else s.modSsq fun q => { q with armTimer := some (s.now + sec (s.cfg .tarm)) }).callCalibration
  | .passage => s.modSsq fun q => { q with latch := false }

/-- One change of the site state with its SITE STATE notice to both ports (R3, R4). -/
def State.changeSite (new : SiteState) (cause : Cause) (s : State) : State :=
  let old := s.ssq.site
  let moved := ((s.leaveSite.modSsq fun q => { q with site := new }).followStreams).entryActions
  moved.noticeBoth 0x40 (siteStatePayload new (some old) cause moved.ssq.disablePending moved.ssq.clock)

/-- The site moves on to ARMED with the latch set, cause APPROACH (R8, R10, R11). -/
def State.arm (s : State) : State := (s.modSsq fun q => { q with latch := true }).changeSite .armed .approach

/-- In LEVEL mode with the approach input active, a site in PATROL, DORMANT or SWEEP moves on at once to ARMED
(R10). -/
def State.levelCarry (s : State) : State :=
  if s.levelMode && s.ssq.approachInput then
    match s.ssq.site with
    | .patrol => s.arm
    | .dormant => s.arm
    | .sweep => s.arm
    | _ => s
  else s

/-! ## The settle point (R17) -/

/-- Every pending value and calibration record is made active together and removed (R17, R75). -/
def State.applyPending (s : State) : State :=
  { s with
    mpc := { s.mpc with
      active := vzip (fun (p : Option Nat) (a : Nat) => p.getD a) s.mpc.pendingCfg s.mpc.active
      pendingCfg := Vector.replicate 54 none }
    channels := vmap (fun c => { c with cal := c.pendingCal.getD c.cal, pendingCal := none }) s.channels }

/-- The pending values are applied if the settle point holds now and did not hold before the event (R17). -/
def State.settleIfBegun (heldBefore : Bool) (s : State) : State :=
  if !heldBefore && s.settleHolds then s.applyPending else s

/-- The site enters a state: the change with its notice, the settle point if it begins, and in LEVEL mode the move
on to ARMED (R10, R17). -/
def State.enter (new : SiteState) (cause : Cause) (s : State) : State :=
  ((s.changeSite new cause).settleIfBegun s.settleHolds).levelCarry

/-- The site state a site in service rests in: DORMANT if the dormancy setting is on, PATROL otherwise (R5, R14,
R19). -/
def State.restState (s : State) : SiteState := if s.ssq.dormancy then .dormant else .patrol

/-! ## Trains as the Site Sequencer follows them -/

/-- The closure of a train as the Site Sequencer takes it: R14, then the carry-over of a latch still set (R11). -/
def State.siteClosure (s : State) : State :=
  if s.ssq.disablePending then
    (s.modSsq fun q => { q with disablePending := false }).enter .offline .trainClosure
  else
    let s := s.enter s.restState .trainClosure
    if s.ssq.latch then
      match s.ssq.site with
      | .patrol => if s.levelMode then s.modSsq fun q => { q with latch := false } else s.arm
      | .dormant => if s.levelMode then s.modSsq fun q => { q with latch := false } else s.arm
      | _ => s
    else s

/-- A wheel sensor edge reported to the Site Sequencer: it wakes a resting site (R16) and restarts the rest timer in
PATROL with dormancy on (R15). -/
def State.reportEdge (s : State) : State :=
  match s.ssq.site with
  | .dormant => s.enter .patrol .wheelWake
  | .sweep => s.enter .patrol .wheelWake
  | .patrol =>
    if s.ssq.dormancy then s.modSsq fun q => { q with restTimer := some (s.now + sec (s.cfg .tclear)) } else s
  | _ => s

/-! ## The site control actions -/

/-- ENABLE (R5). -/
def State.enableSite (s : State) : State :=
  match s.ssq.site with
  | .offline => s.enter s.restState .enable
  | .passage => s.modSsq fun q => { q with disablePending := false }
  | _ => s

/-- The outcome of ENABLE (R5). -/
def enableOutcome (s : State) : ReplyOutcome :=
  match s.ssq.site with
  | .offline => .done
  | .passage => if s.ssq.disablePending then .done else .noChange
  | _ => .noChange

/-- DISABLE (R6). -/
def State.disableSite (s : State) : State :=
  match s.ssq.site with
  | .offline => s
  | .passage => s.modSsq fun q => { q with disablePending := true }
  | _ => s.enter .offline .disable

/-- The outcome of DISABLE (R6). -/
def disableOutcome (s : State) : ReplyOutcome :=
  match s.ssq.site with
  | .offline => .noChange
  | .passage => .pending
  | _ => .done

/-- DORMANCY ON (R7). -/
def State.dormancyOnSite (s : State) : State :=
  let s := s.modSsq fun q => { q with dormancy := true }
  if s.ssq.site = .patrol then s.enter .dormant .dormancy else s

/-- The outcome of DORMANCY ON (R7). -/
def dormancyOnOutcome (s : State) : ReplyOutcome :=
  if !s.ssq.dormancy || s.ssq.site = .patrol then .done else .noChange

/-- DORMANCY OFF (R7); clearing the setting stops the rest timer (R15). -/
def State.dormancyOffSite (s : State) : State :=
  let s := s.modSsq fun q => { q with dormancy := false, restTimer := none }
  match s.ssq.site with
  | .dormant => s.enter .patrol .dormancy
  | .sweep => s.enter .patrol .dormancy
  | _ => s

/-- The outcome of DORMANCY OFF (R7). -/
def dormancyOffOutcome (s : State) : ReplyOutcome :=
  if s.ssq.dormancy || s.ssq.site = .dormant || s.ssq.site = .sweep then .done else .noChange

/-! ## Rows -/

/-- APPROACH_RISING_EDGE: a rising edge in PULSE mode (R8), the input becoming active in LEVEL mode (R10). -/
def execApproachRisingEdge (t : Nat) (s : State) : Host.Outcome State Fault Refusal :=
  let s := (s.advance t).modSsq fun q => { q with approachInput := true }
  .next (match s.ssq.site with
    | .offline => s
    | .patrol => s.arm
    | .dormant => s.arm
    | .sweep => s.arm
    | .armed =>
      if s.levelMode then s else s.modSsq fun q => { q with armTimer := some (s.now + sec (s.cfg .tarm)) }
    | .passage => s.modSsq fun q => { q with latch := true })

/-- A false approach: latch cleared, counted, back to PATROL (R9, R10). -/
def State.falseApproach (cause : Cause) (s : State) : State :=
  (s.modSsq fun q => { q with latch := false, falseApproach := sat16 (q.falseApproach + 1) }).enter .patrol cause

/-- APPROACH_FALLING_EDGE: a release in ARMED in LEVEL mode; no effect otherwise (R8, R10). -/
def execApproachFallingEdge (t : Nat) (s : State) : Host.Outcome State Fault Refusal :=
  let s := (s.advance t).modSsq fun q => { q with approachInput := false }
  .next (if s.levelMode && s.ssq.site = .armed then s.falseApproach .approachRelease else s)

/-- ARMING_TIMER_EXPIRY (R9). -/
def execArmingTimerExpiry (s : State) : Host.Outcome State Fault Refusal :=
  .next (match s.ssq.armTimer with
    | some d => if s.ssq.site = .armed then (s.advance d).falseApproach .approachTimeout else s
    | none => s)

/-- SWEEP_TIMER_EXPIRY (R15). -/
def execSweepTimerExpiry (s : State) : Host.Outcome State Fault Refusal :=
  .next (match s.ssq.sweepTimer with
    | some d => if s.ssq.site = .dormant then (s.advance d).enter .sweep .sweepStart else s
    | none => s)

/-- SWEEP_DURATION_EXPIRY (R15). -/
def execSweepDurationExpiry (s : State) : Host.Outcome State Fault Refusal :=
  .next (match s.ssq.sweepDurTimer with
    | some d => if s.ssq.site = .sweep then (s.advance d).enter .dormant .sweepEnd else s
    | none => s)

/-- REST_TIMER_EXPIRY (R15). -/
def execRestTimerExpiry (s : State) : Host.Outcome State Fault Refusal :=
  .next (match s.ssq.restTimer with
    | some d => if s.ssq.site = .patrol then (s.advance d).enter .dormant .rest else s
    | none => s)

/-- SITE_CLOCK_TICK: the clock advances by one and wraps; the next advance is due one second later (R18). -/
def execSiteClockTick (s : State) : Host.Outcome State Fault Refusal :=
  .next ((s.advance s.ssq.clockDue).modSsq fun q => { q with clock := q.clock + 1, clockDue := q.clockDue + sec 1 })

end Sys2Proof.Machine
end

