-- ==== Sys2Proof/Machine/Store.lean ====
section
/-! DEFINITION. The Report Store's slot lifecycle (09): allocation at a train start, completion, the aborted
report. -/

namespace Sys2Proof.Machine

/-! ## Allocation (R151 to R153) -/

/-- A slot that is not FREE has the state `st`. -/
def State.slotIs (s : State) (st : SlotState) (k : Fin 4) : Bool := (s.rps.slots[k]).any (fun h => h.st == st)

/-- The slot a train start takes: the lowest FREE one, else the oldest RELEASED, COMPLETE or CLOSING one (R151). -/
def State.chooseSlot (s : State) : Option (Fin 4) :=
  match ([0, 1, 2, 3] : List (Fin 4)).find? (fun k => (s.rps.slots[k]).isNone) with
  | some k => some k
  | none =>
    match s.rps.order.find? (s.slotIs .released) with
    | some k => some k
    | none =>
      match s.rps.order.find? (s.slotIs .complete) with
      | some k => some k
      | none => s.rps.order.find? (s.slotIs .closing)

/-- All header flags clear but the two found at the train start (R153). -/
def HeaderFlags.start (noApproach continuation : Bool) : HeaderFlags :=
  { noApproach := noApproach, continuation := continuation, calAborted := false, haltedOnSite := false,
    reversed := false, directionConflict := false, countConflict := false, axleOverflow := false,
    vehicleOverflow := false, staleChannels := false, aborted := false }

/-- The header as it is started at allocation (R153). -/
def Header.start (number : Nat) (slot : Fin 4) (d0 : Direction) (entry : Pair) (time : Clock) (flags : HeaderFlags) :
    Header :=
  { number := number, slot := slot, d0 := d0, entry := entry, startTime := time, endTime := none, closure := none,
    flags := flags, h := 0, recorded := 0, vehicles := 0, minSpeed := none, maxSpeed := none,
    thermalSum := { a := 0, b := 0 }, thermalCount := { a := 0, b := 0 },
    wheelPeaks := { normal := 0, watch := 0, alert := 0, critical := 0 },
    bearingPeaks := { normal := 0, warm := 0, hot := 0 }, dropped := 0, staleChannels := 0 }

/-- A stream that reads slot `k` ends with SLOT_GONE (R175). -/
def PortMachine.slotTaken (k : Fin 4) (pm : PortMachine) : PortMachine :=
  if pm.stream.any (fun st => st.slot == k) then pm.endStream 2 else pm

/-- Streams reading slot `k` end on both ports (R151, step 1). -/
def State.endStreamsOf (k : Fin 4) (s : State) : State :=
  (s.modPort .s (·.slotTaken k)).modPort .m (·.slotTaken k)

/-- The SLOT_OVERWRITTEN alert of a COMPLETE or CLOSING report discarded (R152). -/
def overwrittenAlert (newNumber : Nat) (k : Fin 4) (old : Option HeldSlot) : List AlertDraft :=
  match old with
  | some h =>
    if h.st = .complete ∨ h.st = .closing then
      [{ level := .notice, kind := .slotOverwritten, train := some (newNumber, k), axle := none, vehicle := none,
         side := none, value := h.report.header.number }]
    else []
  | none => []

/-- The payload of a TRAIN STARTED notice (R151, step 4); NO_APPROACH and CONTINUATION take a byte each
(assumption 6). -/
def trainStartedPayload (h : Header) : List Byte :=
  u8 h.slot ++ u16 h.number ++ u8 h.d0.code ++ u32 h.startTime.toNat ++ flag h.flags.noApproach
    ++ flag h.flags.continuation

/-- Slot `k` is given to a new train: the old report discarded, the number assigned, the header started, the notice
sent (R151). -/
def State.allocate (k : Fin 4) (d0 : Direction) (entry : Pair) (flags : HeaderFlags) (s : State) : State :=
  let old := s.rps.slots[k]
  let number := nextNumber s.rps.trainCounter
  let s := (s.endStreamsOf k).modEvu (·.leaveSweep k)
  let s := s.modRps fun r => { r with trainCounter := number, slots := r.slots.set k none }
  let s := s.postAll (overwrittenAlert number k old)
  let h := Header.start number k d0 entry s.ssq.clock flags
  let s := s.modRps fun r => { r with
    slots := r.slots.set k (some { st := .filling, report := { header := h, axles := [], vehicles := [] } })
    order := r.order.filter (· ≠ k) ++ [k] }
  s.noticeBoth 0x41 (trainStartedPayload h)

/-! ## Closing, completion, abort (R158, R159, R161) -/

/-- The state of a held slot changed. -/
def State.setSlotState (k : Fin 4) (st : SlotState) (s : State) : State :=
  s.modRps fun r => { r with slots := r.slots.set k ((r.slots[k]).map fun h => { h with st := st }) }

/-- The payload of a TRAIN COMPLETE notice (R159). -/
def trainCompletePayload (h : Header) : List Byte :=
  u8 h.slot ++ u16 h.number ++ opt (fun k : ClosureKind => u8 k.code) h.closure ++ u16 h.h ++ u16 h.recorded
    ++ u16 h.vehicles ++ u16 h.flags.bits ++ h.wheelPeaks.bytes ++ h.bearingPeaks.bytes

/-- The TRAIN COMPLETE notice of slot `k` to both ports (R159). -/
def State.noticeComplete (k : Fin 4) (s : State) : State :=
  match s.rps.slots[k] with
  | some h => s.noticeBoth 0x42 (trainCompletePayload h.report.header)
  | none => s

/-- The slot whose completion test passed becomes COMPLETE with its notice, leaves the sweep's queue, and the settle
point begins if it was the last CLOSING slot and the site rests (R109, R159, R17). -/
def State.completeSlot (k : Fin 4) (s : State) : State :=
  ((((s.setSlotState k .complete).noticeComplete k).modEvu (·.leaveSweep k)).settleIfBegun s.settleHolds).levelCarry

/-- A slot RESTART makes COMPLETE: flagged ABORTED, and for a FILLING one the end time (R161). -/
def HeldSlot.abort (time : Clock) (h : HeldSlot) : HeldSlot :=
  { st := .complete
    report := { h.report with header := { h.report.header with
      endTime := if h.st = .filling then some time else h.report.header.endTime
      flags := { h.report.header.flags with aborted := true } } } }

/-- Slot `k` aborted by RESTART with its TRAIN COMPLETE notice (R161). -/
def State.abortSlot (k : Fin 4) (s : State) : State :=
  (s.modRps fun r => { r with slots := r.slots.set k ((r.slots[k]).map (HeldSlot.abort s.ssq.clock)) }).noticeComplete k

/-- RESTART at the store: the CLOSING slots in the order of their closures, then the FILLING slot (R161). -/
def State.abortSlots (s : State) : State :=
  let closing := s.evu.sweepQueue.filter s.slotClosing
  let filling := ([0, 1, 2, 3] : List (Fin 4)).filter (s.slotIs .filling)
  (closing ++ filling).foldl (fun s k => s.abortSlot k) s

end Sys2Proof.Machine
end

