-- ==== Sys2Proof/Machine/Completion.lean ====
section
/-! DEFINITION. The end of an evaluation and the closing sweep (6.5, 6.6), with the rows EVALUATION_COMPLETION and
SWEEP_STEP. -/

namespace Sys2Proof.Machine

/-! ## Dirty targets -/

/-- The dirty flag of a target cleared. -/
def Report.clearDirty (l : Lane) (i : Nat) (r : Report) : Report :=
  match l with
  | .a => r.modAxle i fun x => { x with cribs := { x.cribs with a := { x.cribs.a with dirty := false } } }
  | .b => r.modAxle i fun x => { x with cribs := { x.cribs with b := { x.cribs.b with dirty := false } } }
  | .thermal => r.modAxle i fun x => { x with gateDirty := false }
  | .vehicle => r.modVehicle i fun x => { x with dirty := false }

/-- An axle record has a dirty set. -/
def AxleRecord.anyDirty (x : AxleRecord) : Bool := x.cribs.a.dirty || x.cribs.b.dirty || x.gateDirty

/-- No crib set, gate set or vehicle record of the report is dirty (R109). -/
def Report.clean (r : Report) : Bool := r.axles.all (fun x => !x.anyDirty) && r.vehicles.all (fun v => !v.dirty)

/-! ## Completion test (R109) -/

/-- An evaluation of slot `k` is in flight, of whatever train (R109, assumption 18). -/
def Evu.inFlight (k : Fin 4) (v : Evu) : Bool := v.evals.toList.any fun e => e.any fun e => e.req.slot == k

/-- The sweep serves slot `k`, at rest at the end of a pass with its rewalk mark clear. -/
def Evu.restsOn (k : Fin 4) (v : Evu) : Bool := v.sweepQueue.head? == some k && v.sweepResting && !v.rewalk

/-- The completion test of the sweep's slot: COMPLETE if it passes (R109). -/
def State.completionTest (k : Fin 4) (s : State) : State :=
  if s.evu.restsOn k && (s.rps.slots[k]).any (fun h => h.report.clean) && !s.evu.inFlight k then s.completeSlot k else s

/-! ## Completion of an evaluation (R105, R106) -/

/-- Step 2 of R105: the dirty flag cleared, or kept with a new request filed in its lane. -/
def State.settleDirty (e : Evaluation) (s : State) : State :=
  let q := e.req
  if e.removed then s
  else if !e.changed then s.write q.slot q.number (Report.clearDirty q.lane q.target)
  else match q.lane with
    | .vehicle =>
      if (s.liveReport q.slot q.number).any fun r => (r.vehicles[q.target]?).any fun v => !v.isOpen then
        s.file { q with urgent := false }
      else s
    | _ => s.file q

/-- The covering vehicle of an axle marked dirty, and its request filed in its lane if it is CLOSED (R106). -/
def State.markCovering (q : Request) (s : State) : State :=
  match (s.liveReport q.slot q.number).bind (fun r => r.coveringVehicle q.target) with
  | some v =>
    let s := (s.write q.slot q.number (Report.modVehicle v.index fun x => { x with dirty := true })).markChanged
      .vehicle q.slot q.number v.index
    if v.isOpen then s
    else s.file { lane := .vehicle, slot := q.slot, number := q.number, target := v.index, urgent := false }
  | none => s

/-- The results of a completion change one of the four values R106 compares. -/
def Evaluation.changesAxle (e : Evaluation) (r : Report) : Bool :=
  e.req.lane != .vehicle &&
    ((e.complete r).1.axles[e.req.target]?).map AxleRecord.watched != (r.axles[e.req.target]?).map AxleRecord.watched

/-- Step 3 of R105: the follow-on (R106). -/
def State.followOn (e : Evaluation) (before : Report) (s : State) : State :=
  if e.changesAxle before then s.markCovering e.req else s

/-- Steps 1 to 3 of R105 for a report that still holds the train. -/
def State.completeLive (e : Evaluation) (r : Report) (s : State) : State :=
  let s := if e.writes then s.write e.req.slot e.req.number (fun x => (e.complete x).1) else s
  (((s.postAll (e.complete r).2).settleDirty e).followOn e r)

/-- Steps 1 to 3 of R105 for a report whose slot has been taken: its writes are dropped as one (R157, assumption 21). -/
def State.completeGone (e : Evaluation) (s : State) : State :=
  if e.writes then s.write e.req.slot e.req.number id else s

/-- The evaluation slot becomes free (R105, step 4). -/
def State.release (e : Fin 2) (s : State) : State := s.modEvu fun v => { v with evals := v.evals.set e none }

/-- EVALUATION_COMPLETION (R105): steps 1 to 3, the release, the sweep test, and only then the arbitration. -/
def execEvaluationCompletion (e : Fin 2) (s : State) : Host.Outcome State Fault Refusal :=
  .next (match s.evu.evals[e] with
    | none => s
    | some ev =>
      let done := match s.liveReport ev.req.slot ev.req.number with
        | some r => s.completeLive ev r
        | none => s.completeGone ev
      ((done.release e).completionTest ev.req.slot).serveLanes)

/-! ## The closing sweep (R107, R108) -/

/-- The end of a pass: a new one if the rewalk mark is set, otherwise rest and the completion test (R108). -/
def State.endPass (k : Fin 4) (s : State) : State :=
  if s.evu.rewalk then s.modEvu fun v => { v with rewalk := false, sweepPos := .first }
  else (s.modEvu fun v => { v with sweepResting := true }).completionTest k

/-- A step at the target `pos`, with the end of the pass where the cursor leaves the last target (R107, R108). -/
def State.sweepAt (k : Fin 4) (r : Report) (pos : SweepPos) (s : State) : State :=
  let s := s.sweepVisit k r pos
  if !s.evu.sweepWaiting && s.evu.sweepPos.atEnd r then s.endPass k else s

/-- SWEEP_STEP: one target, or a waiting sweep's target again (R107, R108, assumption 12). No step is taken at rest. -/
def execSweepStep (s : State) : Host.Outcome State Fault Refusal :=
  .next (match s.evu.sweepQueue.head? with
    | none => s
    | some k =>
      if s.evu.sweepResting then s
      else match s.rps.slots[k] with
        | none => s
        | some h =>
          let pos := s.evu.sweepPos.norm h.report
          if pos.atEnd h.report then (s.moveSweep pos).endPass k else s.sweepAt k h.report pos)

end Sys2Proof.Machine
end

