-- ==== Sys2Proof/Machine/Capture.lean ====
section
/-! DEFINITION. The Crib Capture Units (05): opening, following and closing a capture, its disposal and its crib
record. -/

namespace Sys2Proof.Machine

/-- How a capture closes, as its disposal sees it (R87 to R90). -/
inductive CloseKind where
  | normal
  | truncated
  | gapped
deriving DecidableEq, Repr

/-! ## Opening (R81, R82) -/

/-- The capture a sample opens for a pointer result `(axle, pointer, move)` (R81). -/
def newCapture (t : OpenTrain) (r : Option Nat × Nat × Option Move) (stale defaultCal : Bool) (y : Nat) (ovr : Bool) :
    Capture :=
  { slot := t.slot, axle := r.1, move := r.2.2, dir := t.d0.along t.motionTaken, speed := t.speed,
    staleAtOpen := stale, defaultAtOpen := defaultCal, distance := 0, peak := if t.moving then y else 0,
    plateauSum := 0, plateauCount := 0, lowCount := 0, gapCount := 0, gapped := false, saturated := ovr,
    reversed := false }

/-- A capture opens on channel `k` (R81): pointer, fields, stale-seen mark. -/
def State.openCapture (t : OpenTrain) (k : Fin 16) (y : Nat) (ovr : Bool) (s : State) : State :=
  let stale := s.stale k
  let defaultCal := !s.channels[k].cal.isSet
  s.modUnit k fun u =>
    let r := applyPointer t.motionTaken u.pointer t.n
    { u with pointer := r.2.1, capture := some (newCapture t r stale defaultCal y ovr),
             orphan := if r.1.isNone then sat16 (u.orphan + 1) else u.orphan,
             staleSeen := u.staleSeen || stale }

/-! ## Closing and disposal (R91 to R93) -/

/-- The crib record of a stored capture (R92). -/
def Capture.record (kind : CloseKind) (c : Capture) : CribRecord :=
  { plateau := if c.plateauCount = 0 then none else some (roundHalfUp c.plateauSum c.plateauCount)
    peak := if c.saturated then Config.loadMax else c.peak
    speed := c.speed, dir := c.dir, stale := c.staleAtOpen, truncated := kind == .truncated
    gapped := c.gapped || kind == .gapped, reversed := c.reversed, saturated := c.saturated
    defaultCal := c.defaultAtOpen }

/-- The far crib for a direction: the last crib a wheel crosses (R93). -/
def farCrib : Direction → Fin 8
  | .east => 7
  | .west => 0

/-- A crib record put into place `c` of a rail's set, which becomes dirty (R93). -/
def AxleRecord.putCrib (x : Side) (c : Fin 8) (r : CribRecord) (ax : AxleRecord) : AxleRecord :=
  { ax with cribs := ax.cribs.upd x fun set => { places := set.places.set c (some r), dirty := true } }

/-- A crib record written for axle `a` of channel `k`, with the changed mark of an evaluation in flight and the
far-crib request (R93, R104). -/
def State.writeCribRecord (t : OpenTrain) (slot : Fin 4) (k : Fin 16) (a : Nat) (r : CribRecord) (s : State) : State :=
  let rail := channelRail k
  let s := (s.write slot t.number (Report.modAxle a (·.putCrib rail (channelCrib k) r))).markChanged
    (railLane rail) slot t.number a
  if channelCrib k = farCrib r.dir then
    s.request { lane := railLane rail, slot := slot, number := t.number, target := a, urgent := false }
  else s

/-- A capture is turned about: its direction differs from that of the last moving direction (R91). -/
def Capture.turnedAbout (t : OpenTrain) (c : Capture) : Bool := c.dir != t.d0.along t.lastDir

/-- A capture is NOISE: a normal close below Lmin (R91). -/
def State.isNoise (s : State) (kind : CloseKind) (c : Capture) : Bool :=
  kind == .normal && decide (c.distance < s.cfg .lmin * 10000)

/-- The disposal of a closed capture by the first case of R91 that applies. -/
def State.disposeCapture (t : OpenTrain) (k : Fin 16) (kind : CloseKind) (c : Capture) (s : State) : State :=
  match c.axle with
  | none => s
  | some a =>
    let undo := min (beforeValue a c.move) t.n
    if c.turnedAbout t then s.modUnit k fun u => { u with pointer := undo, undone := sat16 (u.undone + 1) }
    else if s.isNoise kind c then s.modUnit k fun u => { u with pointer := undo, noise := sat16 (u.noise + 1) }
    else if Config.axleTable ≤ a then s.modUnit k fun u => { u with unrecorded := sat16 (u.unrecorded + 1) }
    else s.writeCribRecord t c.slot k a (c.record kind)

/-- A close: no capture is open any more, the quiet timer starts (R69), and the capture is disposed of (R91). -/
def State.closeCapture (t : OpenTrain) (k : Fin 16) (kind : CloseKind) (c : Capture) (s : State) : State :=
  ((s.modUnit k fun u => { u with capture := none }).modChannel k fun ch =>
    { ch with quiet := some (s.now + ms (s.cfg .tquiet)) }).disposeCapture t k kind c

/-! ## Following (R83 to R88) -/

/-- The distance lies in the plateau zone (R84). -/
def State.inPlateau (s : State) (distance : Nat) : Bool :=
  decide (s.cfg .pstart * 10000 ≤ distance) && decide (distance < s.cfg .pend * 10000)

/-- A used sample: steps 1 to 4 of R83, the low count moved and not yet tested. -/
def State.useSample (s : State) (speed y : Nat) (ovr : Bool) (c : Capture) : Capture :=
  let distance := c.distance + speed
  let zone := s.inPlateau distance && !ovr
  { c with
    distance := distance
    peak := max c.peak y
    saturated := c.saturated || ovr
    plateauSum := if zone then c.plateauSum + y else c.plateauSum
    plateauCount := if zone then c.plateauCount + 1 else c.plateauCount
    lowCount := if y < s.cfg .toff then c.lowCount + 1 else 0 }

/-- A sample reaching a capture while the train moves: used, and the capture closes normally (R87) or is truncated
(R88), when a sample at or above Ton opens a new one at once. -/
def State.followCapture (t : OpenTrain) (k : Fin 16) (y : Nat) (ovr : Bool) (c : Capture) (s : State) : State :=
  let c := s.useSample t.speed y ovr c
  if s.cfg .nclose ≤ c.lowCount then s.closeCapture t k .normal c
  else if s.cfg .lmax * 10000 ≤ c.distance then
    let s := s.closeCapture t k .truncated c
    if s.cfg .ton ≤ y then s.openCapture t k y ovr else s
  else s.modUnit k fun u => { u with capture := some c }

/-- A sample reaching a suspended capture: only an over-range one marks it SATURATED (R85, R74). -/
def State.suspendedSample (k : Fin 16) (ovr : Bool) (c : Capture) (s : State) : State :=
  s.modUnit k fun u => { u with capture := some { c with saturated := c.saturated || ovr } }

/-- A converted sample handed to the unit of channel `k` (R80). -/
def State.captureSample (k : Fin 16) (y : Nat) (ovr : Bool) (s : State) : State :=
  match s.axt.train with
  | none => s
  | some t =>
    if s.ssq.site ≠ .passage then s
    else match s.units[k].capture with
      | none => if s.cfg .ton ≤ y then s.openCapture t k y ovr else s
      | some c => if t.moving then s.followCapture t k y ovr c else s.suspendedSample k ovr c

/-! ## Events between samples -/

/-- A gap reported to a unit: an open capture counts it and is GAPPED beyond Gtol (R63). -/
def State.captureGap (k : Fin 16) (missing : Nat) (s : State) : State :=
  s.modUnit k fun u => { u with capture := u.capture.map fun c =>
    { c with gapCount := sat16 (c.gapCount + missing)
             gapped := c.gapped || decide (s.cfg .gtol < sat16 (c.gapCount + missing)) } }

/-- A capture still open closes in the given way. -/
def State.closeIfOpen (k : Fin 16) (kind : Capture → CloseKind) (s : State) : State :=
  match s.axt.train, s.units[k].capture with
  | some t, some c => s.closeCapture t k (kind c) c
  | _, _ => s

/-- The loss of a channel's node closes its capture GAPPED (R89). -/
def State.captureNodeLost (k : Fin 16) (s : State) : State := s.closeIfOpen k (fun _ => .gapped)

/-- How a capture closes at the train's closure (R90). -/
def closureKindOf (c : Capture) : CloseKind := if 0 < c.lowCount then .normal else .truncated

/-- Every open capture closes at the train's closure, in channel order (R90). -/
def State.closeAllCaptures (s : State) : State := allChannels.foldl (fun s k => s.closeIfOpen k closureKindOf) s

/-- A reversal marks every open capture REVERSED (R86). -/
def State.reverseCaptures (s : State) : State :=
  { s with units := vmap (fun u => { u with capture := u.capture.map fun c => { c with reversed := true } }) s.units }

/-- Pointers and stale-seen marks at a train start (R94). -/
def State.resetCapturePointers (s : State) : State :=
  { s with units := vmap (fun u => { u with pointer := 0, staleSeen := false }) s.units }

end Sys2Proof.Machine
end

