-- ==== Sys2Proof/Machine/Operands.lean ====
section
/-! DEFINITION. What arrives from outside, checked and read: sensor link frames (R60, R130) and the bytes on a
port's receive line (R171). -/

namespace Sys2Proof.Machine

/-! ## Sensor link frames -/

/-- The fields a gauge frame's check covers, as bytes: each named field in the encoding of chapter 11, in the
order of R60 (assumption 9). -/
def gaugeFrameBytes (f : GaugeFrame) : List Byte :=
  [f.node, f.seq] ++ u8 (flagBits f.overRange.toList) ++ f.samples.toList.flatMap (fun x => i32 x.toInt)

/-- A gauge frame arriving on link `g` is good: its check matches and its node number is the link's (R60). -/
def gaugeFrameGood (g : Fin 4) (f : GaugeFrame) : Bool :=
  f.check == crc (gaugeFrameBytes f) && f.node.toNat == g.val

/-- The good frame of an arrival on link `g`, `none` for a bad one (R60). -/
def goodGaugeFrame (g : Fin 4) : GaugeArrival → Option GaugeFrame
  | .incomplete => none
  | .frame f => if gaugeFrameGood g f then some f else none

/-- The fields a scanner frame's check covers, as bytes, in the order of R130 (assumption 9). -/
def scannerFrameBytes (f : ScannerFrame) : List Byte :=
  [f.node, f.seq] ++ u8 (match f.shutter with | .opened => 0 | .closed => 1)
    ++ u16 f.shutterTemp.toNat ++ u16 f.sample.toNat

/-- A scanner frame arriving on the link of side `x` is good (R130). -/
def scannerFrameGood (x : Side) (f : ScannerFrame) : Bool :=
  f.check == crc (scannerFrameBytes f) && f.node.toNat == sideCode x

/-- The good frame of an arrival on a scanner link, `none` for a bad one. -/
def goodScannerFrame (x : Side) : ScannerArrival → Option ScannerFrame
  | .incomplete => none
  | .frame f => if scannerFrameGood x f then some f else none

/-- What the sequence check of R62 finds in a good frame. -/
inductive SeqCheck where
  | accepted
  | duplicate
  | jump (missing : Nat)
deriving DecidableEq, Repr

/-- The sequence check of a good frame taken while the node's samples stream (R62, R130). -/
def checkSeq (prev : Option Byte) (seq : Byte) : SeqCheck :=
  match prev with
  | none => .accepted
  | some p => if seq = p + 1 then .accepted else if seq = p then .duplicate else .jump (seq - p - 1).toNat

/-! ## The receiver of a port -/

/-- The bytes a receiver holds, from the sync on (R171). -/
def Receiver.held : Receiver → List Byte
  | .hunt => []
  | .length => [0xC3]
  | .body len got => 0xC3 :: len :: got

/-- What a receiver makes of a run of bytes: its state after them, the bad frames it counted, and the good
frames (kind, tag and payload) it found, oldest first. -/
structure Received where
  receiver : Receiver
  bad      : Nat
  frames   : List (List Byte)
deriving DecidableEq, Repr

/-- The receiver of R171 over bytes not yet examined, from HUNT. A bad frame is counted and the bytes after its
sync are examined again from the first of them. Each round consumes a byte, so `fuel` above the number of bytes
is enough. -/
def scanBytes : Nat → List Byte → Received
  | 0, _ => { receiver := .hunt, bad := 0, frames := [] }
  | _ + 1, [] => { receiver := .hunt, bad := 0, frames := [] }
  | fuel + 1, b :: rest =>
    if b ≠ 0xC3 then scanBytes fuel rest
    else match rest with
      | [] => { receiver := .length, bad := 0, frames := [] }
      | len :: body =>
        if len.toNat < 2 || 250 < len.toNat then
          let r := scanBytes fuel rest
          { r with bad := r.bad + 1 }
        else if body.length < len.toNat + 2 then { receiver := .body len body, bad := 0, frames := [] }
        else if u16 (crc (len :: body.take len.toNat)).toNat = (body.drop len.toNat).take 2 then
          let r := scanBytes fuel (body.drop (len.toNat + 2))
          { r with frames := body.take len.toNat :: r.frames }
        else
          let r := scanBytes fuel rest
          { r with bad := r.bad + 1 }

/-- The receiver takes further bytes (R171). -/
def Receiver.feed (rx : Receiver) (bytes : List Byte) : Received :=
  scanBytes (rx.held.length + bytes.length + 1) (rx.held ++ bytes)

/-- The oldest request of a port that has not been served: the one served next (R172). -/
def PortMachine.head (pm : PortMachine) : Option QueuedRequest := pm.requests.find? (fun r => !r.served)

/-- The first unserved request of a queue is marked as served. -/
def markFirstServed : List QueuedRequest → List QueuedRequest
  | [] => []
  | r :: rs => if r.served then r :: markFirstServed rs else { r with served := true } :: rs

end Sys2Proof.Machine
end

