-- ==== Sys2Proof/Machine/Gauge.lean ====
section
/-! DEFINITION. The Gauge Link Interface and the Gauge Channel Units (04), and the rows GAUGE_FRAME,
GAUGE_LOSS_TIMER_EXPIRY and QUIET_TIMER_EXPIRY. -/

namespace Sys2Proof.Machine

/-! ## Conversion (R73, R74) -/

/-- The load of `d` counts above the baseline under a calibration record (R73, step 3). -/
def CalRecord.load (c : CalRecord) (d : Nat) : Nat :=
  min Config.loadMax
    ((c.m0 * min d c.b1 + c.m1 * min (d - c.b1) (c.b2 - c.b1) + c.m2 * min (d - c.b2) (c.b3 - c.b2)
      + c.m3 * (d - c.b3)) / 4096)

/-- The load of a sample: 6000 if over-range (R74), 0 on an UNSET baseline or at or below the baseline, and by the
segments otherwise (R73). -/
def Channel.convert (c : Channel) (x : Int) (ovr : Bool) : Nat :=
  if ovr then Config.loadMax
  else match c.z with
    | none => 0
    | some z => let d := x - z / 256; if d ≤ 0 then 0 else c.cal.load d.toNat

/-! ## Baselines (R70) -/

/-- The baseline after a sample of a clear channel (R70). -/
def baselineStep (z : Option Int) (x : Int) (kFine kCoarse wfast : Nat) : Int :=
  match z with
  | none => 256 * x
  | some z =>
    let e := 256 * x - z
    z + e / 2 ^ (if 256 * (wfast : Int) < |e| then kCoarse else kFine)

/-- Step 3 of R67: a clear channel's sample, not over-range, sets or updates the baseline in PATROL, SWEEP and
PASSAGE (R70). -/
def State.trackBaseline (k : Fin 16) (x : Int) (ovr : Bool) (s : State) : State :=
  if s.clear k && s.ssq.site.tracksBaselines && !ovr then
    s.modChannel k fun c =>
      { c with z := some (baselineStep c.z x (s.cfg .kFine) (s.cfg .kCoarse) (s.cfg .wfast)), ageFrom := s.now }
  else s

/-- One sample delivered to a channel: conversion, capture, baseline (R67). -/
def State.channelSample (k : Fin 16) (x : Int) (ovr : Bool) (s : State) : State :=
  (s.captureSample k (s.channels[k].convert x ovr) ovr).trackBaseline k x ovr

/-- The four channels of a node. -/
def nodeChannels (g : Fin 4) : List (Fin 4 × Fin 16) :=
  [(0, nodeChannel g 0), (1, nodeChannel g 1), (2, nodeChannel g 2), (3, nodeChannel g 3)]

/-- An accepted frame taken in PRESENT delivers one sample to each of the node's channels (R67). -/
def State.deliver (g : Fin 4) (f : GaugeFrame) (s : State) : State :=
  (nodeChannels g).foldl (fun s j => s.channelSample j.2 f.samples[j.1].toInt f.overRange[j.1]) s

/-! ## Nodes (R61 to R66) -/

/-- The sequence of an accepted frame is taken and the loss timer restarts (R61, R62). -/
def State.acceptGaugeSeq (g : Fin 4) (f : GaugeFrame) (s : State) : State :=
  s.modNode g fun n => { n with prev := some f.seq, lossTimer := some (s.now + ms (s.cfg .tlost)) }

/-- A duplicate: counted, and the loss timer restarts (R62). -/
def State.gaugeDuplicate (g : Fin 4) (s : State) : State :=
  s.modNode g fun n =>
    { n with duplicate := sat16 (n.duplicate + 1), lossTimer := some (s.now + ms (s.cfg .tlost)) }

/-- The settle discard takes one frame; with the count at 0 the node is PRESENT (R66). -/
def GaugeNode.settleFrame (n : GaugeNode) : GaugeNode :=
  { n with settle := n.settle - 1, status := if n.settle - 1 = 0 then .present else .settling }

/-- A jump counted at the node (R62). -/
def State.gaugeMissing (g : Fin 4) (missing : Nat) (s : State) : State :=
  s.modNode g fun n => { n with missing := sat16 (n.missing + missing) }

/-- A jump handed to the capture units of the node's channels (R63). -/
def State.gaugeGap (g : Fin 4) (missing : Nat) (s : State) : State :=
  (nodeChannels g).foldl (fun s j => s.captureGap j.2 missing) s

/-- A good frame taken in SETTLING (R61, R62, R66). -/
def State.settlingFrame (g : Fin 4) (f : GaugeFrame) (s : State) : State :=
  match checkSeq s.nodes[g].prev f.seq with
  | .duplicate => s.gaugeDuplicate g
  | .accepted => (s.acceptGaugeSeq g f).modNode g GaugeNode.settleFrame
  | .jump missing => ((s.gaugeMissing g missing).acceptGaugeSeq g f).modNode g GaugeNode.settleFrame

/-- A good frame taken in PRESENT (R61, R62, R63, R67). -/
def State.presentFrame (g : Fin 4) (f : GaugeFrame) (s : State) : State :=
  match checkSeq s.nodes[g].prev f.seq with
  | .duplicate => s.gaugeDuplicate g
  | .accepted => (s.acceptGaugeSeq g f).deliver g f
  | .jump missing => (((s.gaugeMissing g missing).acceptGaugeSeq g f).gaugeGap g missing).deliver g f

/-- A good frame taken in LOST re-synchronises the node (R65). -/
def State.resyncFrame (g : Fin 4) (f : GaugeFrame) (s : State) : State :=
  let s := s.acceptGaugeSeq g f
  if 0 < s.nodes[g].settle then s.modNode g GaugeNode.settleFrame
  else (s.modNode g fun n => { n with status := .present }).deliver g f

/-- A bad frame: discarded and counted (R60). -/
def State.badGaugeFrame (g : Fin 4) (s : State) : State :=
  s.modNode g fun n => { n with bad := sat16 (n.bad + 1) }

/-- GAUGE_FRAME (R60, R61). -/
def execGaugeFrame (g : Fin 4) (t : Nat) (a : GaugeArrival) (s : State) : Host.Outcome State Fault Refusal :=
  let s := s.advance t
  .next (match s.nodes[g].status, goodGaugeFrame g a with
    | .off, _ => s
    | _, none => s.badGaugeFrame g
    | .settling, some f => s.settlingFrame g f
    | .present, some f => s.presentFrame g f
    | .lost, some f => s.resyncFrame g f)

/-- A gauge node becomes LOST: captures, count, alert (R64). -/
def State.loseGauge (g : Fin 4) (s : State) : State :=
  let s := s.modNode g fun n => { n with status := .lost, lossTimer := none }
  let s := (nodeChannels g).foldl (fun s j => s.captureNodeLost j.2) s
  let s := s.modNode g fun n => { n with losses := sat16 (n.losses + 1) }
  s.post { level := .notice, kind := .nodeLost, train := s.openTrainId, axle := none, vehicle := none, side := none,
           value := g.val }

/-- GAUGE_LOSS_TIMER_EXPIRY (R64). -/
def execGaugeLossTimerExpiry (g : Fin 4) (s : State) : Host.Outcome State Fault Refusal :=
  .next (match s.nodes[g].lossTimer with
    | some d =>
      if s.nodes[g].status = .settling || s.nodes[g].status = .present then (s.advance d).loseGauge g else s
    | none => s)

/-- QUIET_TIMER_EXPIRY: the timer stops; the channel is clear if no capture is open (R69). -/
def execQuietTimerExpiry (k : Fin 16) (s : State) : Host.Outcome State Fault Refusal :=
  .next (match s.channels[k].quiet with
    | some d => (s.advance d).modChannel k fun c => { c with quiet := none }
    | none => s)

end Sys2Proof.Machine
end

