-- ==== Sys2Proof/Machine/Serve.lean ====
section
/-! DEFINITION. The replies to requests (11.3): the tests of length and range, the bytes each reply carries, and the
service of the oldest unserved request of a port (R172). -/

namespace Sys2Proof.Machine

/-! ## Service -/

/-- A reply: its outcome and the body of each of its frames. -/
structure Reply where
  outcome : ReplyOutcome
  bodies  : List (List Byte)
deriving DecidableEq, Repr

/-- A reply of one frame with a body. -/
def Reply.one (o : ReplyOutcome) (body : List Byte) : Reply := { outcome := o, bodies := [body] }

/-- A reply that carries its outcome alone. -/
def Reply.bare (o : ReplyOutcome) : Reply := .one o []

/-- The frames of a reply made for a port, with the request they answer marked as served (R172, R173). -/
def PortMachine.reply (frames : List OutFrame) (pm : PortMachine) : PortMachine :=
  frames.foldl (fun m f => m.push f) { pm with requests := markFirstServed pm.requests }

/-- The reply to request `r` of port `p` (R172): kind plus 0x80, the request's tag. -/
def State.answer (p : Port) (r : QueuedRequest) (a : Reply) (s : State) : State :=
  s.modPort p (·.reply (replyFrames (r.kind + 0x80) r.tag a.outcome a.bodies))

/-- The service of the oldest unserved request of a port by a row that serves such requests; no effect where there is
none (assumption 2). -/
def State.serve (p : Port) (serves : QueuedRequest → Bool) (effect : QueuedRequest → State → State) (s : State) :
    State :=
  match (s.mpc.ports.get p).head with
  | some r => if serves r then effect r s else s
  | none => s

/-- The request has the kind. -/
def QueuedRequest.hasKind (kind : Nat) (r : QueuedRequest) : Bool := r.kind.toNat == kind

/-- The service of a request that changes no state beside its reply. -/
def State.serveRead (p : Port) (kind : Nat) (reply : State → List Byte → Reply) (s : State) : State :=
  s.serve p (·.hasKind kind) fun r s => s.answer p r (reply s r.payload)

/-- A number of records, in one byte, before records whose number is not fixed (assumption 6). -/
def counted {α : Type} (f : α → List Byte) (xs : List α) : List Byte := u8 xs.length ++ xs.flatMap f

/-! ## STATUS -/

/-- The Site Sequencer's values (11.3). -/
def Ssq.status (q : Ssq) : List Byte :=
  u8 q.site.code ++ flag q.dormancy ++ flag q.disablePending ++ flag q.latch ++ flag q.streaming
    ++ u16 q.falseApproach ++ u32 q.clock.toNat

/-- The values of an open train (R43). -/
def OpenTrain.status (t : OpenTrain) : List Byte :=
  u16 t.n ++ u16 t.h ++ u16 t.x ++ u8 t.motion.code ++ u16 t.speed ++ u8 t.d0.code

/-- The Axle Tracker's values (R43). -/
def Axt.status (a : Axt) : List Byte :=
  opt OpenTrain.status a.train ++ u16 a.pairs.west.halfCrossings ++ u16 a.pairs.east.halfCrossings ++ u16 a.stray
    ++ u16 a.unenteredExit ++ u16 a.pointerClamp ++ flag a.continuation

/-- The Vehicle Segmenter's values (R58). -/
def Vsg.status (g : Vsg) : List Byte :=
  opt u16 (if g.vehicles.isEmpty then none else some (g.vehicles.length - 1)) ++ u16 g.vehicles.length
    ++ u8 g.history.length ++ u16 g.deficit

/-- A count summed over the capture units and held (R95). -/
def State.unitSum (s : State) (f : CaptureUnit → Nat) : Nat := sat16 (s.units.toList.map f).sum

/-- The gauge side's and the capture units' values (R78, R95). -/
def State.gaugeStatus (s : State) : List Byte :=
  u8 (allChannels.countP s.stale) ++ s.nodes.toList.flatMap (fun n => u8 n.status.code)
    ++ opt (fun _ : OpenTrain => s.units.toList.flatMap fun u => u16 u.pointer) s.axt.train
    ++ u8 (s.units.toList.countP fun u => u.capture.isSome)
    ++ u16 (s.unitSum (·.orphan)) ++ u16 (s.unitSum (·.noise)) ++ u16 (s.unitSum (·.undone))
    ++ u16 (s.unitSum (·.unrecorded))

/-- A value of each lane, in the order A, B, THERMAL, VEHICLE. -/
def PerLane.bytes {α : Type} (f : α → List Byte) (x : PerLane α) : List Byte := f x.a ++ f x.b ++ f x.thermal ++ f x.vehicle

/-- The cursor of a sweep (R110): an axle index and its set, or a vehicle index; the first byte is the set, 3 for a
vehicle (assumption 6). -/
def SweepPos.bytes : SweepPos → List Byte
  | .axle i .railA => u8 0 ++ u16 i
  | .axle i .railB => u8 1 ++ u16 i
  | .axle i .gate => u8 2 ++ u16 i
  | .vehicle j => u8 3 ++ u16 j

/-- The dropped and the discarded count of each lane (R110). -/
def Evu.laneCounts (v : Evu) : List Byte :=
  [Lane.a, .b, .thermal, .vehicle].flatMap fun l => u16 (v.dropped.get l) ++ u16 (v.discarded.get l)

/-- The Evaluation Engine's values in the order R110 lists them. The cursor, the waiting mark and the rewalk mark are one
optional field, present while the sweep serves a slot, at rest too; a sweep that rests shows the cursor where its pass
ended, one past the last vehicle record (assumption 6). -/
def Evu.status (v : Evu) : List Byte :=
  v.lanes.bytes (fun q => u8 q.length) ++ v.laneCounts
    ++ v.lrg.flatMap (fun l => u8 l.code) ++ flag v.urgentMark
    ++ v.evals.toList.flatMap (opt fun e : Evaluation => u8 e.req.lane.code ++ u8 e.req.slot ++ u16 e.req.target)
    ++ opt (fun k : Fin 4 => u8 k) v.sweepQueue.head? ++ counted (fun k : Fin 4 => u8 k) (v.sweepQueue.drop 1)
    ++ opt (fun _ : Fin 4 => v.sweepPos.bytes ++ flag v.sweepWaiting ++ flag v.rewalk) v.sweepQueue.head?

/-- A scanner's values in the order R148 lists them; the shutter line is one byte, 1 while it is driven closed
(assumption 6). -/
def State.scannerBytes (s : State) (x : Side) : List Byte :=
  let y := s.tsu.scanners.get x
  u8 y.status.code ++ u16 y.bad ++ u16 y.duplicate ++ u16 y.missing ++ u16 y.losses ++ u8 y.calState.code
    ++ opt u16 (y.ref.map (·.sRef)) ++ opt i16 (y.ref.map (·.tRef)) ++ opt u32 (y.ref.map (·.time.toNat))
    ++ opt u32 (y.ref.map fun _ => y.age s.now) ++ flag (s.scannerAged x) ++ u8 y.progress.code ++ flag y.shutterClosed
    ++ opt i16 (y.ambient.map (· / 64))

/-- The Thermal Scanner Unit's values (R148). -/
def State.thermalStatus (s : State) : List Byte :=
  s.scannerBytes .a ++ s.scannerBytes .b ++ opt (fun _ : OpenTrain => u16 s.tsu.pointer) s.axt.train
    ++ flag s.tsu.pair.isSome ++ u16 s.tsu.gateOrphan ++ u16 s.tsu.gateUndone ++ u16 s.tsu.calSkip

/-- The Report Store's values (R163), a slot's train number as an optional field, absent for a FREE slot (assumption 6). -/
def Rps.status (r : Rps) : List Byte :=
  r.slots.toList.flatMap (fun h => u8 (slotCode h) ++ opt (fun h : HeldSlot => u16 h.report.header.number) h)
    ++ u16 r.droppedWrites

/-- The per-level counts of R169, in the alert-level order. -/
def Atq.counts (a : Atq) : List Byte :=
  [AlertLevel.notice, .watch, .alert, .critical].flatMap fun l => u8 (a.queues.get l).length ++ u16 (a.lost.get l)

/-- A port's values (11.3). -/
def PortMachine.status (pm : PortMachine) : List Byte :=
  u16 pm.bad ++ u16 pm.overflow ++ u16 pm.noticeLoss ++ u16 pm.lineBreaks ++ flag pm.stream.isSome

/-- The values of STATUS, in the order of the table of 11.3. -/
def State.status (s : State) : List Byte :=
  s.ssq.status ++ s.axt.status ++ s.vsg.status ++ s.gaugeStatus ++ s.evu.status ++ s.thermalStatus ++ s.rps.status
    ++ s.atq.counts ++ s.mpc.ports.s.status ++ s.mpc.ports.m.status

/-- A request that carries nothing (R172). -/
def noFields (payload : List Byte) (reply : Reply) : Reply := if payload = [] then reply else .bare .badLength

/-- The reply to STATUS, over as many frames as it needs (assumption 7). -/
def statusReply (s : State) (payload : List Byte) : Reply :=
  noFields payload { outcome := .done, bodies := chunks (Config.replyRoom - 1) 4 s.status }

/-! ## CLOCK SET -/

/-- The value a CLOCK SET carries (R18). -/
def clockValue (payload : List Byte) : Option Nat :=
  match payload with
  | [a, b, c, d] => some (nat32 a b c d)
  | _ => none

/-- The site clock loaded; its next advance follows one second later (R18). -/
def State.loadClock (v : Nat) (s : State) : State :=
  s.modSsq fun q => { q with clock := BitVec.ofNat 32 v, clockDue := s.now + sec 1 }

/-! ## Configuration (R176, R177) -/

/-- Item and value of a CONFIG SET, or the outcome that refuses it (R172, R176). -/
def configArgs (payload : List Byte) : Except ReplyOutcome (Item × Nat) :=
  match payload with
  | [i, v] =>
    match Item.ofNumber i.toNat with
    | some it => if it.width = 1 then .ok (it, v.toNat) else .error .badLength
    | none => .error .outOfRange
  | [i, h, l] =>
    match Item.ofNumber i.toNat with
    | some it => if it.width = 2 then .ok (it, nat16 h l) else .error .badLength
    | none => .error .outOfRange
  | _ => .error .badLength

/-- The approach mode and the masks are no numeric items: a value outside theirs is refused (R176). -/
def Item.named : Item → Bool
  | .approachMode => true
  | .maskS => true
  | .maskM => true
  | _ => false

/-- The value an item takes (R176, step 1). -/
def Item.clamp (i : Item) (v : Nat) : Nat := clampNat i.lo i.hi v

/-- The future value of an item once `it` has taken `v` (R176, step 2). -/
def State.futureWith (s : State) (it : Item) (v : Nat) (j : Item) : Nat := if j = it then v else s.futureCfg j

/-- The value taken fails a conflict test (R176, step 2). -/
def State.configConflict (s : State) (it : Item) (v : Nat) : Bool :=
  let f := s.futureWith it v
  ((it == .toff || it == .ton) && decide (f .ton ≤ f .toff))
    || ((it == .pstart || it == .pend) && decide (f .pend ≤ f .pstart))
    || ((it == .pend || it == .lmax) && decide (f .lmax < f .pend))
    || ((it == .shortMax || it == .midMax) && decide (f .midMax ≤ f .shortMax))
    || ((it == .tsweep || it == .zmax) && decide (f .zmax ≤ f .tsweep))

/-- The outcome of a CONFIG SET whose value is taken (R176). -/
def State.configOutcome (s : State) (it : Item) (v : Nat) : ReplyOutcome :=
  if s.configConflict it v then .conflict else if it.immediate || s.settleHolds then .now else .deferred

/-- The body of the reply: the clamped mark and the value taken (R176, assumption 6). -/
def configBody (it : Item) (given taken : Nat) : List Byte := flag (decide (given ≠ taken)) ++ it.bytes taken

/-- The active value of an item set. -/
def State.setActive (it : Item) (v : Nat) (s : State) : State :=
  { s with mpc := { s.mpc with active := s.mpc.active.set it.idx v } }

/-- The pending value of an item set. -/
def State.setPending (it : Item) (v : Nat) (s : State) : State :=
  { s with mpc := { s.mpc with pendingCfg := s.mpc.pendingCfg.set it.idx (some v) } }

/-- The port whose mask an item is (R168). -/
def maskPort : Item → Option Port
  | .maskS => some .s
  | .maskM => some .m
  | _ => none

/-- The notice of a level newly added to a port's mask: sent if the level's queue is not empty (R168). -/
def State.addedLevel (p : Port) (old : Nat) (s : State) (l : AlertLevel) : State :=
  if s.maskHas p l && !old.testBit l.code && !(s.atq.queues.get l).isEmpty then s.pendingNotice p l else s

/-- The notices of a mask change, CRITICAL first (R168). -/
def State.maskNotices (p : Port) (old : Nat) (s : State) : State :=
  [AlertLevel.critical, .alert, .watch, .notice].foldl (State.addedLevel p old) s

/-- What follows an item made active: the notices of R168 for a mask, and in LEVEL mode the move on to ARMED of R10 for
the approach mode. -/
def State.afterActive (it : Item) (old : Nat) (s : State) : State :=
  match maskPort it with
  | some p => s.maskNotices p old
  | none => if it = .approachMode then s.levelCarry else s

/-- The application of a value taken, by its outcome (R176, step 3). -/
def State.applyConfig (it : Item) (v : Nat) (o : ReplyOutcome) (s : State) : State :=
  match o with
  | .now => (s.setActive it v).afterActive it (s.cfg it)
  | .deferred => s.setPending it v
  | _ => s

/-- A CONFIG SET served: the reply, then what it causes (R176, R173). -/
def State.serveConfigSet (p : Port) (r : QueuedRequest) (s : State) : State :=
  match configArgs r.payload with
  | .error o => s.answer p r (.bare o)
  | .ok (it, v) =>
    if it.named && (decide (v < it.lo) || decide (it.hi < v)) then s.answer p r (.bare .outOfRange)
    else
      let taken := it.clamp v
      let o := s.configOutcome it taken
      (s.answer p r (.one o (configBody it v taken))).applyConfig it taken o

/-- The reply to CONFIG GET (R177): item number, class, active value, pending value. -/
def configGetReply (s : State) (payload : List Byte) : Reply :=
  match payload with
  | [i] =>
    match Item.ofNumber i.toNat with
    | some it => .one .done (u8 it.number ++ u8 (if it.immediate then 1 else 0) ++ it.bytes (s.cfg it)
        ++ opt it.bytes (s.mpc.pendingCfg.get it.idx))
    | none => .bare .outOfRange
  | _ => .bare .badLength

/-! ## Channels (R75, R76) -/

/-- A channel number in range. -/
def channelOf (b : Byte) : Option (Fin 16) := if h : b.toNat < 16 then some ⟨b.toNat, h⟩ else none

/-- The record a CALIBRATION SET carries; `none` inside is RESTORE_DEFAULT. A form byte other than 0 and 1 is answered
OUT_OF_RANGE (assumption 6). -/
def calFields (bs : List Byte) : Except ReplyOutcome (Option CalRecord) :=
  match bs with
  | [x] => if x = 0 then .ok none else if x = 1 then .error .badLength else .error .outOfRange
  | [x, a1, a2, a3, a4, b1, b2, b3, b4, c1, c2, c3, c4, m1, m2, m3, m4, m5, m6, m7, m8] =>
    if x = 1 then
      .ok (some { b1 := nat32 a1 a2 a3 a4, b2 := nat32 b1 b2 b3 b4, b3 := nat32 c1 c2 c3 c4, m0 := nat16 m1 m2,
                  m1 := nat16 m3 m4, m2 := nat16 m5 m6, m3 := nat16 m7 m8, isSet := true })
    else if x = 0 then .error .badLength else .error .outOfRange
  | _ => .error .badLength

/-- Channel and record of a CALIBRATION SET, or the outcome that refuses it (R172, R75). -/
def calArgs (payload : List Byte) : Except ReplyOutcome (Fin 16 × Option CalRecord) :=
  match payload with
  | [] => .error .badLength
  | ch :: bs =>
    match calFields bs, channelOf ch with
    | .error .badLength, _ => .error .badLength
    | _, none => .error .outOfRange
    | .error o, _ => .error o
    | .ok c, some k => .ok (k, c)

/-- The seven values clamped to their ranges (R75, step 1). -/
def CalRecord.clamp (c : CalRecord) : CalRecord :=
  { c with b1 := clampNat 1 524287 c.b1, b2 := clampNat 1 524287 c.b2, b3 := clampNat 1 524287 c.b3,
           m0 := clampNat 0 65535 c.m0, m1 := clampNat 0 65535 c.m1, m2 := clampNat 0 65535 c.m2,
           m3 := clampNat 0 65535 c.m3 }

/-- The break points are in order (R75, step 2). -/
def CalRecord.ordered (c : CalRecord) : Bool := decide (c.b1 < c.b2) && decide (c.b2 < c.b3)

/-- The record a CALIBRATION SET takes (R75). -/
def takenRecord : Option CalRecord → CalRecord
  | some c => c.clamp
  | none => CalRecord.default

/-- The outcome of a CALIBRATION SET (R75). -/
def State.calOutcome (s : State) (c : CalRecord) : ReplyOutcome :=
  if !c.ordered then .conflict else if s.settleHolds then .now else .deferred

/-- The application of a calibration record by its outcome (R75, step 3). -/
def State.applyCal (k : Fin 16) (c : CalRecord) (o : ReplyOutcome) (s : State) : State :=
  match o with
  | .now => s.modChannel k fun x => { x with cal := c }
  | .deferred => s.modChannel k fun x => { x with pendingCal := some c }
  | _ => s

/-- The body of a CALIBRATION SET reply: the clamped mark and the record taken (R75, assumption 6). -/
def calBody (given : Option CalRecord) : List Byte :=
  flag (decide (given.getD CalRecord.default ≠ takenRecord given)) ++ (takenRecord given).bytes

/-- A CALIBRATION SET served (R75). -/
def State.serveCalSet (p : Port) (r : QueuedRequest) (s : State) : State :=
  match calArgs r.payload with
  | .error o => s.answer p r (.bare o)
  | .ok (k, c) =>
    (s.answer p r (.one (s.calOutcome (takenRecord c)) (calBody c))).applyCal k (takenRecord c)
      (s.calOutcome (takenRecord c))

/-- A request that names a channel alone (R172). -/
def onChannel (payload : List Byte) (reply : Fin 16 → Reply) : Reply :=
  match payload with
  | [b] => match channelOf b with | some k => reply k | none => .bare .outOfRange
  | _ => .bare .badLength

/-- The reply to CALIBRATION GET (R75). -/
def calGetReply (s : State) (payload : List Byte) : Reply :=
  onChannel payload fun k => .one .done (s.channels[k].cal.bytes ++ opt CalRecord.bytes s.channels[k].pendingCal)

/-- The fields of CHANNEL STATE (R76). -/
def State.channelBytes (s : State) (k : Fin 16) : List Byte :=
  let c := s.channels[k]
  let n := s.nodes[channelNode k]
  u8 k ++ u8 (sideCode (channelRail k)) ++ u8 (channelCrib k) ++ flag c.z.isSome ++ opt i32 c.z
    ++ u32 (s.baselineAge k) ++ flag (s.stale k) ++ flag (s.clear k) ++ flag s.units[k].capture.isSome
    ++ flag c.cal.isSet ++ flag c.pendingCal.isSome ++ u8 (channelNode k) ++ u8 n.status.code ++ u16 n.settle
    ++ u16 n.bad ++ u16 n.duplicate ++ u16 n.missing ++ u16 n.losses

/-- The reply to CHANNEL STATE (R76). -/
def channelStateReply (s : State) (payload : List Byte) : Reply :=
  onChannel payload fun k => .one .done (s.channelBytes k)

/-! ## Reports (R160, R162, R174) -/

/-- A slot number in range. -/
def slotOf (b : Byte) : Option (Fin 4) := if h : b.toNat < 4 then some ⟨b.toNat, h⟩ else none

/-- The slots in the order TRAIN LIST gives them: the allocation order, then the FREE ones (assumption 6). -/
def State.listOrder (s : State) : List (Fin 4) :=
  s.rps.order ++ ([0, 1, 2, 3] : List (Fin 4)).filter fun k => !s.rps.order.contains k

/-- One slot of TRAIN LIST (R162): its number and state, then, behind one presence byte for a slot that is not FREE, the
train number, the closure kind and the ABORTED flag (assumption 6). -/
def State.listEntry (s : State) (k : Fin 4) : List Byte :=
  u8 k ++ u8 (slotCode (s.rps.slots.get k)) ++ opt (fun h : HeldSlot =>
    u16 h.report.header.number ++ opt (fun c : ClosureKind => u8 c.code) h.report.header.closure
      ++ flag h.report.header.flags.aborted) (s.rps.slots.get k)

/-- The reply to TRAIN LIST (R162). -/
def trainListReply (s : State) (payload : List Byte) : Reply :=
  noFields payload (.one .done (s.listOrder.flatMap s.listEntry))

/-- A read of slot `k`, refused with WRONG_STATE if it is FREE (R162). -/
def State.ofHeld (s : State) (k : Fin 4) (reply : Report → Reply) : Reply :=
  match s.rps.slots.get k with
  | some h => reply h.report
  | none => .bare .wrongState

/-- The reply to TRAIN HEADER (R162). -/
def trainHeaderReply (s : State) (payload : List Byte) : Reply :=
  match payload with
  | [b] => match slotOf b with
    | some k => s.ofHeld k fun r => .one .done r.header.bytes
    | none => .bare .outOfRange
  | _ => .bare .badLength

/-- The records AXLES READ returns: one frame of summaries, or one frame per axle with detail (R162). -/
def axlesBodies (detail : Bool) (xs : List AxleRecord) : List (List Byte) :=
  if detail then xs.map fun x => counted (fun x : AxleRecord => x.summary ++ x.detail) [x]
  else [counted AxleRecord.summary xs]

/-- The reply to AXLES READ (R162). -/
def axlesReadReply (s : State) (payload : List Byte) : Reply :=
  match payload with
  | [b, hi, lo, n, d] =>
    match slotOf b with
    | none => .bare .outOfRange
    | some k =>
      if n.toNat = 0 || decide (8 < n.toNat) || decide (1 < d.toNat) then .bare .outOfRange
      else s.ofHeld k fun r =>
        if r.axles.length ≤ nat16 hi lo then .bare .outOfRange
        else { outcome := .done, bodies := axlesBodies (d == 1) ((r.axles.drop (nat16 hi lo)).take n.toNat) }
  | _ => .bare .badLength

/-- The frames of a VEHICLES READ reply: at most 10 records in each (R172). -/
def vehiclesBodies (vs : List VehicleRecord) : List (List Byte) :=
  if vs.length ≤ 10 then [counted VehicleRecord.bytes vs]
  else [counted VehicleRecord.bytes (vs.take 10), counted VehicleRecord.bytes (vs.drop 10)]

/-- The reply to VEHICLES READ (R162). -/
def vehiclesReadReply (s : State) (payload : List Byte) : Reply :=
  match payload with
  | [b, i, n] =>
    match slotOf b with
    | none => .bare .outOfRange
    | some k =>
      if n.toNat = 0 || decide (16 < n.toNat) then .bare .outOfRange
      else s.ofHeld k fun r =>
        if r.vehicles.length ≤ i.toNat then .bare .outOfRange
        else { outcome := .done, bodies := vehiclesBodies ((r.vehicles.drop i.toNat).take n.toNat) }
  | _ => .bare .badLength

/-- A slot that can be streamed: COMPLETE or RELEASED (R174). -/
def HeldSlot.streamable (h : HeldSlot) : Bool := h.st == .complete || h.st == .released

/-- The reply to TRAIN STREAM of slot `k` and the stream it starts (R174). -/
def State.startStream (p : Port) (k : Fin 4) (r : QueuedRequest) (s : State) : State :=
  match s.rps.slots.get k with
  | none => s.answer p r (.bare .wrongState)
  | some h =>
    if h.streamable then
      (s.answer p r (.one .accepted (u8 k ++ u16 h.report.header.number ++ u16 h.report.axles.length
        ++ u16 h.report.vehicles.length))).modPort p fun pm =>
          { pm with stream := some { slot := k, number := h.report.header.number, tag := r.tag, nextPage := 0 } }
    else s.answer p r (.bare .wrongState)

/-- A stream that began after the arrival of a TRAIN STREAM or RESTART ends INTERRUPTED when that request comes to its block,
with its STREAM END before the reply (R174, R175, R179; assumption 28). -/
def State.interruptStream (p : Port) (s : State) : State := s.modPort p (·.endStream 1)

/-- A TRAIN STREAM served (R174). One refused by its length or its slot number touches no stream (R172, R175). -/
def State.serveStream (p : Port) (r : QueuedRequest) (s : State) : State :=
  match r.payload with
  | [b] => match slotOf b with
    | none => s.answer p r (.bare .outOfRange)
    | some k => (s.interruptStream p).startStream p k r
  | _ => s.answer p r (.bare .badLength)

/-- A TRAIN RELEASE served (R160). -/
def State.serveRelease (p : Port) (r : QueuedRequest) (s : State) : State :=
  match r.payload with
  | [b] => match slotOf b with
    | none => s.answer p r (.bare .outOfRange)
    | some k => match s.rps.slots.get k with
      | some h =>
        if h.st = .complete then
          (s.answer p r (.bare .done)).modRps fun x => { x with slots := x.slots.set k (some { h with st := .released }) }
        else s.answer p r (.bare .wrongState)
      | none => s.answer p r (.bare .wrongState)
  | _ => s.answer p r (.bare .badLength)

/-! ## Alerts (R166, R169) -/

/-- The level a take chooses by its number, with ANY as 4 (R166, assumption 6); `none` where every queue is empty. -/
def Atq.chosen (a : Atq) (n : Nat) : Option AlertLevel :=
  match n with
  | 0 => some .notice
  | 1 => some .watch
  | 2 => some .alert
  | 3 => some .critical
  | _ => [AlertLevel.critical, .alert, .watch, .notice].find? fun l => !(a.queues.get l).isEmpty

/-- The entry a take takes, with its level (R166). -/
def Atq.taken (a : Atq) (n : Nat) : Option (AlertLevel × AlertEntry) :=
  match a.chosen n with
  | some l => ((a.queues.get l).head?).map fun e => (l, e)
  | none => none

/-- The queues after a take from a level (R166, step 3). -/
def Atq.take (l : AlertLevel) (a : Atq) : Atq :=
  { a with queues := a.queues.upd l (·.drop 1), lost := a.lost.upd l (fun _ => 0) }

/-- An ALERT TAKE served (R166). -/
def State.serveTake (p : Port) (r : QueuedRequest) (s : State) : State :=
  match r.payload with
  | [b] =>
    if 4 < b.toNat then s.answer p r (.bare .outOfRange)
    else match s.atq.taken b.toNat with
      | none => s.answer p r (.one .empty (u8 b.toNat))
      | some (l, e) =>
        (s.answer p r (.one .taken (u16 (s.atq.lost.get l) ++ u8 ((s.atq.queues.get l).length - 1) ++ e.bytes))).modAtq
          (·.take l)
  | _ => s.answer p r (.bare .badLength)

/-- The reply to ALERT COUNT (R169). -/
def alertCountReply (s : State) (payload : List Byte) : Reply :=
  noFields payload (.one .done (s.atq.counts ++ u16 s.atq.number))

/-! ## Site control (R5 to R7, R19) -/

/-- A SITE CONTROL request that a row of the action `action` serves: its own, or one of a length or action no row
has (assumption 8). -/
def QueuedRequest.controls (action : Nat) (r : QueuedRequest) : Bool :=
  r.hasKind 3 && match r.payload with
    | [a] => a.toNat == action || decide (4 < a.toNat)
    | _ => true

/-- The refusal of a SITE CONTROL request of a wrong length or action (R172). -/
def siteControlRefusal (payload : List Byte) : Option ReplyOutcome :=
  match payload with
  | [a] => if 4 < a.toNat then some .outOfRange else none
  | _ => some .badLength

/-- The fields of a SITE CONTROL reply: site state, dormancy setting, disable-pending. -/
def siteControlBody (s : State) : List Byte :=
  u8 s.ssq.site.code ++ flag s.ssq.dormancy ++ flag s.ssq.disablePending

/-- A SITE CONTROL action served: its reply shows the state after the action and stands before the notices the action
makes (R173). -/
def State.serveAction (p : Port) (outcome : State → ReplyOutcome) (effect : State → State) (r : QueuedRequest) (s : State) :
    State :=
  effect (s.answer p r (.one (outcome s) (siteControlBody (effect s))))

/-- The service of the oldest unserved request by the row of a SITE CONTROL action: refused by R172, or acted on. -/
def State.serveControl (p : Port) (action : Nat) (act : QueuedRequest → State → State) (s : State) : State :=
  s.serve p (·.controls action) fun r s =>
    match siteControlRefusal r.payload with
    | some o => s.answer p r (.bare o)
    | none => act r s

end Sys2Proof.Machine
end

