-- ==== Sys2Proof/Machine/Ports.lean ====
section
/-! DEFINITION. The rows of the message ports (11): power-on, the lines, the streams, and one row per request. -/

namespace Sys2Proof.Machine

/-! ## Power-on and the lines -/

/-- POWER_ON: every block at its reset values (R2, R44, R59, R77, R96, R111, R149, R163, R170, R177, R179). The commands
waiting and the level of the approach pin are the outside world's and stay (assumption 10). -/
def execPowerOn (s : State) : Host.Outcome State Fault Refusal :=
  .next { State.reset with
    ssq := { Ssq.reset with approachInput := s.ssq.approachInput }
    pending := s.pending }

/-- PORT_FRAMING_READY: the SITE STATE notice of R2, once after power-on. -/
def execPortFramingReady (p : Port) (s : State) : Host.Outcome State Fault Refusal :=
  .next (if (s.mpc.ports.get p).ready then s
    else (s.modPort p fun pm => { pm with ready := true }).noticeTo p 0x40
      (siteStatePayload .offline none .powerOn s.ssq.disablePending s.ssq.clock))

/-- A request joins a port's queue, or is discarded and counted at a full one (R172). -/
def PortMachine.enqueue (r : QueuedRequest) (pm : PortMachine) : PortMachine :=
  if pm.requests.length < Config.requestDepth then { pm with requests := pm.requests ++ [r] }
  else { pm with overflow := sat16 (pm.overflow + 1) }

/-- A good frame on a port: a running stream ends INTERRUPTED, and the request is queued (R172). A frame is kind, tag and
payload. -/
def PortMachine.goodFrame (pm : PortMachine) (f : List Byte) : PortMachine :=
  match f with
  | kind :: tag :: payload =>
    (pm.endStream 1).enqueue { kind := kind, tag := tag, payload := payload, served := false }
  | _ => pm

/-- Bytes received on a port: ignored during a break (R178), taken by the receiver otherwise (R171, R172). -/
def PortMachine.receive (bytes : List Byte) (pm : PortMachine) : PortMachine :=
  if pm.broken then pm
  else
    let rx := pm.receiver.feed bytes
    rx.frames.foldl PortMachine.goodFrame { pm with receiver := rx.receiver, bad := sat16 (pm.bad + rx.bad) }

/-- FRAME_RECEIVED: the bytes of a frame arrive on a port (R171, R172). -/
def execFrameReceived (p : Port) (t : Nat) (bytes : List Byte) (s : State) : Host.Outcome State Fault Refusal :=
  .next ((s.advance t).modPort p (·.receive bytes))

/-- The frame being sent has left, and the next waiting one begins to leave; a request whose reply has been sent in full
leaves the request queue (R172, R173). -/
def PortMachine.frameSent (f : OutFrame) (pm : PortMachine) : PortMachine :=
  { pm with
    requests := if f.cls = .reply true then pm.requests.drop 1 else pm.requests
    leaving := pm.waiting.head?
    waiting := pm.waiting.drop 1 }

/-- OUTPUT_FRAME_SENT (R173). -/
def execOutputFrameSent (p : Port) (s : State) : Host.Outcome State Fault Refusal :=
  .next (match (s.mpc.ports.get p).leaving with
    | some f => s.modPort p (·.frameSent f)
    | none => s)

/-- The pages of a report's stream: the header, one per axle record, one per 10 vehicle records (R175). -/
def Report.pageCount (r : Report) : Nat := 1 + r.axles.length + (r.vehicles.length + 9) / 10

/-- The content of page `n` of a report (R175). -/
def Report.page (r : Report) (n : Nat) : List Byte :=
  if n = 0 then r.header.bytes
  else match r.axles[n - 1]? with
    | some x => x.summary ++ x.detail
    | none => counted VehicleRecord.bytes ((r.vehicles.drop ((n - 1 - r.axles.length) * 10)).take 10)

/-- The frame of page `n` of a stream (R175). -/
def pageFrame (st : StreamState) (r : Report) : OutFrame :=
  { kind := 0x8D, tag := st.tag, payload := u8 st.slot ++ u16 st.nextPage ++ r.page st.nextPage, cls := .page }

/-- A port makes the next page of its stream, and after the last one the stream ends COMPLETE (R175). -/
def PortMachine.makePage (st : StreamState) (r : Report) (pm : PortMachine) : PortMachine :=
  let pm := { pm with stream := some { st with nextPage := st.nextPage + 1 } }.push (pageFrame st r)
  if r.pageCount ≤ st.nextPage + 1 then pm.endStream 0 else pm

/-- STREAM_PAGE: with no frame waiting, the running stream makes its next page (R175, assumption 5). -/
def execStreamPage (p : Port) (s : State) : Host.Outcome State Fault Refusal :=
  .next (match (s.mpc.ports.get p).stream with
    | some st =>
      if !(s.mpc.ports.get p).waiting.isEmpty || (s.mpc.ports.get p).broken then s
      else match s.rps.slots.get st.slot with
        | some h => s.modPort p (·.makePage st h.report)
        | none => s
    | none => s)

/-- The start of a break (R178). -/
def PortMachine.break (pm : PortMachine) : PortMachine :=
  { pm with receiver := .hunt, requests := [], leaving := none, waiting := [], stream := none,
            lineBreaks := sat16 (pm.lineBreaks + 1), broken := true }

/-- LINE_BREAK: a break begins on a port's line (R178). -/
def execLineBreak (p : Port) (s : State) : Host.Outcome State Fault Refusal :=
  .next (if (s.mpc.ports.get p).broken then s else s.modPort p PortMachine.break)

/-- LINE_BREAK_END: the port receives and sends again (R178). -/
def execLineBreakEnd (p : Port) (s : State) : Host.Outcome State Fault Refusal :=
  .next (s.modPort p fun pm => { pm with broken := false })

/-! ## RESTART (R19) -/

/-- Every block's measuring state cleared by RESTART: tracker (R44), segmenter (R59), channels (R71), capture units
(R96), engine (R111), scanner unit (R149). -/
def State.clearMeasuring (s : State) : State :=
  { s with
    axt := Axt.reset
    vsg := Vsg.reset
    channels := vmap (fun c => { c with z := none, ageFrom := s.now, quiet := none }) s.channels
    units := Vector.replicate 16 CaptureUnit.reset
    evu := { Evu.reset with dropped := s.evu.dropped, discarded := s.evu.discarded }
    tsu := { s.tsu with
      scanners := { a := { s.tsu.scanners.a with shutterClosed := false }, b := { s.tsu.scanners.b with shutterClosed := false } }
      pointer := 0, pair := none, gateOrphan := 0, gateUndone := 0, calSkip := 0 } }

/-- Step 1 of R19 at the Site Sequencer: timers stopped, call withdrawn, latch and disable-pending clear. -/
def State.quietSite (s : State) : State :=
  s.withdrawCalibration.modSsq fun q =>
    { q with armTimer := none, sweepTimer := none, sweepDurTimer := none, restTimer := none, latch := false,
             disablePending := false }

/-- The site state RESTART chooses (R19, step 2). -/
def State.restartState (s : State) : SiteState :=
  if s.ssq.site = .offline ∨ s.ssq.disablePending then .offline else s.restState

/-- RESTART (R19): step 1 with the reports aborted (R161) and the measuring state cleared, steps 2 and 3 with the settle
point, step 4. -/
def State.restartSite (s : State) : State :=
  ((s.quietSite.abortSlots.clearMeasuring.changeSite s.restartState .restart).applyPending).levelCarry

/-! ## Requests, one row each -/

/-- BAD_KIND: a request of no request kind, refused with a frame of kind 0xFF that carries the refused kind (R172). -/
def execBadKind (p : Port) (s : State) : Host.Outcome State Fault Refusal :=
  .next (s.serve p (fun r => r.kind.toNat == 0 || decide (16 < r.kind.toNat)) fun r s =>
    s.modPort p (·.reply (replyFrames 0xFF r.tag .badKind [[r.kind]])))

/-- STATUS (11.3). -/
def execStatus (p : Port) (s : State) : Host.Outcome State Fault Refusal := .next (s.serveRead p 0x01 statusReply)

/-- CLOCK SET (R18). -/
def execClockSet (p : Port) (s : State) : Host.Outcome State Fault Refusal :=
  .next (s.serve p (·.hasKind 0x02) fun r s =>
    match clockValue r.payload with
    | some v => (s.answer p r (.one .done (u32 v))).loadClock v
    | none => s.answer p r (.bare .badLength))

/-- ENABLE (R5). -/
def execEnable (p : Port) (s : State) : Host.Outcome State Fault Refusal :=
  .next (s.serveControl p 0 (State.serveAction p enableOutcome State.enableSite))

/-- DISABLE (R6). -/
def execDisable (p : Port) (s : State) : Host.Outcome State Fault Refusal :=
  .next (s.serveControl p 1 (State.serveAction p disableOutcome State.disableSite))

/-- DORMANCY ON (R7). -/
def execDormancyOn (p : Port) (s : State) : Host.Outcome State Fault Refusal :=
  .next (s.serveControl p 2 (State.serveAction p dormancyOnOutcome State.dormancyOnSite))

/-- DORMANCY OFF (R7). -/
def execDormancyOff (p : Port) (s : State) : Host.Outcome State Fault Refusal :=
  .next (s.serveControl p 3 (State.serveAction p dormancyOffOutcome State.dormancyOffSite))

/-- RESTART (R19). It leaves no stream running on its port (R175, R179). -/
def execRestart (p : Port) (s : State) : Host.Outcome State Fault Refusal :=
  .next (s.serveControl p 4 fun r s =>
    (s.interruptStream p).serveAction p (fun _ => .done) State.restartSite r)

/-- CONFIG SET (R176). -/
def execConfigSet (p : Port) (s : State) : Host.Outcome State Fault Refusal :=
  .next (s.serve p (·.hasKind 0x04) (State.serveConfigSet p))

/-- CONFIG GET (R177). -/
def execConfigGet (p : Port) (s : State) : Host.Outcome State Fault Refusal := .next (s.serveRead p 0x05 configGetReply)

/-- CALIBRATION SET (R75). -/
def execCalibrationSet (p : Port) (s : State) : Host.Outcome State Fault Refusal :=
  .next (s.serve p (·.hasKind 0x06) (State.serveCalSet p))

/-- CALIBRATION GET (R75). -/
def execCalibrationGet (p : Port) (s : State) : Host.Outcome State Fault Refusal := .next (s.serveRead p 0x07 calGetReply)

/-- CHANNEL STATE (R76). -/
def execChannelState (p : Port) (s : State) : Host.Outcome State Fault Refusal :=
  .next (s.serveRead p 0x08 channelStateReply)

/-- TRAIN LIST (R162). -/
def execTrainList (p : Port) (s : State) : Host.Outcome State Fault Refusal := .next (s.serveRead p 0x09 trainListReply)

/-- TRAIN HEADER (R162). -/
def execTrainHeader (p : Port) (s : State) : Host.Outcome State Fault Refusal :=
  .next (s.serveRead p 0x0A trainHeaderReply)

/-- AXLES READ (R162). -/
def execAxlesRead (p : Port) (s : State) : Host.Outcome State Fault Refusal := .next (s.serveRead p 0x0B axlesReadReply)

/-- VEHICLES READ (R162). -/
def execVehiclesRead (p : Port) (s : State) : Host.Outcome State Fault Refusal :=
  .next (s.serveRead p 0x0C vehiclesReadReply)

/-- TRAIN STREAM (R174). -/
def execTrainStream (p : Port) (s : State) : Host.Outcome State Fault Refusal :=
  .next (s.serve p (·.hasKind 0x0D) (State.serveStream p))

/-- TRAIN RELEASE (R160). -/
def execTrainRelease (p : Port) (s : State) : Host.Outcome State Fault Refusal :=
  .next (s.serve p (·.hasKind 0x0E) (State.serveRelease p))

/-- ALERT TAKE (R166). -/
def execAlertTake (p : Port) (s : State) : Host.Outcome State Fault Refusal :=
  .next (s.serve p (·.hasKind 0x0F) (State.serveTake p))

/-- ALERT COUNT (R169). -/
def execAlertCount (p : Port) (s : State) : Host.Outcome State Fault Refusal :=
  .next (s.serveRead p 0x10 alertCountReply)

end Sys2Proof.Machine
end

