-- ==== Sys2Proof/Machine/Segment.lean ====
section
/-! DEFINITION. The Vehicle Segmenter (03): spacing, history, vehicles and forms. -/

namespace Sys2Proof.Machine

/-! ## Spacing (R47, R48) -/

/-- The spacing in mm of a crossing at speed `v` and time `time` from the reference (R47). -/
def spacingOf (vRef tRef v time : Nat) : Nat := min ((vRef + v) / 2 * (time - tRef) / 1000000) 65535

/-- The two speeds differ by more than the tolerance, relative to the higher (R48). -/
def speedMismatch (tolerance vRef v : Nat) : Bool := decide (tolerance * max vRef v < (max vRef v - min vRef v) * 100)

/-- The class of a computed spacing (R48). -/
def State.classify (s : State) (vRef v spacing : Nat) : SpacingClass :=
  if s.vsg.interrupted || speedMismatch (s.cfg .speedTol) vRef v then .unknown
  else if spacing ≤ s.cfg .shortMax then .short
  else if spacing ≤ s.cfg .midMax then .mid
  else .long

/-- The spacing and class of axle `a` entering forward at speed `v` and time `time`: absent for axle 0 (R46, R47), and
where there is no reference to measure from (assumption 15). -/
def State.entrySpacing (s : State) (a v time : Nat) : Option (Nat × SpacingClass) :=
  if a = 0 then none
  else s.vsg.reference.map fun r =>
    (spacingOf r.1 r.2 v time, s.classify r.1 v (spacingOf r.1 r.2 v time))

/-! ## History (R49) -/

/-- A push: the oldest class of a full history is discarded, and a deficit is paid off by one (R49). -/
def Vsg.push (c : SpacingClass) (g : Vsg) : Vsg :=
  { g with history := (c :: g.history).take Config.historyDepth, deficit := g.deficit - 1 }

/-- The index of the open vehicle, if it has one: the vehicle count less one. -/
def Vsg.openIndex (g : Vsg) : Option Nat := if g.vehicles.isEmpty then none else some (g.vehicles.length - 1)

/-- A vehicle index that has a record in the vehicle table (R56). -/
def recordedVehicle (i : Nat) : Bool := decide (i < Config.vehicleTable)

/-- The deficit mark of the open vehicle is set, if that vehicle is recorded (R49). -/
def Vsg.markOpen (g : Vsg) : Vsg :=
  match g.vehicles with
  | [] => g
  | v :: vs => if recordedVehicle vs.length then { g with vehicles := { v with deficitMark := true } :: vs } else g

/-- A pop: the top class is removed; of an empty history the deficit is incremented and the open vehicle marked
(R49). -/
def Vsg.pop (g : Vsg) : Vsg :=
  match g.history with
  | _ :: rest => { g with history := rest }
  | [] => { g with deficit := sat16 (g.deficit + 1) }.markOpen

/-! ## Forms (R52) -/

/-- The classes above the newest MID, oldest first; the whole history where it holds no MID (R52). -/
def sinceMid (history : List SpacingClass) : List SpacingClass := (history.takeWhile (· ≠ .mid)).reverse

/-- The form of a vehicle that closes, by the first row of the table of R52 that applies. -/
def vehicleForm (deficitMark : Bool) (history : List SpacingClass) : Form :=
  if deficitMark then .unclassified
  else if !history.contains .mid && decide (history.length = Config.historyDepth) then .unclassified
  else if (sinceMid history).contains .unknown then .unclassified
  else if sinceMid history = [.long] then .two
  else if sinceMid history = [.short, .long, .short] then .four
  else if sinceMid history = [.short, .short, .long, .short, .short] then .six
  else .unclassified

/-! ## Vehicle records (R53 to R57) -/

/-- A vehicle record at its creation (R56). -/
def VehicleRecord.start (index first : Nat) : VehicleRecord :=
  { index := index, first := first, count := 0, form := none, isOpen := true, dirty := false, gross := none,
    endImbalance := none, worstWheel := .absent, worstBearing := .absent, quality := none, endMark := false }

/-- A vehicle of index `i` and first axle `first` has been opened: its record, or VEHICLE_OVERFLOW (R51, R56), and
the header's vehicle count (R154). -/
def Report.openVehicle (i first : Nat) (r : Report) : Report :=
  let r := r.modHeader fun h => { h with vehicles := min (i + 1) Config.vehicleTable }
  if recordedVehicle i then { r with vehicles := r.vehicles ++ [.start i first] }
  else r.modFlags fun f => { f with vehicleOverflow := true }

/-- The segmenter at a train start: vehicle 0 is opened with its record (R45). -/
def State.segStart (s : State) : State :=
  (s.modVsg fun _ => { Vsg.reset with vehicles := [{ first := 0, deficitMark := false }] }).writeTrain
    (·.openVehicle 0 0)

/-- A vehicle record closed with `count` axles and its form; one without axles is UNCLASSIFIED and INCOMPLETE and is not marked
dirty (R51, R55, R57). DESIGN CHOICE: a close without axles keeps the gross load, end imbalance and worst levels of an earlier
evaluation, which R126 has absent for k = 0 and R55 does not name (assumption 31). -/
def VehicleRecord.close (count : Nat) (form : Form) (v : VehicleRecord) : VehicleRecord :=
  if count = 0 then { v with count := 0, form := some .unclassified, isOpen := false, quality := some .incomplete }
  else { v with count := count, form := some form, isOpen := false, dirty := true }

/-- The open vehicle closes with axles up to but not including `upto`: its record, the changed mark of an evaluation
in flight, which a close with no axles sets too (R128, assumption 17), and the request of a vehicle with axles (R51, R55, R57,
R104). An unrecorded vehicle leaves no trace. -/
def State.segClose (t : OpenTrain) (upto : Nat) (s : State) : State :=
  match s.vsg.vehicles with
  | [] => s
  | v :: vs =>
    let i := vs.length
    let count := upto - v.first
    if recordedVehicle i then
      let s := (s.write t.slot t.number (Report.modVehicle i (·.close count (vehicleForm v.deficitMark s.vsg.history)))).markChanged
        .vehicle t.slot t.number i
      if count = 0 then s
      else s.request { lane := .vehicle, slot := t.slot, number := t.number, target := i, urgent := false }
    else s

/-- The axle count of the open vehicle becomes `n` less its first axle (R53). An evaluation of it in flight takes the
changed mark where the vehicle grows longer (R128, assumption 17). -/
def State.segCount (t : OpenTrain) (n : Nat) (s : State) : State :=
  match s.vsg.vehicles with
  | [] => s
  | v :: vs =>
    let i := vs.length
    if recordedVehicle i then
      let longer := (s.liveReport t.slot t.number).any fun r =>
        (r.vehicles[i]?).any fun x => decide (x.count < n - v.first)
      let s := s.write t.slot t.number (Report.modVehicle i fun x => { x with count := n - v.first })
      if longer then s.markChanged .vehicle t.slot t.number i else s
    else s

/-- A MID class for axle `a` closes the open vehicle, is pushed, and opens the next one (R51). -/
def State.segMid (t : OpenTrain) (a : Nat) (s : State) : State :=
  let s := (s.segClose t a).modVsg (·.push .mid)
  let i := s.vsg.vehicles.length
  let v : SegVehicle := { first := a, deficitMark := recordedVehicle i && decide (0 < s.vsg.deficit) }
  (s.modVsg fun g => { g with vehicles := v :: g.vehicles }).write t.slot t.number (·.openVehicle i a)

/-- History and vehicles of a forward entry with the given spacing (R46, step 2). -/
def State.segPush (t : OpenTrain) (a : Nat) (spacing : Option (Nat × SpacingClass)) (s : State) : State :=
  match spacing with
  | none => s
  | some (_, .mid) => s.segMid t a
  | some (_, c) => s.modVsg (·.push c)

/-- A forward entry crossing handed to the segmenter, with the axle index, speed and inner time stamp (R46). -/
def State.segForward (t : OpenTrain) (a v time : Nat) (spacing : Option (Nat × SpacingClass)) (s : State) : State :=
  ((s.segPush t a spacing).segCount t (a + 1)).modVsg fun g => { g with reference := some (v, time), interrupted := false }

/-- The vehicle index a new axle record takes: that of the open vehicle, absent if it is not recorded (R46). -/
def State.segVehicleIndex (s : State) : Option Nat := s.vsg.openIndex.filter recordedVehicle

/-- The last record of the vehicle table deleted, if the removed vehicle had one, and the header's count (R54). -/
def Report.removeVehicle (i : Nat) (r : Report) : Report :=
  let r := r.modHeader fun h => { h with vehicles := min i Config.vehicleTable }
  if recordedVehicle i then { r with vehicles := r.vehicles.take i } else r

/-- A vehicle record reopened: OPEN, no form, dirty, results kept (R54). -/
def VehicleRecord.reopen (v : VehicleRecord) : VehicleRecord := { v with form := none, isOpen := true, dirty := true }

/-- The vehicle below the removed one reopened, its deficit mark set if it was or the deficit is above 0 (R54). -/
def Vsg.reopen (g : Vsg) : Vsg :=
  match g.vehicles with
  | _ :: w :: vs =>
    { g with vehicles :=
      { w with deficitMark := w.deficitMark || (recordedVehicle vs.length && decide (0 < g.deficit)) } :: vs }
  | _ => g

/-- The open vehicle's boundary is taken back (R54). -/
def State.segRemove (t : OpenTrain) (s : State) : State :=
  let i := s.vsg.vehicles.length - 1
  let s := (s.modVsg Vsg.reopen).write t.slot t.number (·.removeVehicle i)
  let s := if recordedVehicle i then s.markRemoved t.slot t.number i else s
  if recordedVehicle (i - 1) then
    (s.write t.slot t.number (Report.modVehicle (i - 1) VehicleRecord.reopen)).markChanged .vehicle t.slot t.number (i - 1)
  else s

/-- The axle backing out is the first axle of the open vehicle, which is not vehicle 0 (R54). -/
def Vsg.takesBack (g : Vsg) (a : Nat) : Bool :=
  match g.vehicles with
  | v :: _ :: _ => v.first == a
  | _ => false

/-- A reverse entry crossing that decremented N to `n`: the axle backing out is axle `n` (R49, R54, R53). -/
def State.segReverse (t : OpenTrain) (n : Nat) (s : State) : State :=
  let s := if n = 0 then s else s.modVsg Vsg.pop
  let s := if s.vsg.takesBack n then s.segRemove t else s
  s.segCount t n

/-- The interruption mark is set by a halt or a reversal (R50). -/
def State.segInterrupt (s : State) : State := s.modVsg fun g => { g with interrupted := true }

end Sys2Proof.Machine
end

