-- ==== Sys2Proof/Machine/Thermal.lean ====
section
/-! DEFINITION. The Thermal Scanner Unit (08): scanner frames, calibration, the ambient filter, gates, and the
rows SCANNER_FRAME, SCANNER_LOSS_TIMER_EXPIRY, SHUTTER_TIMER_EXPIRY and GATE_TIME_EXPIRY. -/

namespace Sys2Proof.Machine

/-- One scanner changed. -/
def State.modScanner (x : Side) (f : Scanner → Scanner) (s : State) : State :=
  s.modTsu fun u => { u with scanners := u.scanners.upd x f }

/-- One open gate of the pair changed. -/
def State.modGate (x : Side) (f : Gate → Gate) (s : State) : State :=
  s.modTsu fun u => { u with pair := u.pair.map fun p => { p with gates := p.gates.upd x (·.map f) } }

/-- The open gate of a scanner. -/
def State.gateOf (s : State) (x : Side) : Option Gate := s.tsu.pair.bind (fun p => p.gates.get x)

/-! ## Closing gates (R142, R143) -/

/-- The gate record a stored gate makes (R143). `ambient` is A of its scanner at the close. -/
def gateRecordOf (g : Gate) (ambient : Option Int) (gapped truncated : Bool) : GateRecord :=
  { peak := g.peak, count := g.count, ambient := ambient.map (· / 64), gapped := g.gapped || gapped,
    truncated := truncated, calAged := g.calAged, calNone := g.calNone }

/-- A stored record makes its pair's request urgent (R143). -/
def GateRecord.urgent (thot : Nat) (r : GateRecord) : Bool :=
  match r.peak, r.ambient with
  | some p, some a => decide ((thot : Int) ≤ p - a)
  | _, _ => false

/-- A gate record written into the axle's gate set: the set is dirty, and an evaluation of it in flight takes the
changed mark (R143, R104). -/
def State.writeGateRecord (t : OpenTrain) (axle : Nat) (x : Side) (r : GateRecord) (s : State) : State :=
  (s.write t.slot t.number (Report.modAxle axle fun ax =>
    { ax with gates := ax.gates.upd x (fun _ => some r), gateDirty := true })).markChanged .thermal t.slot t.number axle

/-- The disposal of a closing gate (R142): ORPHAN, turned about (the pair's move is undone once, assumption 13),
beyond the table, or stored. -/
def State.disposeGate (t : OpenTrain) (p : GatePair) (x : Side) (r : GateRecord) (s : State) : State :=
  match p.axle with
  | none => s
  | some a =>
    if p.dir ≠ t.d0.along t.lastDir then
      if p.undone then s
      else s.modTsu fun u => { u with
        pointer := min (beforeValue a p.move) t.n
        gateUndone := sat16 (u.gateUndone + 1)
        pair := u.pair.map fun p => { p with undone := true } }
    else if Config.axleTable ≤ a then s
    else (s.writeGateRecord t a x r).modTsu fun u => { u with
      pair := u.pair.map fun p => { p with stored := true, urgent := p.urgent || r.urgent (s.cfg .thot) } }

/-- With its last gate closed a pair is gone, and it is requested if a gate of it was stored (R143). -/
def State.finishPair (t : OpenTrain) (s : State) : State :=
  match s.tsu.pair with
  | some p =>
    if p.gates.a.isNone && p.gates.b.isNone then
      let s := s.modTsu fun u => { u with pair := none }
      match p.axle with
      | some a =>
        if p.stored then
          s.request { lane := .thermal, slot := t.slot, number := t.number, target := a, urgent := p.urgent }
        else s
      | none => s
    else s
  | none => s

/-- The open gate of scanner `x` closes, with the marks its cause gives (R142). Nothing happens where none is open. -/
def State.closeGate (x : Side) (gapped truncated : Bool) (s : State) : State :=
  match s.tsu.pair, s.axt.train with
  | some p, some t =>
    match p.gates.get x with
    | some g =>
      let r := gateRecordOf g (s.tsu.scanners.get x).ambient gapped truncated
      let s := s.modTsu fun u => { u with pair := u.pair.map fun p => { p with gates := p.gates.upd x (fun _ => none) } }
      (s.disposeGate t p x r).finishPair t
    | none => s
  | _, _ => s

/-- Both gates still open close, A then B (R142). -/
def State.closeGates (truncated : Bool) (s : State) : State := (s.closeGate .a false truncated).closeGate .b false truncated

/-! ## Opening gates (R139, R140) -/

/-- The gate time of R140 for a speed. -/
def State.gateTime (s : State) (v : Nat) : Nat := clampNat 10000 2000000 (s.cfg .lg * 1000000 / v)

/-- A gate as it opens on a scanner, with the marks of the scanner's record (R132, R139). -/
def State.newGate (s : State) (x : Side) : Gate :=
  { count := 0, peak := none, gapCount := 0, gapped := false, calNone := !(s.tsu.scanners.get x).usable,
    calAged := s.scannerAged x }

/-- A gate sensor edge of the open train: truncation, pointer, opening (R139). -/
def State.gateEdge (t : OpenTrain) (s : State) : State :=
  let s := s.closeGates true
  let r := applyPointer t.motionTaken s.tsu.pointer t.n
  let time := s.gateTime (if t.moving then t.speed else t.lastSpeed)
  s.modTsu fun u => { u with
    pointer := r.2.1
    gateOrphan := if r.1.isNone then sat16 (u.gateOrphan + 1) else u.gateOrphan
    pair := some
      { axle := r.1, move := r.2.2, dir := t.d0.along t.motionTaken
        clock := if t.moving then .running (s.now + time) else .held time
        gates := { a := some (s.newGate .a), b := some (s.newGate .b) }
        undone := false, stored := false, urgent := false } }

/-- The remaining time of the open pair is held at the declaration of a halt (R140). -/
def State.holdGates (s : State) : State :=
  s.modTsu fun u => { u with pair := u.pair.map fun p =>
    { p with clock := match p.clock with | .running d => .held (d - s.now) | .held r => .held r } }

/-- The remaining time runs down again from the crossing that ends a halt (R140). -/
def State.resumeGates (s : State) : State :=
  s.modTsu fun u => { u with pair := u.pair.map fun p =>
    { p with clock := match p.clock with | .running d => .running d | .held r => .running (s.now + r) } }

/-! ## Calibration (R136) -/

/-- A calibration of a scanner fails: FAILED, values and age kept, shutter open, IDLE, CAL_FAILED posted (R136). -/
def State.failCalibration (x : Side) (s : State) : State :=
  (s.modScanner x fun y => { y with calState := .failed, progress := .idle, shutterTimer := none, shutterClosed := false }).post
    { level := .notice, kind := .calFailed, train := none, axle := none, vehicle := none, side := some x,
      value := sideCode x }

/-- The record a completed calibration leaves (R136). -/
def Scanner.complete (now : Nat) (clock : Clock) (sum count : Nat) (temp : Int) (y : Scanner) : Scanner :=
  let tRef := clampInt (-500) 2000 temp
  { y with calState := .valid, progress := .idle, shutterTimer := none, shutterClosed := false,
           calSum := sum, calCount := count,
           ref := some { sRef := roundHalfUp sum count, tRef := tRef, time := clock, validAt := now }
           ambient := some (y.ambient.getD (64 * tRef)) }

/-- A sample is added to a calibration that accumulates; the calibration is valid when the count reaches
cal_blocks × 64 (R136). -/
def State.accumulate (x : Side) (f : ScannerFrame) (s : State) : State :=
  s.modScanner x fun y =>
    let sum := y.calSum + f.sample.toNat
    let count := y.calCount + 1
    if s.cfg .calBlocks * 64 ≤ count then y.complete s.now s.ssq.clock sum count f.shutterTemp.toInt
    else { y with progress := .accumulating, shutterTimer := none, calSum := sum, calCount := count }

/-- An accepted frame as a calibration takes it (the table of R136). -/
def State.calibrationFrame (x : Side) (f : ScannerFrame) (s : State) : State :=
  match (s.tsu.scanners.get x).progress, f.shutter with
  | .idle, _ => s
  | .waiting, .opened => s
  | .waiting, .closed => s.accumulate x f
  | .accumulating, .closed => s.accumulate x f
  | .accumulating, .opened => s.failCalibration x

/-! ## Readings (R134, R138, R141) -/

/-- The gain item of a side (R134). -/
def gainItem : Side → Item
  | .a => .gainA
  | .b => .gainB

/-- The temperature reading of a sample, absent while the record is not usable (R134). -/
def State.reading (s : State) (x : Side) (f : ScannerFrame) : Option Int :=
  (s.tsu.scanners.get x).ref.map fun r =>
    clampInt (-500) 2000 (r.tRef + ((f.sample.toNat : Int) - r.sRef) * (s.cfg (gainItem x)) / 1024)

/-- The higher of a peak and a reading, the reading if the peak is absent (R141). -/
def higherPeak (peak : Option Int) (t : Int) : Int :=
  match peak with
  | some p => max p t
  | none => t

/-- An accepted frame as the open gate takes it: while moving and with the shutter open (R141). -/
def State.gateFrame (x : Side) (f : ScannerFrame) (t : Option Int) (s : State) : State :=
  if s.axt.train.any OpenTrain.moving && f.shutter = .opened then
    s.modGate x fun g => { g with
      count := sat16 (g.count + 1)
      peak := match t with | some t => some (higherPeak g.peak t) | none => g.peak }
  else s

/-- The ambient filter is updated in this site state (the table of R1, R138). -/
def SiteState.filtersAmbient : SiteState → Bool
  | .patrol => true
  | .sweep => true
  | .passage => true
  | _ => false

/-- One step of the ambient filter (R138). -/
def ambientStep (ka : Nat) (a t : Int) : Int := a + (64 * t - a) / 2 ^ ka

/-- An accepted frame as the ambient filter takes it (R138). -/
def State.ambientFrame (x : Side) (f : ScannerFrame) (t : Option Int) (s : State) : State :=
  match t with
  | some t =>
    if s.ssq.site.filtersAmbient && f.shutter = .opened && (s.gateOf x).isNone then
      s.modScanner x fun y => { y with ambient := y.ambient.map fun a => ambientStep (s.cfg .ka) a t }
    else s
  | none => s

/-- An accepted frame: its sequence is taken, the loss timer restarts, and the frame is handed to the calibration,
the open gate and the ambient filter (R130). -/
def State.acceptScannerFrame (x : Side) (f : ScannerFrame) (s : State) : State :=
  let s := s.modScanner x fun y => { y with prev := some f.seq, lossTimer := some (s.now + ms (s.cfg .tlost)) }
  let t := s.reading x f
  ((s.calibrationFrame x f).gateFrame x f t).ambientFrame x f t

/-- A jump: counted at the node and at the scanner's open gate, GAPPED beyond Gtol (R130). DESIGN CHOICE: the
gate's gap count, to which R130 gives no range, holds at 65535 (assumption 30). -/
def State.scannerJump (x : Side) (missing : Nat) (s : State) : State :=
  (s.modScanner x fun y => { y with missing := sat16 (y.missing + missing) }).modGate x fun g =>
    { g with gapCount := sat16 (g.gapCount + missing)
             gapped := g.gapped || decide (s.cfg .gtol < sat16 (g.gapCount + missing)) }

/-- A good scanner frame taken in PRESENT (R130). -/
def State.presentScannerFrame (x : Side) (f : ScannerFrame) (s : State) : State :=
  match checkSeq (s.tsu.scanners.get x).prev f.seq with
  | .accepted => s.acceptScannerFrame x f
  | .duplicate => s.modScanner x fun y =>
    { y with duplicate := sat16 (y.duplicate + 1), lossTimer := some (s.now + ms (s.cfg .tlost)) }
  | .jump missing => (s.scannerJump x missing).acceptScannerFrame x f

/-- SCANNER_FRAME (R130, R131). -/
def execScannerFrame (x : Side) (t : Nat) (a : ScannerArrival) (s : State) : Host.Outcome State Fault Refusal :=
  let s := s.advance t
  .next (match (s.tsu.scanners.get x).status with
    | .off => s
    | .present =>
      match goodScannerFrame x a with
      | some f => s.presentScannerFrame x f
      | none => s.modScanner x fun y => { y with bad := sat16 (y.bad + 1) }
    | .lost =>
      match goodScannerFrame x a with
      | some f => (s.modScanner x fun y => { y with status := .present }).acceptScannerFrame x f
      | none => s.modScanner x fun y => { y with bad := sat16 (y.bad + 1) })

/-- A scanner node becomes LOST (R131). -/
def State.loseScanner (x : Side) (s : State) : State :=
  let s := s.modScanner x fun y => { y with status := .lost, lossTimer := none }
  let s := s.closeGate x true false
  let s := if (s.tsu.scanners.get x).progress = .accumulating then s.failCalibration x else s
  let s := s.modScanner x fun y => { y with losses := sat16 (y.losses + 1) }
  s.post { level := .notice, kind := .nodeLost, train := s.openTrainId, axle := none, vehicle := none, side := some x,
           value := 4 + sideCode x }

/-- SCANNER_LOSS_TIMER_EXPIRY (R131). -/
def execScannerLossTimerExpiry (x : Side) (s : State) : Host.Outcome State Fault Refusal :=
  .next (match (s.tsu.scanners.get x).lossTimer with
    | some d => if (s.tsu.scanners.get x).status = .present then (s.advance d).loseScanner x else s
    | none => s)

/-- SHUTTER_TIMER_EXPIRY: in WAITING the calibration fails (R136). -/
def execShutterTimerExpiry (x : Side) (s : State) : Host.Outcome State Fault Refusal :=
  .next (match (s.tsu.scanners.get x).shutterTimer with
    | some d => if (s.tsu.scanners.get x).progress = .waiting then (s.advance d).failCalibration x else s
    | none => s)

/-- GATE_TIME_EXPIRY: the pair's remaining time reaches 0 and both gates still open close (R140). -/
def execGateTimeExpiry (s : State) : Host.Outcome State Fault Refusal :=
  .next (match s.tsu.pair with
    | some p =>
      match p.clock with
      | .running d => (s.advance d).closeGates false
      | .held _ => s
    | none => s)

end Sys2Proof.Machine
end

