-- ==== Sys2Proof/Machine/Track.lean ====
section
/-! DEFINITION. The Axle Tracker (02): pair machines, crossings, motion, the axle counts, train start and closure,
and the rows of the wheel sensors and the tracker's timers. -/

namespace Sys2Proof.Machine

/-! ## Pair machines (R21 to R23) -/

/-- The pair of a sensor, and whether it is the outer one (2.1). -/
def sensorPlace : WheelSensor → Pair × Bool
  | .wo => (.west, true)
  | .wi => (.west, false)
  | .ei => (.east, false)
  | .eo => (.east, true)

/-- One half crossing counted (R23). -/
def PairMachine.countHalf (m : PairMachine) : PairMachine := { m with halfCrossings := sat16 (m.halfCrossings + 1) }

/-- Expiry of the pair timer: IDLE and one half crossing (R23). -/
def PairMachine.expire (m : PairMachine) : PairMachine := m.idled.countHalf

/-- A machine whose pair timer ran out before `now` has expired by then (R23, assumption 3). -/
def PairMachine.settleTimer (now : Nat) (m : PairMachine) : PairMachine :=
  match m.timer with
  | some d => if d < now then m.expire else m
  | none => m

/-- A pending first edge held at `now`, with the pair timer started for Tpair (R21). -/
def PairMachine.hold (now tpair : Nat) (st : PairState) (m : PairMachine) : PairMachine :=
  { m with st := st, timer := some (now + ms tpair) }

/-- An edge reaching the machine (the table of R21): the machine after it, and of a completed crossing whether it is
inward and its interval in us (R22). -/
def PairMachine.edge (now tpair : Nat) (outer : Bool) (m : PairMachine) : PairMachine × Option (Bool × Nat) :=
  match m.st, outer with
  | .idle, true => (m.hold now tpair (.outerFirst now), none)
  | .idle, false => (m.hold now tpair (.innerFirst now), none)
  | .outerFirst _, true => (m.hold now tpair (.outerFirst now), none)
  | .outerFirst h, false => (m.idled, some (true, now - h))
  | .innerFirst h, true => (m.idled, some (false, now - h))
  | .innerFirst _, false => (m.hold now tpair (.innerFirst now), none)

/-- One pair machine changed. -/
def State.modPair (pr : Pair) (f : PairMachine → PairMachine) (s : State) : State :=
  s.modAxt fun a => { a with pairs := a.pairs.upd pr f }

/-- The travel direction of a crossing (R22). -/
def travelOf : Pair → Bool → Direction
  | .west, true => .east
  | .west, false => .west
  | .east, true => .west
  | .east, false => .east

/-- The speed of a crossing of interval `dt`, `none` if it is implausible (R24). -/
def plausibleSpeed (dpair dt : Nat) : Option Nat :=
  let v := dpair * 1000000 / dt
  if dt ≠ 0 ∧ 1 ≤ v ∧ v ≤ 50000 then some v else none

/-! ## Speed and motion (R24 to R30) -/

/-- The halt time Th at speed `v`, in us (R28). -/
def State.haltTime (s : State) (v : Nat) : Nat :=
  clampNat (sec (s.cfg .thaltMin)) (sec (s.cfg .thaltMax)) (s.cfg .gmax * 1000000 / v)

/-- The speed range of the header after an accepted crossing (R24). -/
def Header.speedRange (v : Nat) (h : Header) : Header :=
  { h with minSpeed := some (min (h.minSpeed.getD v) v), maxSpeed := some (max (h.maxSpeed.getD v) v) }

/-- The speeds an accepted crossing sets (R24). -/
def State.setSpeed (v : Nat) (s : State) : State :=
  (s.modTrain fun t => { t with speed := v, lastSpeed := v }).writeTrain (Report.modHeader (Header.speedRange v))

/-- A travel direction relative to d0 (R25). -/
def relativeTo (d0 travel : Direction) : RelDir := if travel = d0 then .forward else .reverse

/-- The motion state of a moving train (R26). -/
def RelDir.motion : RelDir → Motion
  | .forward => .movingFwd
  | .reverse => .movingRev

/-- The other pair's last crossing contradicts one travelling `travel` at `now` (R27). -/
def contradicts (last : Option (Nat × Direction)) (travel : Direction) (now : Nat) : Bool :=
  match last with
  | some (time, d) => decide (d ≠ travel) && decide (now - time < 500000)
  | none => false

/-- The train's records after an accepted crossing: motion, last moving direction, halt timer, stand timer, and the
record of its own pair (R26, R27, R28, R30). -/
def OpenTrain.cross (pr : Pair) (travel : Direction) (now haltTime : Nat) (t : OpenTrain) : OpenTrain :=
  { t with
    motion := (relativeTo t.d0 travel).motion
    lastDir := relativeTo t.d0 travel
    haltTimer := some (now + haltTime)
    standTimer := none
    lastCross := t.lastCross.upd pr (fun _ => some (now, travel)) }

/-- A reversal reported to the captures, the gates and the segmenter, with its header flag (R26). -/
def State.reversal (s : State) : State :=
  ((s.reverseCaptures.closeGates true).segInterrupt).writeTrain (Report.modFlags fun f => { f with reversed := true })

/-- The motion an accepted crossing sets (R26 to R28, R30). `t` is the train before it. -/
def State.setMotion (t : OpenTrain) (pr : Pair) (travel : Direction) (v : Nat) (s : State) : State :=
  let s := (s.modTrain (·.cross pr travel s.now (s.haltTime v))).resumeGates
  let s := if contradicts (t.lastCross.get (Pair.other pr)) travel s.now then
      s.writeTrain (Report.modFlags fun f => { f with directionConflict := true })
    else s
  if relativeTo t.d0 travel = t.lastDir then s else s.reversal

/-! ## Count rules (R31 to R36) -/

/-- A rail's crib set at the creation of its axle record. -/
def CribSet.empty : CribSet := { places := Vector.replicate 8 none, dirty := false }

/-- An axle record at its creation (R32). -/
def AxleRecord.start (index : Nat) (time : Clock) (v : Nat) (spacing : Option (Nat × SpacingClass))
    (vehicle : Option Nat) : AxleRecord :=
  { index := index, entryTime := time, entrySpeed := v, spacing := spacing, vehicle := vehicle, pass := 1,
    cribs := { a := .empty, b := .empty }, gates := { a := none, b := none }, gateDirty := false,
    wheels := { a := none, b := none }, peakWheel := .absent, results := none, overloadMark := false,
    imbalanceMark := false, bearings := { a := none, b := none }, peakBearing := .absent,
    counted := { a := false, b := false } }

/-- The header after H has become `h` (R31). -/
def Header.countAxles (h : Nat) (x : Header) : Header := { x with h := h, recorded := min h Config.axleTable }

/-- A new axle of index `a`, after the segmenter has handled its crossing: its record, or AXLE_OVERFLOW (R31, R32). -/
def State.newAxle (a v : Nat) (spacing : Option (Nat × SpacingClass)) (s : State) : State :=
  if a < Config.axleTable then
    s.writeTrain fun r => { r with axles := r.axles ++ [.start a s.ssq.clock v spacing s.segVehicleIndex] }
  else s.writeTrain (Report.modFlags fun f => { f with axleOverflow := true })

/-- The pass count of axle `a` incremented, held at 255; nothing is written beyond the table (R31). -/
def State.rePass (a : Nat) (s : State) : State :=
  if a < Config.axleTable then s.writeTrain (Report.modAxle a fun x => { x with pass := min (x.pass + 1) 255 }) else s

/-- COUNT_CONFLICT set in the header (R31, R33). -/
def State.flagCountConflict (s : State) : State :=
  s.writeTrain (Report.modFlags fun f => { f with countConflict := true })

/-- Forward entry (R31). `t` is the train as the crossing's motion left it. -/
def State.forwardEntry (t : OpenTrain) (v : Nat) (s : State) : State :=
  if 65535 ≤ t.n then s.flagCountConflict
  else
    let spacing := s.entrySpacing t.n v s.now
    let s := s.modTrain fun t => { t with n := t.n + 1, h := max t.h (t.n + 1) }
    if t.h < t.n + 1 then
      ((s.writeTrain (Report.modHeader (Header.countAxles (t.n + 1)))).segForward t t.n v s.now spacing).newAxle t.n v spacing
    else (s.segForward t t.n v s.now spacing).rePass t.n

/-- How many pointers stand above `n` (R34). -/
def State.pointersAbove (n : Nat) (s : State) : Nat :=
  s.units.toList.countP (fun u => decide (n < u.pointer)) + (if n < s.tsu.pointer then 1 else 0)

/-- The pointer clamp (R34). -/
def State.clampPointers (n : Nat) (s : State) : State :=
  { s with
    units := vmap (fun u => { u with pointer := min u.pointer n }) s.units
    tsu := { s.tsu with pointer := min s.tsu.pointer n }
    axt := { s.axt with pointerClamp := sat16 (s.axt.pointerClamp + s.pointersAbove n) } }

/-- The COUNT_CONFLICT alert (R33). -/
def countConflictAlert (t : OpenTrain) : AlertDraft :=
  { level := .notice, kind := .countConflict, train := some (t.number, t.slot), axle := none, vehicle := none,
    side := none, value := t.n }

/-- Reverse entry (R33). -/
def State.reverseEntry (t : OpenTrain) (s : State) : State :=
  if t.n ≤ t.x then s.flagCountConflict.post (countConflictAlert t)
  else (((s.modTrain fun t => { t with n := t.n - 1 }).segReverse t (t.n - 1)).clampPointers (t.n - 1))

/-- Forward exit (R35). -/
def State.forwardExit (t : OpenTrain) (s : State) : State :=
  if t.x < t.n then s.modTrain fun t => { t with x := t.x + 1 }
  else s.modAxt fun a => { a with unenteredExit := sat16 (a.unenteredExit + 1) }

/-- Reverse exit (R36). -/
def State.reverseExit (s : State) : State := s.modTrain fun t => { t with x := t.x - 1 }

/-- The count rule of a crossing by its kind (R25). -/
def State.countCrossing (t : OpenTrain) (pr : Pair) (inward : Bool) (v : Nat) (s : State) : State :=
  if pr = t.entry then (if inward then s.forwardEntry t v else s.reverseEntry t)
  else (if inward then s.reverseExit else s.forwardExit t)

/-- An accepted crossing taken while a train is open: speed, motion, count rule (R25). -/
def State.openCrossing (pr : Pair) (inward : Bool) (v : Nat) (s : State) : State :=
  match s.axt.train with
  | some t => ((s.setSpeed v).setMotion t pr (travelOf pr inward) v).countCrossing t pr inward v
  | none => s

/-! ## Train start (R37, R38) -/

/-- The open train as the tracker starts it (R37, steps 1 and 6). -/
def OpenTrain.start (slot : Fin 4) (number : Nat) (pr : Pair) (clearAt : Nat) : OpenTrain :=
  { slot := slot, number := number, d0 := travelOf pr true, entry := pr, motion := .movingFwd, lastDir := .forward,
    speed := 0, lastSpeed := 0, n := 0, h := 0, x := 0, haltTimer := none, clearTimer := some clearAt,
    standTimer := none, lastCross := { west := none, east := none } }

/-- NO_APPROACH is found at the start: the site rests or patrols and the latch is clear (R38). -/
def State.noApproach (s : State) : Bool :=
  !s.ssq.latch && (s.ssq.site == .patrol || s.ssq.site == .dormant || s.ssq.site == .sweep)

/-- A train start's steps 3 to 6 in slot `k` (R37). -/
def State.startTrainIn (k : Fin 4) (pr : Pair) (s : State) : State :=
  let flags := HeaderFlags.start s.noApproach s.axt.continuation
  let s := s.allocate k (travelOf pr true) pr flags
  let s := s.modAxt fun a => { a with
    continuation := false
    train := some (.start k s.rps.trainCounter pr (s.now + sec (s.cfg .tclear))) }
  let s := ((s.resetCapturePointers).modTsu fun u => { u with pointer := 0 }).segStart
  let aborted := s.calibrationInFlight
  let s := s.enter .passage .trainStart
  if aborted then s.writeTrain (Report.modFlags fun f => { f with calAborted := true }) else s

/-- A train start: steps 3 to 6, and the crossing applied as the forward entry of axle 0 (R37). A slot is always found
(R151); were there none, nothing would happen (assumption 15). -/
def State.trainStart (pr : Pair) (v : Nat) (s : State) : State :=
  match s.chooseSlot with
  | some k => (s.startTrainIn k pr).openCrossing pr true v
  | none => s

/-! ## Train closure (R42, R158) -/

/-- The kind of a closure made by the stand timer (R41). -/
def standKind (t : OpenTrain) : ClosureKind :=
  if t.x = t.h then .completePass else if t.n = 0 then .withdrawn else .standing

/-- The CHANNEL_STALE alert of channel `k` (R158). -/
def staleAlert (t : OpenTrain) (k : Fin 16) : AlertDraft :=
  { level := .notice, kind := .channelStale, train := some (t.number, t.slot), axle := none, vehicle := none,
    side := some (channelRail k), value := k.val }

/-- The stale channel set taken into the header with its flag, and an alert per channel in it (R94, R158). -/
def State.recordStale (t : OpenTrain) (s : State) : State :=
  let set := s.staleSeenSet
  let s := s.writeTrain (Report.modHeader fun h => { h with
    staleChannels := set, flags := { h.flags with staleChannels := h.flags.staleChannels || set != 0 } })
  s.postAll ((allChannels.filter fun k => set.getLsbD k.val).map (staleAlert t))

/-- The tracker after a closure: no open train, and the continuation mark after a STANDING one (R41, R42). -/
def Axt.closed (kind : ClosureKind) (a : Axt) : Axt :=
  { a with train := none, continuation := a.continuation || decide (kind = .standing) }

/-- A train closure (R42). -/
def State.closeTrain (t : OpenTrain) (kind : ClosureKind) (s : State) : State :=
  let s := s.writeTrain (Report.modHeader fun h => { h with closure := some kind, endTime := some s.ssq.clock })
  let s := (s.closeAllCaptures.closeGates true).recordStale t
  let s := s.segClose t t.n
  let s := (s.setSlotState t.slot .closing).modEvu (·.joinSweep t.slot)
  (s.modAxt (·.closed kind)).siteClosure

/-! ## Rows -/

/-- The clear timer restarted by an edge taken while a train is open (R40). -/
def State.restartClear (s : State) : State :=
  s.modTrain fun t => { t with clearTimer := some (s.now + sec (s.cfg .tclear)) }

/-- A crossing that a pair edge completed, or none, while no train is open (R20, R37, R39). -/
def State.idleCrossing (pr : Pair) (c : Option (Bool × Nat)) (s : State) : State :=
  match c with
  | some (true, v) => s.trainStart pr v
  | some (false, _) => (s.modAxt fun a => { a with stray := sat16 (a.stray + 1) }).reportEdge
  | none => s.reportEdge

/-- A crossing that a pair edge completed, or none, while a train is open (R20, R25). -/
def State.passageCrossing (pr : Pair) (c : Option (Bool × Nat)) (s : State) : State :=
  match c with
  | some (inward, v) => s.restartClear.openCrossing pr inward v
  | none => s.restartClear

/-- The accepted crossing of a completed one, with its speed (R24). -/
def State.testCrossing (s : State) (c : Option (Bool × Nat)) : Option (Bool × Nat) :=
  c.bind fun x => (plausibleSpeed (s.cfg .dpair) x.2).map fun v => (x.1, v)

/-- An edge of a pair sensor in service: the pair machine takes it, R24 tests what it completes, and the crossing goes
on (R20, R21, R24). -/
def State.pairEdge (pr : Pair) (outer : Bool) (s : State) : State :=
  let r := ((s.axt.pairs.get pr).settleTimer s.now).edge s.now (s.cfg .tpair) outer
  let c := s.testCrossing r.2
  let s := s.modPair pr fun _ => if r.2.isSome && c.isNone then r.1.countHalf else r.1
  if s.axt.train.isSome then s.passageCrossing pr c else s.idleCrossing pr c

/-- WHEEL_SENSOR_EDGE (R20). -/
def execWheelSensorEdge (w : WheelSensor) (t : Nat) (s : State) : Host.Outcome State Fault Refusal :=
  let s := s.advance t
  .next (if s.ssq.site = .offline then s else s.pairEdge (sensorPlace w).1 (sensorPlace w).2)

/-- The halt timer restarted for Th at the current speed by a GS edge while moving (R29). -/
def State.restartHalt (s : State) : State :=
  s.modTrain fun t => if t.moving then { t with haltTimer := some (s.now + s.haltTime t.speed) } else t

/-- GATE_SENSOR_EDGE (R29, R20). -/
def execGateSensorEdge (t : Nat) (s : State) : Host.Outcome State Fault Refusal :=
  let s := s.advance t
  .next (match s.axt.train with
    | some tr => s.restartClear.restartHalt.gateEdge tr
    | none => if s.ssq.site = .offline then s else s.reportEdge)

/-- PAIR_TIMER_EXPIRY (R23). -/
def execPairTimerExpiry (pr : Pair) (s : State) : Host.Outcome State Fault Refusal :=
  .next (match (s.axt.pairs.get pr).timer with
    | some d => (s.advance d).modPair pr PairMachine.expire
    | none => s)

/-- The declaration of a halt (R28). -/
def State.declareHalt (t : OpenTrain) (s : State) : State :=
  let s := s.modTrain fun t =>
    { t with motion := .halted, speed := 0, haltTimer := none, standTimer := some (s.now + sec (s.cfg .tstand)) }
  let s := s.segInterrupt.holdGates
  if t.x < t.n then s.writeTrain (Report.modFlags fun f => { f with haltedOnSite := true }) else s

/-- HALT_TIMER_EXPIRY (R28). -/
def execHaltTimerExpiry (s : State) : Host.Outcome State Fault Refusal :=
  .next (match s.axt.train with
    | some t =>
      match t.haltTimer with
      | some d => if t.moving then (s.advance d).declareHalt t else s
      | none => s
    | none => s)

/-- The test of the clear timer's expiry (the table of R40). -/
def State.clearTest (t : OpenTrain) (s : State) : State :=
  if t.x = t.h then s.closeTrain t .completePass
  else if t.n = 0 then s.closeTrain t .withdrawn
  else s.modTrain fun t => { t with clearTimer := none }

/-- CLEAR_TIMER_EXPIRY (R40). -/
def execClearTimerExpiry (s : State) : Host.Outcome State Fault Refusal :=
  .next (match s.axt.train with
    | some t =>
      match t.clearTimer with
      | some d => (s.advance d).clearTest t
      | none => s
    | none => s)

/-- STAND_TIMER_EXPIRY (R41). -/
def execStandTimerExpiry (s : State) : Host.Outcome State Fault Refusal :=
  .next (match s.axt.train with
    | some t =>
      match t.standTimer with
      | some d => (s.advance d).closeTrain t (standKind t)
      | none => s
    | none => s)

end Sys2Proof.Machine
end

