-- ==== Sys2Proof/Machine/Dispatch.lean ====
section
/-! DEFINITION. One arm per command, each a direct call of its meaning. -/

namespace Sys2Proof.Machine

/-- The effect of a command on everything but the queue. -/
def exec (i : Instr) (s : State) : Host.Outcome State Fault Refusal :=
  match i with
  | .powerOn => Sys2Proof.Machine.execPowerOn s
  | .portFramingReady p => Sys2Proof.Machine.execPortFramingReady p s
  | .frameReceived p t bytes => Sys2Proof.Machine.execFrameReceived p t bytes s
  | .badKind p => Sys2Proof.Machine.execBadKind p s
  | .status p => Sys2Proof.Machine.execStatus p s
  | .clockSet p => Sys2Proof.Machine.execClockSet p s
  | .enable p => Sys2Proof.Machine.execEnable p s
  | .disable p => Sys2Proof.Machine.execDisable p s
  | .dormancyOn p => Sys2Proof.Machine.execDormancyOn p s
  | .dormancyOff p => Sys2Proof.Machine.execDormancyOff p s
  | .restart p => Sys2Proof.Machine.execRestart p s
  | .configSet p => Sys2Proof.Machine.execConfigSet p s
  | .configGet p => Sys2Proof.Machine.execConfigGet p s
  | .calibrationSet p => Sys2Proof.Machine.execCalibrationSet p s
  | .calibrationGet p => Sys2Proof.Machine.execCalibrationGet p s
  | .channelState p => Sys2Proof.Machine.execChannelState p s
  | .trainList p => Sys2Proof.Machine.execTrainList p s
  | .trainHeader p => Sys2Proof.Machine.execTrainHeader p s
  | .axlesRead p => Sys2Proof.Machine.execAxlesRead p s
  | .vehiclesRead p => Sys2Proof.Machine.execVehiclesRead p s
  | .trainStream p => Sys2Proof.Machine.execTrainStream p s
  | .trainRelease p => Sys2Proof.Machine.execTrainRelease p s
  | .alertTake p => Sys2Proof.Machine.execAlertTake p s
  | .alertCount p => Sys2Proof.Machine.execAlertCount p s
  | .outputFrameSent p => Sys2Proof.Machine.execOutputFrameSent p s
  | .streamPage p => Sys2Proof.Machine.execStreamPage p s
  | .lineBreak p => Sys2Proof.Machine.execLineBreak p s
  | .lineBreakEnd p => Sys2Proof.Machine.execLineBreakEnd p s
  | .approachRisingEdge t => Sys2Proof.Machine.execApproachRisingEdge t s
  | .approachFallingEdge t => Sys2Proof.Machine.execApproachFallingEdge t s
  | .armingTimerExpiry => Sys2Proof.Machine.execArmingTimerExpiry s
  | .sweepTimerExpiry => Sys2Proof.Machine.execSweepTimerExpiry s
  | .sweepDurationExpiry => Sys2Proof.Machine.execSweepDurationExpiry s
  | .restTimerExpiry => Sys2Proof.Machine.execRestTimerExpiry s
  | .siteClockTick => Sys2Proof.Machine.execSiteClockTick s
  | .wheelSensorEdge w t => Sys2Proof.Machine.execWheelSensorEdge w t s
  | .gateSensorEdge t => Sys2Proof.Machine.execGateSensorEdge t s
  | .pairTimerExpiry pr => Sys2Proof.Machine.execPairTimerExpiry pr s
  | .haltTimerExpiry => Sys2Proof.Machine.execHaltTimerExpiry s
  | .clearTimerExpiry => Sys2Proof.Machine.execClearTimerExpiry s
  | .standTimerExpiry => Sys2Proof.Machine.execStandTimerExpiry s
  | .gaugeFrame g t a => Sys2Proof.Machine.execGaugeFrame g t a s
  | .gaugeLossTimerExpiry g => Sys2Proof.Machine.execGaugeLossTimerExpiry g s
  | .quietTimerExpiry k => Sys2Proof.Machine.execQuietTimerExpiry k s
  | .scannerFrame x t a => Sys2Proof.Machine.execScannerFrame x t a s
  | .scannerLossTimerExpiry x => Sys2Proof.Machine.execScannerLossTimerExpiry x s
  | .shutterTimerExpiry x => Sys2Proof.Machine.execShutterTimerExpiry x s
  | .gateTimeExpiry => Sys2Proof.Machine.execGateTimeExpiry s
  | .evaluationCompletion e => Sys2Proof.Machine.execEvaluationCompletion e s
  | .sweepStep => Sys2Proof.Machine.execSweepStep s

end Sys2Proof.Machine
end

