-- ==== Sys2Proof/Machine/Step.lean ====
section
/-! DEFINITION. One step: the command at the front of the queue, or one microsecond of elapsed time where none waits. -/

namespace Sys2Proof.Machine

/-- With no command waiting, one microsecond passes (assumption 1). -/
def State.idle (s : State) : State := { s with now := s.now + 1 }

/-- The command at the front of the queue runs with the queue's rest; an empty queue idles. -/
def step (s : State) : Host.Outcome State Fault Refusal :=
  match s.pending with
  | [] => .next s.idle
  | c :: rest => exec c { s with pending := rest }

/-- The command a word spells put at the front of the queue; the table's rows have no bits, so no word spells one
(assumption 19). -/
def State.withFetchWord (s : State) (nbits w : Nat) : State :=
  match decodeTableWord nbits w with
  | some c => { s with pending := c :: s.pending }
  | none => s

end Sys2Proof.Machine
end

