-- ==== Sys2Proof/Safety.lean ====
section
/-! DEFINITION. The words the statements are written in: what a port sends, what a request asks for, and the
conditions that hold of every state a run reaches. -/

namespace Sys2Proof.Machine

/-! ## Ports -/

/-- The frames a port has made and not sent in full, in the order they leave it (R173). -/
def PortMachine.outbox (pm : PortMachine) : List OutFrame := pm.leaving.toList ++ pm.waiting

/-- A frame waits only behind one that is being sent. -/
def PortMachine.Orderly (pm : PortMachine) : Prop := pm.leaving = none → pm.waiting = []

/-- The port with further frames at the end of what it sends. -/
def PortMachine.sends (fs : List OutFrame) (pm : PortMachine) : PortMachine :=
  { pm with leaving := (pm.outbox ++ fs).head?, waiting := (pm.outbox ++ fs).tail }

/-- The port with its oldest unserved request answered by frames (R172). -/
def PortMachine.answered (fs : List OutFrame) (pm : PortMachine) : PortMachine :=
  { pm.sends fs with requests := markFirstServed pm.requests }

/-- A port on which `n` further notices find room (R173, R178). -/
structure PortMachine.Room (n : Nat) (pm : PortMachine) : Prop where
  unbroken : pm.broken = false
  orderly  : pm.Orderly
  room     : pm.waitingNotices + n ≤ Config.noticeDepth

/-- Both ports have room for `n` notices. -/
def State.Room (n : Nat) (s : State) : Prop := (s.mpc.ports.s).Room n ∧ (s.mpc.ports.m).Room n

/-- A notice frame (R173). -/
def noticeFrame (kind : Byte) (payload : List Byte) : OutFrame :=
  { kind := kind, tag := 0, payload := payload, cls := .notice }

/-- The one frame of a reply to a request: its kind plus 0x80, its tag, the outcome's number and the body (R172). -/
def replyFrame (r : QueuedRequest) (outcome : Byte) (body : List Byte) : OutFrame :=
  { kind := r.kind + 0x80, tag := r.tag, payload := outcome :: body, cls := .reply true }

/-- The SITE STATE notice of a change of the site state (R4). -/
def siteNotice (new old : SiteState) (cause : Cause) (disablePending : Bool) (time : Clock) : OutFrame :=
  noticeFrame 0x40 (u8 new.code ++ [1] ++ u8 old.code ++ u8 cause.code ++ flag disablePending ++ u32 time.toNat)

/-- The oldest unserved request of port `p` is `r`, of the given kind and payload. -/
structure State.Asks (s : State) (p : Port) (r : QueuedRequest) (kind : Byte) (payload : List Byte) : Prop where
  head    : (s.mpc.ports.get p).head = some r
  kind    : r.kind = kind
  payload : r.payload = payload
  orderly : (s.mpc.ports.get p).Orderly

/-- `t` is `s` but for the machine of port `p`, which is `pm`. -/
def State.withPort (s : State) (p : Port) (pm : PortMachine) : State :=
  { s with mpc := { s.mpc with ports := s.mpc.ports.upd p (fun _ => pm) } }

/-! ## Moves of the site, as the tables of 01 state them -/

/-- `s` with its site in `new` and the four timers of the Site Sequencer stopped. -/
def State.inSite (new : SiteState) (s : State) : State :=
  { s with ssq := { s.ssq with
      site := new, armTimer := none, sweepTimer := none, sweepDurTimer := none, restTimer := none } }

/-- `s` with the six link streams resumed: a stream-on command sent over each link, every gauge node at the start of its settle
discard (PRESENT at once where there is none), every scanner PRESENT, all unsynchronised with their loss timers started (R3, R61,
R66, R130). -/
def State.resumed (s : State) : State :=
  let loss := some (s.now + 1000 * s.cfg .tlost)
  let on (x : Scanner) : Scanner :=
    { x with status := .present, prev := none, lossTimer := loss, sent := x.sent ++ [.streamOn] }
  { s with
    ssq := { s.ssq with streaming := true }
    nodes := s.nodes.map fun n => { n with
      status := if s.cfg .settleSamples = 0 then .present else .settling
      prev := none, settle := s.cfg .settleSamples, lossTimer := loss, sent := n.sent ++ [.streamOn] }
    tsu := { s.tsu with scanners := { a := on s.tsu.scanners.a, b := on s.tsu.scanners.b } } }

/-- `s` with the six link streams stopped where they run: a stream-off command sent over each link, every node OFF, its loss
timer stopped (R3, R61, R130). -/
def State.stopped (s : State) : State :=
  let off (x : Scanner) : Scanner := { x with status := .off, lossTimer := none, sent := x.sent ++ [.streamOff] }
  if s.ssq.streaming = true then { s with
    ssq := { s.ssq with streaming := false }
    nodes := s.nodes.map fun n => { n with status := .off, lossTimer := none, sent := n.sent ++ [.streamOff] }
    tsu := { s.tsu with scanners := { a := off s.tsu.scanners.a, b := off s.tsu.scanners.b } } }
  else s

/-- `s` with both scanners WAITING in a calibration: shutters driven closed, shutter timers of 2 s, nothing summed
(R135). -/
def State.calibrating (s : State) : State :=
  let begun (x : Scanner) : Scanner := { x with
    shutterClosed := true, progress := .waiting, shutterTimer := some (s.now + 2000000), calSum := 0, calCount := 0 }
  { s with tsu := { s.tsu with scanners := { a := begun s.tsu.scanners.a, b := begun s.tsu.scanners.b } } }

/-- What the calibration call of R12 leads to: skipped and counted where both records are fresh, begun otherwise
(R135). -/
def State.called (s : State) : State :=
  if s.scannerFresh .a = true ∧ s.scannerFresh .b = true then
    { s with tsu := { s.tsu with calSkip := min (s.tsu.calSkip + 1) 65535 } }
  else s.calibrating

/-- `s` with the calibration call withdrawn: a calibration in flight is ended, its shutter open (R12, R137). -/
def State.uncalled (s : State) : State :=
  let freed (x : Scanner) : Scanner := if x.progress = .idle then x else
    { x with progress := .idle, shutterTimer := none, shutterClosed := false, calSum := 0, calCount := 0 }
  { s with tsu := { s.tsu with scanners := { a := freed s.tsu.scanners.a, b := freed s.tsu.scanners.b } } }

/-- `s` with every pending configuration value and calibration record active (R17, R75). -/
def State.settled (s : State) : State :=
  { s with
    mpc := { s.mpc with
      active := Vector.ofFn fun i => (s.mpc.pendingCfg[i]).getD s.mpc.active[i]
      pendingCfg := Vector.replicate 54 none }
    channels := s.channels.map fun c => { c with cal := c.pendingCal.getD c.cal, pendingCal := none } }

/-- `s` with the settle point of R17 begun where no slot is CLOSING. -/
def State.settledUnlessClosing (s : State) : State := if s.anyClosing = true then s else s.settled

/-- `s` with notices sent to both ports (R4, R173). -/
def State.telling (fs : List OutFrame) (s : State) : State :=
  { s with mpc := { s.mpc with ports := { s := s.mpc.ports.s.sends fs, m := s.mpc.ports.m.sends fs } } }

/-- `s` with the oldest unserved request of port `p` answered by one frame (R172). -/
def State.replying (p : Port) (f : OutFrame) (s : State) : State :=
  s.withPort p ((s.mpc.ports.get p).answered [f])

/-- R10 moves no site on to ARMED at its entry to PATROL or DORMANT: the approach input is inactive, or the approach mode
is PULSE and stays so at the settle point. -/
def State.staysAtRest (s : State) : Prop :=
  s.ssq.approachInput = false ∨ (s.cfg .approachMode = 0 ∧ s.futureCfg .approachMode = 0)

/-- `s`, its site come to rest or in SWEEP, moved on to ARMED where the mode is LEVEL and the approach input active: the latch is
set, the site's timers stop, the streams resume from DORMANT, and the calibration is called (R10, R12, R17). -/
def State.carriedOn (s : State) : State :=
  let armed : State := { s.inSite .armed with ssq := { (s.inSite .armed).ssq with latch := true } }
  if s.levelMode = true ∧ s.ssq.approachInput = true
      ∧ (s.ssq.site = .patrol ∨ s.ssq.site = .dormant ∨ s.ssq.site = .sweep) then
    (if s.ssq.site = .dormant then armed.resumed else armed).called.telling
      [siteNotice .armed s.ssq.site .approach s.ssq.disablePending s.ssq.clock]
  else s

/-- Both ports have room for one notice, and for a second where R10 may move the site on to ARMED. -/
def State.RoomToRest (s : State) : Prop := s.Room 2 ∨ (s.Room 1 ∧ s.staysAtRest)

/-- A site that an edge can wake has room for the notices of the wake. -/
def State.RoomToWake (s : State) : Prop := s.ssq.site = .dormant ∨ s.ssq.site = .sweep → s.RoomToRest

/-- What an edge that starts no train does to a site where none is open: the rest timer restarts in PATROL with dormancy on
(R15), and a site in DORMANT or SWEEP wakes to PATROL (R16), and on to ARMED where R10 and R17 say so. -/
def State.edgeReported (s : State) : State :=
  let rest := if s.ssq.dormancy = true then some (s.now + 1000000 * s.cfg .tclear) else none
  let woken : State := { s.inSite .patrol with ssq := { (s.inSite .patrol).ssq with restTimer := rest } }
  let notice := [siteNotice .patrol s.ssq.site .wheelWake s.ssq.disablePending s.ssq.clock]
  match s.ssq.site with
  | .patrol => { s with ssq := { s.ssq with restTimer := if s.ssq.dormancy = true then rest else s.ssq.restTimer } }
  | .dormant => (woken.resumed.telling notice).carriedOn
  | .sweep => (woken.settledUnlessClosing.telling notice).carriedOn
  | _ => s

/-- `s` once the CLOSING report `h` of slot `k`, which the sweep serves, has become COMPLETE: its notice, the next slot of the
sweep's queue, the settle point begun where the site rests and no slot is CLOSING then, and the move on to ARMED (R109, R159,
R17). -/
def State.completed (k : Fin 4) (h : HeldSlot) (s : State) : State :=
  let done : State := { s with
    rps := { s.rps with slots := s.rps.slots.set k (some { h with st := .complete }) }
    evu := { s.evu with
      sweepQueue := s.evu.sweepQueue.tail, sweepPos := .axle 0 .railA, sweepWaiting := false, sweepResting := false
      rewalk := false } }
  let told := done.telling [noticeFrame 0x42 (trainCompletePayload h.report.header)]
  (if s.ssq.site = .patrol ∨ s.ssq.site = .dormant ∨ s.ssq.site = .offline then told.settledUnlessClosing else told).carriedOn

/-! ## Sensors -/

/-- The pair of a sensor and whether it is the pair's outer one (2.1). -/
def WheelSensor.place : WheelSensor → Pair × Bool
  | .wo => (.west, true)
  | .wi => (.west, false)
  | .ei => (.east, false)
  | .eo => (.east, true)

/-- The pair machine a sensor edge at `now` finds: one whose timer ran out before then has counted its half crossing (R23,
assumption 3). -/
def PairMachine.foundAt (now : Nat) (m : PairMachine) : PairMachine :=
  match m.timer with
  | some d => if d < now then
      { st := .idle, timer := none, halfCrossings := min (m.halfCrossings + 1) 65535 } else m
  | none => m

/-- An edge of the outer (or inner) sensor completes a crossing of a machine that holds the other sensor's first edge: its
sense (inward or not) and its interval (R21, R22). -/
def PairMachine.completes (now : Nat) (outer : Bool) (m : PairMachine) : Option (Bool × Nat) :=
  match m.st, outer with
  | .outerFirst held, false => some (true, now - held)
  | .innerFirst held, true => some (false, now - held)
  | _, _ => none

/-- The travel direction of a crossing (the table of R22). -/
def travelDirection (pr : Pair) (inward : Bool) : Direction :=
  if (pr = .west ∧ inward = true) ∨ (pr = .east ∧ inward = false) then .east else .west

/-- The halt time Th at speed `v` in us (R28). -/
def State.haltAfter (s : State) (v : Nat) : Nat :=
  min (max (s.cfg .gmax * 1000000 / v) (1000000 * s.cfg .thaltMin)) (1000000 * s.cfg .thaltMax)

/-- The state at the edge of a sensor: the time base moved to it, the pair's machine replaced, an open train's clear timer
restarted (R20, R40). -/
def State.atEdge (t : Nat) (pr : Pair) (m : PairMachine) (s : State) : State :=
  let now := max s.now t
  { s with
    now := now
    axt := { s.axt with
      pairs := s.axt.pairs.upd pr (fun _ => m)
      train := s.axt.train.map fun tr => { tr with clearTimer := some (now + 1000000 * s.cfg .tclear) } } }

/-- The edge of sensor `w` at `t` completes an accepted crossing of pair `pr`: inward or not, at speed `v` (R21, R22,
R24). -/
structure State.Crosses (s : State) (w : WheelSensor) (t : Nat) (pr : Pair) (inward : Bool) (v : Nat) : Prop where
  pair  : (WheelSensor.place w).1 = pr
  cross : ∃ dt, 0 < dt ∧ v = s.cfg .dpair * 1000000 / dt ∧
    ((s.axt.pairs.get pr).foundAt (max s.now t)).completes (max s.now t) (WheelSensor.place w).2 = some (inward, dt)
  low   : 1 ≤ v
  high  : v ≤ 50000

/-- The pair machine after a completed crossing: IDLE, its timer stopped (R22). -/
def PairMachine.completed (now : Nat) (m : PairMachine) : PairMachine :=
  { m.foundAt now with st := .idle, timer := none }

/-- An axle record as R32 creates it. -/
structure AxleRecord.IsNew (x : AxleRecord) (index : Nat) (time : Clock) (v : Nat)
    (spacing : Option (Nat × SpacingClass)) (vehicle : Option Nat) : Prop where
  index    : x.index = index
  time     : x.entryTime = time
  speed    : x.entrySpeed = v
  spacing  : x.spacing = spacing
  vehicle  : x.vehicle = vehicle
  pass     : x.pass = 1
  cribs    : ∀ y, (x.cribs.get y).places = Vector.replicate 8 none ∧ (x.cribs.get y).dirty = false
  gates    : ∀ y, x.gates.get y = none
  gate     : x.gateDirty = false
  wheels   : ∀ y, x.wheels.get y = none
  results  : x.results = none
  bearings : ∀ y, x.bearings.get y = none
  peaks    : x.peakWheel = .absent ∧ x.peakBearing = .absent
  counted  : ∀ y, x.counted.get y = false
  marks    : x.overloadMark = false ∧ x.imbalanceMark = false

/-- An alert of the level NOTICE: no axle and no vehicle (10.1). -/
def noticeAlert (kind : AlertKind) (train : Option (Nat × Fin 4)) (side : Option Side) (value : Int) : AlertDraft :=
  { level := .notice, kind := kind, train := train, axle := none, vehicle := none, side := side, value := value }

/-- The newest entry of the NOTICE level is the alert `d`, stamped at `s` with the number after `skipped` other posts. -/
def State.PostedAfter (s u : State) (skipped : Nat) (d : AlertDraft) : Prop :=
  (u.atq.queues.get .notice).getLast? =
    some { number := nextNumber (nextNumber^[skipped] s.atq.number), draft := d, time := s.ssq.clock }

/-- A good frame of sequence `q` delivers the node's samples, with no frame missing before it: the node is PRESENT and the frame
its first or the next in sequence, or the node is LOST with its settle discard over (R61, R62, R65). -/
def GaugeNode.Delivers (q : Byte) (n : GaugeNode) : Prop :=
  (n.status = .present ∧ (n.prev = none ∨ n.prev = some (q - 1))) ∨ (n.status = .lost ∧ n.settle = 0)

/-- The integer of `n` bytes at an offset of a byte layout, high byte first (11, 11.7). -/
def bytesField (bs : List Byte) (offset n : Nat) : Nat :=
  ((bs.drop offset).take n).foldl (fun acc b => acc * 256 + b.toNat) 0

/-- The queues after the post of alert `d` at the site time `time`: the next number (1 after 65535), the tail of the level's
queue, the oldest of 32 entries discarded and counted (R164, R165). -/
def Atq.filed (time : Clock) (q : Atq) (d : AlertDraft) : Atq :=
  let number := if q.number < 65535 then q.number + 1 else 1
  let old := q.queues.get d.level
  { queues := q.queues.upd d.level (fun _ =>
      (if 32 ≤ old.length then old.tail else old) ++ [{ number := number, draft := d, time := time }])
    lost := if 32 ≤ old.length then q.lost.upd d.level (fun n => min (n + 1) 65535) else q.lost
    number := number }

/-! ## Requests and captures -/

/-- A request for the target waits in its lane, urgent where it must be, or its evaluation is in flight (R98 to R100). -/
def State.Requested (u : State) (lane : Lane) (slot : Fin 4) (number target : Nat) (urgent : Prop) : Prop :=
  (∃ x, x ∈ u.evu.lanes.get lane ∧ x.slot = slot ∧ x.number = number ∧ x.target = target ∧ (urgent → x.urgent = true))
  ∨ ∃ (e : Fin 2) (ev : Evaluation), u.evu.evals[e] = some ev ∧ ev.req.lane = lane ∧ ev.req.slot = slot
    ∧ ev.req.number = number ∧ ev.req.target = target ∧ (urgent → ev.req.urgent = true)

/-- Every evaluation of the target that is in flight in `s` is in flight in `u` with its changed mark set (R104). -/
def State.Changed (s u : State) (lane : Lane) (slot : Fin 4) (number target : Nat) : Prop :=
  ∀ (e : Fin 2) (ev : Evaluation), s.evu.evals[e] = some ev → ev.req.lane = lane → ev.req.slot = slot →
    ev.req.number = number → ev.req.target = target → u.evu.evals[e] = some { ev with changed := true }

/-- The geographic direction of the train's last moving direction. -/
def OpenTrain.lastTravel (t : OpenTrain) : Direction :=
  if t.lastDir = .forward then t.d0 else match t.d0 with | .east => .west | .west => .east

/-- The unit once its open capture `c` has closed, by the first case of R91 that applies: ORPHAN, turned about (the pointer back
to its before value, at most N), NOISE (the pointer back too), beyond the axle table, or stored. -/
def CaptureUnit.disposed (t : OpenTrain) (noise : Prop) [Decidable noise] (c : Capture) (u : CaptureUnit) : CaptureUnit :=
  let shut : CaptureUnit := { u with capture := none }
  match c.axle with
  | none => shut
  | some a =>
    let back := min (if c.move = some .reverse then a + 1 else a) t.n
    if c.dir ≠ t.lastTravel then { shut with pointer := back, undone := min (u.undone + 1) 65535 }
    else if noise then { shut with pointer := back, noise := min (u.noise + 1) 65535 }
    else if 512 ≤ a then { shut with unrecorded := min (u.unrecorded + 1) 65535 }
    else shut

/-- The crib record of a stored capture (R92), closed TRUNCATED, by a node's loss, or neither. -/
def Capture.cribRecord (truncated lost : Bool) (c : Capture) : CribRecord :=
  { plateau := if c.plateauCount = 0 then none else some ((2 * c.plateauSum + c.plateauCount) / (2 * c.plateauCount))
    peak := if c.saturated = true then 6000 else c.peak
    speed := c.speed, dir := c.dir, stale := c.staleAtOpen, truncated := truncated, gapped := c.gapped || lost
    reversed := c.reversed, saturated := c.saturated, defaultCal := c.defaultAtOpen }

/-- A capture of channel `k` that R91 stores leaves its crib record in the set of its axle, dirty, an evaluation of that set in
flight marked changed, and, at the far crib, a request (R91 to R93, R104). -/
def State.Stores (s u : State) (t : OpenTrain) (k : Fin 16) (c : Capture) (truncated lost : Bool) (noise : Prop) : Prop :=
  let lane : Lane := match channelRail k with | .a => .a | .b => .b
  ∀ a, c.axle = some a → c.dir = t.lastTravel → ¬ noise → a < 512 → ∀ h, s.rps.slots[c.slot] = some h → h.st = .filling →
    h.report.header.number = t.number → a < h.report.axles.length →
    (∃ h', u.rps.slots[c.slot] = some h' ∧ ∃ x', h'.report.axles[a]? = some x'
      ∧ (x'.cribs.get (channelRail k)).places.get (channelCrib k) = some (c.cribRecord truncated lost)
      ∧ (x'.cribs.get (channelRail k)).dirty = true)
    ∧ s.Changed u lane c.slot t.number a
    ∧ (channelCrib k = (match c.dir with | .east => 7 | .west => 0) → (s.evu.lanes.get lane).length < 16 →
        u.Requested lane c.slot t.number a False)

/-- The unit once a load `y` has opened a capture on it: attribution and pointer by the motion taken, the values of the
opening, the stale-seen mark (R81, R82). -/
def CaptureUnit.opened (t : OpenTrain) (stale defaultCal : Bool) (y : Nat) (ovr : Bool) (u : CaptureUnit) : CaptureUnit :=
  let moving : Prop := t.motion ≠ .halted
  let taken : RelDir := match t.motion with | .movingFwd => RelDir.forward | .movingRev => .reverse | .halted => t.lastDir
  let capture (axle : Option Nat) (move : Option Move) : Capture :=
    { slot := t.slot, axle := axle, move := move
      dir := if taken = .forward then t.d0 else match t.d0 with | .east => .west | .west => .east
      speed := t.speed, staleAtOpen := stale, defaultAtOpen := defaultCal, distance := 0, peak := if moving then y else 0
      plateauSum := 0, plateauCount := 0, lowCount := 0, gapCount := 0, gapped := false, saturated := ovr, reversed := false }
  let seen := u.staleSeen || stale
  if taken = .forward ∧ u.pointer < t.n then
    { u with pointer := u.pointer + 1, capture := some (capture (some u.pointer) (some .forward)), staleSeen := seen }
  else if taken = .reverse ∧ 0 < u.pointer then
    { u with pointer := u.pointer - 1, capture := some (capture (some (u.pointer - 1)) (some .reverse)), staleSeen := seen }
  else { u with capture := some (capture none none), orphan := min (u.orphan + 1) 65535, staleSeen := seen }

/-- The count of axle records that stand at a peak wheel level (R154). -/
def WheelCounts.standing (c : WheelCounts) : ResultLevel → Nat
  | .absent => 0
  | .normal => c.normal
  | .watch => c.watch
  | .alert => c.alert
  | .critical => c.critical

/-- The count of axle records that stand at a peak bearing level (R154). -/
def BearingCounts.standing (c : BearingCounts) : BearingLevel → Nat
  | .absent => 0
  | .normal => c.normal
  | .warm => c.warm
  | .hot => c.hot

/-- The STREAM END frame of a stream that ends with the ending numbered `ending` (R175). -/
def streamEndFrame (st : StreamState) (ending : Byte) : OutFrame :=
  noticeFrame 0x44 (u8 st.slot.val ++ u16 st.number ++ [ending] ++ u16 st.nextPage)

/-- The rows of the table that serve the requests of a kind of 11.3 on a port. -/
def rowsOf (p : Port) : Nat → List Instr
  | 0x01 => [.status p]
  | 0x02 => [.clockSet p]
  | 0x03 => [.enable p, .disable p, .dormancyOn p, .dormancyOff p, .restart p]
  | 0x04 => [.configSet p]
  | 0x05 => [.configGet p]
  | 0x06 => [.calibrationSet p]
  | 0x07 => [.calibrationGet p]
  | 0x08 => [.channelState p]
  | 0x09 => [.trainList p]
  | 0x0A => [.trainHeader p]
  | 0x0B => [.axlesRead p]
  | 0x0C => [.vehiclesRead p]
  | 0x0D => [.trainStream p]
  | 0x0E => [.trainRelease p]
  | 0x0F => [.alertTake p]
  | 0x10 => [.alertCount p]
  | _ => []

/-- The payload lengths a request kind allows, given by its fields (R172, 11.3; the two forms of CONFIG SET and of
CALIBRATION SET are the encodings of assumption 6). -/
def lengthsOf : Nat → List Nat
  | 0x01 => [0]
  | 0x02 => [4]
  | 0x03 => [1]
  | 0x04 => [2, 3]
  | 0x05 => [1]
  | 0x06 => [2, 22]
  | 0x07 => [1]
  | 0x08 => [1]
  | 0x09 => [0]
  | 0x0A => [1]
  | 0x0B => [5]
  | 0x0C => [3]
  | 0x0D => [1]
  | 0x0E => [1]
  | 0x0F => [1]
  | 0x10 => [0]
  | _ => []

/-- A request of an allowed length names an action, item, channel, slot, level or count outside its range (R172, step
3): actions 0..4, items 1..54, channels 0..15, slots 0..3, levels 0..3 with ANY as 4, axle counts 1..8, vehicle counts
1..16, detail choice 0..1, the form byte of a calibration record 0..1 (assumption 6). -/
def namesOutside (kind : Nat) (payload : List Byte) : Prop :=
  match kind, payload with
  | 0x03, [a] => 4 < a.toNat
  | 0x04, [i, _] => i.toNat < 1 ∨ 54 < i.toNat
  | 0x04, [i, _, _] => i.toNat < 1 ∨ 54 < i.toNat
  | 0x05, [i] => i.toNat < 1 ∨ 54 < i.toNat
  | 0x06, k :: form :: rest =>
    (form = 0 ∧ rest = [] ∧ 15 < k.toNat) ∨ (form = 1 ∧ rest.length = 20 ∧ 15 < k.toNat)
      ∨ (1 < form.toNat ∧ (rest = [] ∨ rest.length = 20))
  | 0x07, [k] => 15 < k.toNat
  | 0x08, [k] => 15 < k.toNat
  | 0x0A, [k] => 3 < k.toNat
  | 0x0B, [k, _, _, n, d] => 3 < k.toNat ∨ n.toNat < 1 ∨ 8 < n.toNat ∨ 1 < d.toNat
  | 0x0C, [k, _, n] => 3 < k.toNat ∨ n.toNat < 1 ∨ 16 < n.toNat
  | 0x0D, [k] => 3 < k.toNat
  | 0x0E, [k] => 3 < k.toNat
  | 0x0F, [l] => 4 < l.toNat
  | _, _ => False

/-- A request of a length its kind allows in another form than its own: a CONFIG SET whose value is not as wide as its item, a
CALIBRATION SET whose form byte asks for a record and brings none, or the other way about (assumption 6). -/
def wrongForm (kind : Nat) (payload : List Byte) : Prop :=
  match kind, payload with
  | 0x04, i :: value => ∃ it, Item.ofNumber i.toNat = some it ∧ value.length ≠ it.width
  | 0x06, _ :: form :: rest => (form = 1 ∧ rest = []) ∨ (form = 0 ∧ rest.length = 20)
  | _, _ => False

/-- Ports whose queues are as R172, R173 and R178 bound them. -/
structure PortMachine.Bounded (pm : PortMachine) : Prop where
  requests : pm.requests.length ≤ Config.requestDepth
  notices  : pm.waitingNotices ≤ Config.noticeDepth
  orderly  : pm.Orderly
  cut      : pm.broken = true → pm.requests = [] ∧ pm.leaving = none ∧ pm.waiting = [] ∧ pm.stream = none
  bad      : pm.bad ≤ 65535
  overflow : pm.overflow ≤ 65535
  losses   : pm.noticeLoss ≤ 65535
  breaks   : pm.lineBreaks ≤ 65535

/-! ## Conditions of every state a run reaches -/

/-- The queues of the part keep to their capacities: requests, notices, lanes, alert levels, spacing history (R98, R165,
R172, R173, R49), and the LRG order holds each lane once (R102). -/
structure State.Bounded (s : State) : Prop where
  portS   : s.mpc.ports.s.Bounded
  portM   : s.mpc.ports.m.Bounded
  lanes   : ∀ l, (s.evu.lanes.get l).length ≤ Config.laneDepth
  lrg     : s.evu.lrg.Perm [.a, .b, .thermal, .vehicle]
  alerts  : ∀ l, (s.atq.queues.get l).length ≤ Config.alertDepth
  history : s.vsg.history.length ≤ Config.historyDepth

/-- The site state, the train, the timers and the streams agree (R1, R3, R8, R9, R10, R13 to R15). -/
structure State.SiteOk (s : State) : Prop where
  /-- PASSAGE is the state of an open train. -/
  passage   : s.ssq.site = .passage ↔ s.axt.train.isSome
  arm       : s.ssq.armTimer.isSome → s.ssq.site = .armed
  sweep     : s.ssq.sweepTimer.isSome → s.ssq.site = .dormant
  duration  : s.ssq.sweepDurTimer.isSome → s.ssq.site = .sweep
  rest      : s.ssq.restTimer.isSome → s.ssq.site = .patrol ∧ s.ssq.dormancy = true
  latch     : s.ssq.site = .armed → s.ssq.latch = true
  offLatch  : s.ssq.site = .offline → s.ssq.latch = false
  disabling : s.ssq.disablePending = true → s.ssq.site = .passage
  streaming : s.ssq.streaming = s.ssq.site.streams
  /-- In LEVEL mode with the input active the site does not rest and does not patrol. -/
  level     : s.levelMode = true → s.ssq.approachInput = true →
    s.ssq.site = .offline ∨ s.ssq.site = .armed ∨ s.ssq.site = .passage

/-- Sensor nodes, their loss timers and the shutters follow the site (R12, R61, R64, R130, R131, R133, R135, R137). -/
structure State.NodesOk (s : State) : Prop where
  streaming : s.ssq.streaming = s.ssq.site.streams
  gauge     : ∀ g : Fin 4, s.nodes[g].status = .off ↔ s.ssq.streaming = false
  scanner   : ∀ x, (s.tsu.scanners.get x).status = .off ↔ s.ssq.streaming = false
  /-- A calibration is in flight only in ARMED. -/
  armed     : ∀ x, (s.tsu.scanners.get x).progress ≠ .idle → s.ssq.site = .armed
  /-- The shutter line is driven closed exactly while its scanner's calibration is in flight. -/
  shutter   : ∀ x, (s.tsu.scanners.get x).shutterClosed = true ↔ (s.tsu.scanners.get x).progress ≠ .idle
  timer     : ∀ x, (s.tsu.scanners.get x).shutterTimer.isSome ↔ (s.tsu.scanners.get x).progress = .waiting
  /-- A loss timer runs exactly while its node may be lost. -/
  gaugeLoss : ∀ g : Fin 4, s.nodes[g].lossTimer.isSome ↔ s.nodes[g].status = .settling ∨ s.nodes[g].status = .present
  scanLoss  : ∀ x, (s.tsu.scanners.get x).lossTimer.isSome ↔ (s.tsu.scanners.get x).status = .present

/-- What has been sent over a sensor link agrees with the streams: stream-on and stream-off in turn, stream-on first, and
stream-on last exactly while the streams run (R3). -/
structure LinkAgrees (streaming : Bool) (sent : List StreamCommand) : Prop where
  first  : sent.head? ≠ some .streamOff
  inTurn : sent.IsChain (· ≠ ·)
  last   : sent.getLast? = some .streamOn ↔ streaming = true

/-- The commands sent over the six links agree with the streams (R3). -/
structure State.LinksOk (s : State) : Prop where
  gauge   : ∀ g : Fin 4, LinkAgrees s.ssq.streaming (s.nodes[g]).sent
  scanner : ∀ x, LinkAgrees s.ssq.streaming (s.tsu.scanners.get x).sent

/-- The axle counts of the open train in their order, and no pointer above N (R31, R34, 2.6). -/
def State.CountsOk (s : State) : Prop :=
  ∀ t, s.axt.train = some t →
    t.x ≤ t.n ∧ t.n ≤ t.h ∧ t.h ≤ 65535 ∧ (∀ k : Fin 16, s.units[k].pointer ≤ t.n) ∧ s.tsu.pointer ≤ t.n

/-- The slot states follow the train and the closing sweep (R150, R107). -/
structure State.SlotsOk (s : State) : Prop where
  /-- A slot is FILLING exactly while its train is open, and holds that train's number. -/
  filling : ∀ k : Fin 4, (s.rps.slots[k]).any (fun h => h.st == .filling) = true ↔
    ∃ t, s.axt.train = some t ∧ t.slot = k
  number  : ∀ t h, s.axt.train = some t → s.rps.slots[t.slot] = some h → h.report.header.number = t.number
  /-- The sweep's queue holds the CLOSING slots, each once. -/
  queue   : ∀ k : Fin 4, k ∈ s.evu.sweepQueue ↔ s.slotClosing k = true
  once    : s.evu.sweepQueue.Nodup
  /-- Captures and gates are open only in an open train, and a capture names its train's slot. -/
  captures : ∀ (k : Fin 16) (c : Capture), (s.units[k]).capture = some c → ∃ t, s.axt.train = some t ∧ c.slot = t.slot
  gates   : s.tsu.pair.isSome → s.axt.train.isSome
  /-- An open gate pair has an open gate. -/
  gate    : ∀ p, s.tsu.pair = some p → ∃ x, p.gates.get x ≠ none

/-- The five pairs of items that CONFIG SET tests against each other, for a choice of values (R176). -/
def PairsOrdered (f : Item → Nat) : Prop :=
  f .toff < f .ton ∧ f .pstart < f .pend ∧ f .pend ≤ f .lmax ∧ f .shortMax < f .midMax ∧ f .tsweep < f .zmax

/-- A calibration record as R72 and R75 admit it: every value in its range, the break points in order. -/
structure CalRecord.Admitted (c : CalRecord) : Prop where
  low    : 1 ≤ c.b1
  first  : c.b1 < c.b2
  second : c.b2 < c.b3
  high   : c.b3 ≤ 524287
  slopes : c.m0 ≤ 65535 ∧ c.m1 ≤ 65535 ∧ c.m2 ≤ 65535 ∧ c.m3 ≤ 65535

/-- Every configuration value lies in its range, the active values and the future values pass the conflict tests,
every calibration record is one that R75 admits, and while the settle point holds no item's value and no channel's record is
pending (R17, R75, R176). -/
structure State.ConfigOk (s : State) : Prop where
  active  : ∀ i : Item, i.lo ≤ s.cfg i ∧ s.cfg i ≤ i.hi
  future  : ∀ i : Item, i.lo ≤ s.futureCfg i ∧ s.futureCfg i ≤ i.hi
  now     : PairsOrdered s.cfg
  then_   : PairsOrdered s.futureCfg
  settled : s.settleHolds = true → ∀ i : Item, s.mpc.pendingCfg.get i.idx = none
  applied : s.settleHolds = true → ∀ k : Fin 16, (s.channels[k]).pendingCal = none
  cals    : ∀ k : Fin 16, (s.channels[k]).cal.Admitted
  pending : ∀ (k : Fin 16) (c : CalRecord), (s.channels[k]).pendingCal = some c → c.Admitted

/-- Each evaluation in flight holds a snapshot of its lane's kind, as its grant made it, and only a vehicle's has been removed
(R103, R104). -/
def State.EvalsOk (s : State) : Prop :=
  ∀ (e : Fin 2) (ev : Evaluation), s.evu.evals[e] = some ev →
    match ev.req.lane, ev.snapshot with
    | .a, .rail _ => ev.removed = false
    | .b, .rail _ => ev.removed = false
    | .thermal, .thermal _ => ev.removed = false
    | .vehicle, .vehicle _ => True
    | _, _ => False

/-- No two evaluations in flight cover a common axle record of the same report slot (R99). -/
def State.CoveragesDisjoint (s : State) : Prop :=
  ∀ e f, s.evu.evals[(0 : Fin 2)] = some e → s.evu.evals[(1 : Fin 2)] = some f → e.coverage.overlaps f.coverage = false

end Sys2Proof.Machine
end

