-- ==== Sys2Proof/Certificates/Slice0/Obligations.lean ====
section
/-! DEFINITION. The statements for the provers. -/

open Sys2Proof Sys2Proof.Machine

/-! ## The machine -/

/-- For every command and state, a step of the state with the command at the front of its queue is the command's effect
on the state with the queue's rest. -/
def Obligations.StepRunsTheFrontCommand : Prop :=
  ∀ (c : Instr) (s : State), step { s with pending := c :: s.pending } = exec c s

/-- With no command waiting, a step lets one microsecond of the part's time base pass and changes nothing else (the
model's choice, assumption 1).

SITE_CLOCK_TICK advances the 32-bit clock by one, from 4294967295 to 0, and puts the next advance one second after
this one; nothing else changes but the time base, which has reached the advance.

CLOCK SET loads the clock with the value it carries, high byte first; the next advance follows one full second after
the load; the reply carries the value loaded. -/
def Obligations.TimePassesAndTheClockAdvances : Prop :=
  (∀ s : State, s.pending = [] → step s = .next { s with now := s.now + 1 })
  ∧ (∀ s : State, exec .siteClockTick s = .next { s with
    now := max s.now s.ssq.clockDue
    ssq := { s.ssq with
      clock := BitVec.ofNat 32 (if s.ssq.clock.toNat = 4294967295 then 0 else s.ssq.clock.toNat + 1)
      clockDue := s.ssq.clockDue + 1000000 } })
  ∧ (∀ (p : Port) (s : State) (r : QueuedRequest) (a b c d : Byte), s.Asks p r 0x02 [a, b, c, d] →
    exec (.clockSet p) s = .next (({ s with ssq := { s.ssq with
        clock := a ++ b ++ c ++ d, clockDue := s.now + 1000000 } } : State).withPort p
      ((s.mpc.ports.get p).answered [replyFrame r 3 [a, b, c, d]])))

/-- Every command completes: it never faults or refuses, and it leaves the queue of waiting commands as it was. -/
def Obligations.EveryCommandCompletes : Prop :=
  ∀ (c : Instr) (s : State), ∃ t, exec c s = .next t ∧ t.pending = s.pending

/-- The values R2, R44, R59, R77, R96, R111, R149, R163, R170, R177 and R179 give for power-on stand in the reset state, and
no stream command has been sent (the model's own field, assumption 22). -/
def Obligations.ResetHoldsPowerOnValues : Prop :=
  let s := State.reset
  (s.ssq.site = .offline ∧ s.ssq.dormancy = false ∧ s.ssq.disablePending = false ∧ s.ssq.latch = false
    ∧ s.ssq.armTimer = none ∧ s.ssq.sweepTimer = none ∧ s.ssq.sweepDurTimer = none ∧ s.ssq.restTimer = none
    ∧ s.ssq.streaming = false ∧ s.ssq.falseApproach = 0 ∧ s.ssq.clock = 0)
  ∧ (s.axt.train = none ∧ s.axt.continuation = false ∧ s.axt.stray = 0 ∧ s.axt.unenteredExit = 0 ∧ s.axt.pointerClamp = 0
    ∧ ∀ pr, (s.axt.pairs.get pr).st = .idle ∧ (s.axt.pairs.get pr).timer = none ∧ (s.axt.pairs.get pr).halfCrossings = 0)
  ∧ (s.vsg.history = [] ∧ s.vsg.deficit = 0 ∧ s.vsg.reference = none ∧ s.vsg.interrupted = false ∧ s.vsg.vehicles = [])
  ∧ (∀ g : Fin 4, s.nodes[g].status = .off ∧ s.nodes[g].lossTimer = none ∧ s.nodes[g].prev = none ∧ s.nodes[g].settle = 0
    ∧ s.nodes[g].bad = 0 ∧ s.nodes[g].duplicate = 0 ∧ s.nodes[g].missing = 0 ∧ s.nodes[g].losses = 0
    ∧ s.nodes[g].sent = [])
  ∧ (∀ k : Fin 16, s.channels[k].z = none ∧ s.channels[k].quiet = none ∧ s.channels[k].cal = CalRecord.default
    ∧ s.channels[k].pendingCal = none ∧ s.baselineAge k = 0)
  ∧ (∀ k : Fin 16, s.units[k].capture = none ∧ s.units[k].pointer = 0 ∧ s.units[k].staleSeen = false ∧ s.units[k].orphan = 0
    ∧ s.units[k].noise = 0 ∧ s.units[k].undone = 0 ∧ s.units[k].unrecorded = 0)
  ∧ ((∀ l, s.evu.lanes.get l = []) ∧ s.evu.lrg = [.a, .b, .thermal, .vehicle] ∧ s.evu.urgentMark = false
    ∧ (∀ e : Fin 2, s.evu.evals[e] = none) ∧ s.evu.sweepQueue = [] ∧ s.evu.rewalk = false
    ∧ ∀ l, s.evu.dropped.get l = 0 ∧ s.evu.discarded.get l = 0)
  ∧ (∀ x, (s.tsu.scanners.get x).status = .off ∧ (s.tsu.scanners.get x).calState = .none
    ∧ (s.tsu.scanners.get x).progress = .idle ∧ (s.tsu.scanners.get x).ambient = none
    ∧ (s.tsu.scanners.get x).shutterClosed = false ∧ (s.tsu.scanners.get x).shutterTimer = none
    ∧ (s.tsu.scanners.get x).lossTimer = none ∧ (s.tsu.scanners.get x).prev = none ∧ (s.tsu.scanners.get x).ref = none
    ∧ (s.tsu.scanners.get x).age s.now = 0 ∧ (s.tsu.scanners.get x).calSum = 0 ∧ (s.tsu.scanners.get x).calCount = 0
    ∧ (s.tsu.scanners.get x).bad = 0 ∧ (s.tsu.scanners.get x).duplicate = 0 ∧ (s.tsu.scanners.get x).missing = 0
    ∧ (s.tsu.scanners.get x).losses = 0 ∧ (s.tsu.scanners.get x).sent = [])
  ∧ (s.tsu.pointer = 0 ∧ s.tsu.pair = none ∧ s.tsu.gateOrphan = 0 ∧ s.tsu.gateUndone = 0 ∧ s.tsu.calSkip = 0)
  ∧ ((∀ k : Fin 4, s.rps.slots[k] = none) ∧ s.rps.order = [] ∧ s.rps.trainCounter = 0 ∧ s.rps.droppedWrites = 0)
  ∧ (s.atq.number = 0 ∧ ∀ l, s.atq.queues.get l = [] ∧ s.atq.lost.get l = 0)
  ∧ (∀ i : Item, s.cfg i = i.default ∧ s.mpc.pendingCfg[i.idx] = none)
  ∧ ∀ p, (s.mpc.ports.get p).receiver = .hunt ∧ (s.mpc.ports.get p).requests = [] ∧ (s.mpc.ports.get p).stream = none
    ∧ (s.mpc.ports.get p).leaving = none ∧ (s.mpc.ports.get p).waiting = [] ∧ (s.mpc.ports.get p).bad = 0
    ∧ (s.mpc.ports.get p).overflow = 0 ∧ (s.mpc.ports.get p).noticeLoss = 0 ∧ (s.mpc.ports.get p).lineBreaks = 0

/-- POWER_ON from any state gives the reset state again, but for the level of the approach pin and the commands
waiting, which are the outside world's (the model's choice, assumption 10). -/
def Obligations.PowerOnRestoresReset : Prop :=
  ∀ s : State, exec .powerOn s = .next { State.reset with
    ssq := { State.reset.ssq with approachInput := s.ssq.approachInput }, pending := s.pending }

/-- The site clock is moved by its tick, by CLOCK SET and by power-on alone.

The dormancy setting is changed by DORMANCY ON, DORMANCY OFF and power-on alone.

A train is opened by a wheel sensor edge alone, and an open train is ended by its clear timer, its stand timer,
RESTART or power-on alone. -/
def Obligations.SettingsMoveOnlyByTheirCommands : Prop :=
  (∀ (c : Instr) (s t : State), exec c s = .next t → t.ssq.clock ≠ s.ssq.clock →
    c = .siteClockTick ∨ c = .powerOn ∨ ∃ p, c = .clockSet p)
  ∧ (∀ (c : Instr) (s t : State), exec c s = .next t → t.ssq.dormancy ≠ s.ssq.dormancy →
    c = .powerOn ∨ ∃ p, c = .dormancyOn p ∨ c = .dormancyOff p)
  ∧ (∀ (c : Instr) (s t : State), exec c s = .next t →
    (s.axt.train = none → t.axt.train ≠ none → ∃ w time, c = .wheelSensorEdge w time)
    ∧ (s.axt.train ≠ none → t.axt.train = none →
      c = .clearTimerExpiry ∨ c = .standTimerExpiry ∨ c = .powerOn ∨ ∃ p, c = .restart p))

/-! ## Message ports -/

/-- A frame as the part writes it on the line (11.7), received from HUNT, is found good, with the receiver back in HUNT
and no bad frame counted. -/
def Obligations.WireFrameIsFoundGood : Prop :=
  ∀ f : OutFrame, f.payload.length ≤ 248 →
    Receiver.hunt.feed f.wire = { receiver := .hunt, bad := 0, frames := [f.kind :: f.tag :: f.payload] }

/-- Bytes received in two pieces are received as they are in one: the same receiver state, the same bad frames, the same
good frames in the same order.

From HUNT a byte that is no sync is passed by. A frame whose length is outside 2..250, or whose check value differs from that of
its bytes, is counted bad, and the bytes after its sync are examined again.

The check value takes the bits of its bytes, most significant first, into a register of 16 ones: a bit that differs from the
register's top bit shifts it and subtracts x^16 + x^12 + x^5 + 1, one that equals it shifts it. Nothing is inverted at the end. -/
def Obligations.ReceivingInPiecesAgrees : Prop :=
  (∀ (rx : Receiver) (a b : List Byte),
    rx.feed (a ++ b) =
      { receiver := ((rx.feed a).receiver.feed b).receiver
        bad := (rx.feed a).bad + ((rx.feed a).receiver.feed b).bad
        frames := (rx.feed a).frames ++ ((rx.feed a).receiver.feed b).frames })
  ∧ (∀ (b len hi lo : Byte) (body rest : List Byte),
    let idle : Receiver := .hunt
    let bad (bytes : List Byte) : Received :=
      { receiver := (idle.feed bytes).receiver, bad := (idle.feed bytes).bad + 1, frames := (idle.feed bytes).frames }
    (b ≠ 0xC3 → idle.feed (b :: rest) = idle.feed rest)
    ∧ (len.toNat < 2 ∨ 250 < len.toNat → idle.feed (0xC3 :: len :: rest) = bad (len :: rest))
    ∧ (2 ≤ len.toNat → len.toNat ≤ 250 → body.length = len.toNat → crc (len :: body) ≠ hi ++ lo →
      idle.feed (0xC3 :: len :: (body ++ hi :: lo :: rest)) = bad (len :: (body ++ hi :: lo :: rest))))
  ∧ (∀ bytes : List Byte,
    let bits := bytes.flatMap fun b => [b[7], b[6], b[5], b[4], b[3], b[2], b[1], b[0]]
    let generator : BitVec 16 := BitVec.ofNat 16 (2 ^ 12 + 2 ^ 5 + 1)
    crc bytes = bits.foldl (fun (register : BitVec 16) (bit : Bool) =>
      if register.msb = bit then register <<< 1 else (register <<< 1) ^^^ generator) (BitVec.allOnes 16))

/-- FRAME_RECEIVED with a whole frame on a port in HUNT that runs no stream: the request joins the tail of a queue of
fewer than 2 and is discarded and counted at a full one. During a break the bytes are ignored.

A good frame on a port whose stream runs ends the stream INTERRUPTED with its STREAM END notice; the request then joins a
queue of fewer than 2 and is discarded and counted at a full one, as on a port that runs none.

Bytes that complete no good frame leave the request queue and a running stream alone; the bad frames among them are counted, up to
65535. -/
def Obligations.ReceivedFrameIsQueued : Prop :=
  (∀ (p : Port) (t : Nat) (f : OutFrame) (s : State), f.payload.length ≤ 248 →
    let pm := s.mpc.ports.get p
    (pm.broken = true → exec (.frameReceived p t f.wire) s = .next { s with now := max s.now t })
    ∧ (pm.broken = false → pm.receiver = .hunt → pm.stream = none → pm.bad ≤ 65535 →
      exec (.frameReceived p t f.wire) s = .next (({ s with now := max s.now t } : State).withPort p
        (if pm.requests.length < 2 then
          { pm with requests := pm.requests ++ [{ kind := f.kind, tag := f.tag, payload := f.payload, served := false }] }
        else { pm with overflow := min (pm.overflow + 1) 65535 }))))
  ∧ (∀ (p : Port) (t : Nat) (f : OutFrame) (st : StreamState) (s : State), f.payload.length ≤ 248 →
    let pm := s.mpc.ports.get p
    pm.Room 1 → pm.receiver = .hunt → pm.stream = some st → pm.bad ≤ 65535 →
      let ended : PortMachine := { pm.sends [streamEndFrame st 1] with stream := none }
      exec (.frameReceived p t f.wire) s = .next (({ s with now := max s.now t } : State).withPort p
        (if pm.requests.length < 2 then
          { ended with requests := pm.requests ++ [{ kind := f.kind, tag := f.tag, payload := f.payload, served := false }] }
        else { ended with overflow := min (pm.overflow + 1) 65535 })))
  ∧ (∀ (p : Port) (t : Nat) (bytes : List Byte) (s : State),
    let pm := s.mpc.ports.get p
    let got := pm.receiver.feed bytes
    pm.broken = false → got.frames = [] → exec (.frameReceived p t bytes) s = .next (({ s with now := max s.now t } : State).withPort p
      { pm with receiver := got.receiver, bad := min (pm.bad + got.bad) 65535 }))

/-- A notice made for a port is lost and counted during a break and beside 16 waiting notices; otherwise it is sent
behind what the port has made, with tag 0. (That the frame being sent is not among the 16, so that a broken or crowded port
leaves no frame of the notice, is the model's choice, assumption 5.)

PORT_FRAMING_READY sends its port the SITE STATE notice of R2, once after power-on: OFFLINE, no previous state, cause
POWER_ON. (A second PORT_FRAMING_READY does nothing: the model's choice, assumption 10.) -/
def Obligations.NoticesNeedRoom : Prop :=
  (∀ (kind : Byte) (payload : List Byte) (pm : PortMachine), pm.Orderly →
    pm.notice kind payload =
      if pm.broken = true ∨ 16 ≤ pm.waitingNotices then { pm with noticeLoss := min (pm.noticeLoss + 1) 65535 }
      else pm.sends [{ kind := kind, tag := 0, payload := payload, cls := .notice }])
  ∧ (∀ (p : Port) (s : State), (s.mpc.ports.get p).Room 1 →
    exec (.portFramingReady p) s = .next (
      if (s.mpc.ports.get p).ready = true then s
      else s.withPort p { (s.mpc.ports.get p).sends
          [noticeFrame 0x40 ([0, 0, 0] ++ flag s.ssq.disablePending ++ u32 s.ssq.clock.toNat)] with ready := true }))

/-- OUTPUT_FRAME_SENT: the frame being sent has left, the oldest waiting frame begins to leave, and the request whose
reply has left in full leaves the queue. With nothing being sent nothing changes. (That the frame being sent is no part of the
output queue is the model's choice, assumption 5; so is the last clause, assumption 2.) -/
def Obligations.OutputFrameSentMovesQueue : Prop :=
  ∀ (p : Port) (s : State),
    let pm := s.mpc.ports.get p
    (∀ f, pm.leaving = some f → ∃ u, exec (.outputFrameSent p) s = .next u
      ∧ u = s.withPort p { pm with requests := (u.mpc.ports.get p).requests, leaving := pm.waiting.head?,
                                   waiting := pm.waiting.tail }
      ∧ (f.cls = .reply true → (u.mpc.ports.get p).requests = pm.requests.tail)
      ∧ (f.cls ≠ .reply true → (u.mpc.ports.get p).requests = pm.requests))
    ∧ (pm.leaving = none → exec (.outputFrameSent p) s = .next s)

/-- STREAM_PAGE of a running stream whose port has nothing waiting: one frame of kind 0x8D with the stream's tag, the slot and
the page number is made; page 0 is the header, then one page per axle record, then up to 10 vehicle records a page; after the
last page the stream ends COMPLETE with its notice. (That a page is made while a frame is still leaving is the model's choice,
assumption 5; so is the byte that counts the vehicle records of a page, assumption 6.)

The header's bytes are its fields in the order of R153, the detail of an axle its sixteen crib places, two gate records and two
bearing results, and a vehicle's bytes its fields in the order of R156, each with its flags as one number. (An axle's summary is
in ReadsReturnWhatStands. Sum and count side by side, and the form's numbers, are the model's choices, assumption 6.) -/
def Obligations.StreamPageMakesNextPage : Prop :=
  (∀ (p : Port) (s : State) (st : StreamState) (h : HeldSlot) (body : List Byte),
    let pm := s.mpc.ports.get p
    let last := h.report.axles.length + (h.report.vehicles.length + 9) / 10
    pm.Room 1 → pm.waiting = [] → pm.stream = some st → s.rps.slots[st.slot] = some h →
    (st.nextPage = 0 → body = h.report.header.bytes) →
    (∀ x, 1 ≤ st.nextPage → h.report.axles[st.nextPage - 1]? = some x → body = x.summary ++ x.detail) →
    (h.report.axles.length < st.nextPage → body =
      counted VehicleRecord.bytes ((h.report.vehicles.drop (10 * (st.nextPage - 1 - h.report.axles.length))).take 10)) →
    let page : OutFrame := { kind := 0x8D, tag := st.tag, payload := u8 st.slot.val ++ u16 st.nextPage ++ body, cls := .page }
    exec (.streamPage p) s = .next (s.withPort p (
      if st.nextPage < last then { pm.sends [page] with stream := some { st with nextPage := st.nextPage + 1 } }
      else { pm.sends [page, noticeFrame 0x44 (u8 st.slot.val ++ u16 st.number ++ [0] ++ u16 (st.nextPage + 1))] with
        stream := none })))
  ∧ (∀ h : Header,
    let bit (b : Bool) (weight : Nat) : Nat := if b = true then weight else 0
    let f := h.flags
    h.bytes = u16 h.number ++ u8 h.slot.val ++ u8 (match h.d0 with | .east => 0 | .west => 1)
      ++ u8 (match h.entry with | .west => 0 | .east => 1) ++ u32 h.startTime.toNat ++ opt (fun t : Clock => u32 t.toNat) h.endTime
      ++ opt (fun c : ClosureKind => u8 (match c with | .completePass => 0 | .withdrawn => 1 | .standing => 2)) h.closure
      ++ u16 (bit f.noApproach 1 + bit f.continuation 2 + bit f.calAborted 4 + bit f.haltedOnSite 8 + bit f.reversed 16
        + bit f.directionConflict 32 + bit f.countConflict 64 + bit f.axleOverflow 128 + bit f.vehicleOverflow 256
        + bit f.staleChannels 512 + bit f.aborted 1024)
      ++ u16 h.h ++ u16 h.recorded ++ u16 h.vehicles ++ opt u16 h.minSpeed ++ opt u16 h.maxSpeed
      ++ i32 h.thermalSum.a ++ u16 h.thermalCount.a ++ i32 h.thermalSum.b ++ u16 h.thermalCount.b
      ++ u16 h.wheelPeaks.normal ++ u16 h.wheelPeaks.watch ++ u16 h.wheelPeaks.alert ++ u16 h.wheelPeaks.critical
      ++ u16 h.bearingPeaks.normal ++ u16 h.bearingPeaks.warm ++ u16 h.bearingPeaks.hot
      ++ u16 h.dropped ++ u16 h.staleChannels.toNat)
  ∧ (∀ x : AxleRecord,
    let bit (b : Bool) (weight : Nat) : Nat := if b = true then weight else 0
    let crib (c : CribRecord) : List Byte :=
      opt u16 c.plateau ++ u16 c.peak ++ u16 c.speed ++ u8 (match c.dir with | .east => 0 | .west => 1)
      ++ u8 (bit c.stale 1 + bit c.truncated 2 + bit c.gapped 4 + bit c.reversed 8 + bit c.saturated 16 + bit c.defaultCal 32)
    let gate (g : GateRecord) : List Byte :=
      opt i16 g.peak ++ u16 g.count ++ opt i16 g.ambient
      ++ u8 (bit g.gapped 1 + bit g.truncated 2 + bit g.calAged 4 + bit g.calNone 8)
    let bearing (r : BearingResult) : List Byte :=
      u8 (match r.quality with | .incomplete => 0 | .degraded => 1 | .full => 2)
      ++ opt i16 r.peak ++ opt i16 r.ambient ++ opt i16 r.rise ++ opt i16 r.mdiff ++ opt i16 r.rel
      ++ u8 (match r.level with | .absent => 0 | .normal => 1 | .warm => 2 | .hot => 3)
    x.detail = x.cribs.a.places.toList.flatMap (opt crib) ++ x.cribs.b.places.toList.flatMap (opt crib)
      ++ opt gate x.gates.a ++ opt gate x.gates.b ++ opt bearing x.bearings.a ++ opt bearing x.bearings.b)
  ∧ (∀ v : VehicleRecord,
    v.bytes = u8 v.index ++ u16 v.first ++ u16 v.count
      ++ opt (fun f : Form => u8 (match f with | .two => 0 | .four => 1 | .six => 2 | .unclassified => 3)) v.form
      ++ u8 (if v.isOpen = true then 0 else 1) ++ opt u32 v.gross ++ opt u8 v.endImbalance
      ++ u8 (match v.worstWheel with | .absent => 0 | .normal => 1 | .watch => 2 | .alert => 3 | .critical => 4)
      ++ u8 (match v.worstBearing with | .absent => 0 | .normal => 1 | .warm => 2 | .hot => 3)
      ++ opt (fun q : Quality => u8 (match q with | .incomplete => 0 | .degraded => 1 | .full => 2)) v.quality
      ++ flag v.endMark ++ flag v.dirty)

/-- LINE_BREAK on a port with no break standing: receiver in HUNT, request queue and output queue cleared, the frame being sent
abandoned, the stream ended without a notice, the break counted. A break that stands already changes nothing (the model's
choice, assumption 2: R178 speaks of the start of a break). Its end, LINE_BREAK_END, lets the port receive and send again.
Nothing outside the port changes. -/
def Obligations.LineBreakClearsItsPort : Prop :=
  ∀ (p : Port) (s : State),
    let pm := s.mpc.ports.get p
    (pm.broken = false → exec (.lineBreak p) s = .next (s.withPort p
      { receiver := .hunt, requests := [], leaving := none, waiting := [], stream := none, bad := pm.bad,
        overflow := pm.overflow, noticeLoss := pm.noticeLoss, lineBreaks := min (pm.lineBreaks + 1) 65535,
        broken := true, ready := pm.ready }))
    ∧ (pm.broken = true → exec (.lineBreak p) s = .next s)
    ∧ exec (.lineBreakEnd p) s = .next (s.withPort p { pm with broken := false })

/-! ## Requests -/

/-- A request of no request kind is answered by a frame of kind 0xFF with its tag, the outcome BAD_KIND and the refused
kind; nothing else changes.

A request of a length its kind does not allow is answered BAD_LENGTH by every row that serves its kind; so are a CONFIG SET
whose value has not the width of its item and a CALIBRATION SET whose form byte and length disagree; nothing else changes, and
a running stream runs on. (The lengths of CONFIG SET and CALIBRATION SET with these two cases, and the row that answers a
malformed SITE CONTROL, are the model's choices, assumptions 6 and 8.)

A request that names an action, item, channel, slot, level or count outside its range is answered OUT_OF_RANGE;
nothing else changes, and a running stream runs on. (ANY as level 4, an AXLES READ detail byte other than 0 and 1, a calibration
form byte other than 0 and 1, and the row that answers an unknown action, are the model's choices, assumptions 6 and 8.)

TRAIN HEADER, AXLES READ, VEHICLES READ and TRAIN STREAM of a FREE slot, TRAIN STREAM of a slot that is neither
COMPLETE nor RELEASED, and TRAIN RELEASE of a slot that is not COMPLETE, are answered WRONG_STATE; a first axle or first
vehicle beyond the records of a held slot is answered OUT_OF_RANGE. Nothing else changes. (A TRAIN STREAM that is answered
WRONG_STATE while a stream runs is in StreamAndReleaseOfFinishedSlots; here its port runs none.) -/
def Obligations.RefusedRequestsChangeNothing : Prop :=
  (∀ (p : Port) (s : State) (r : QueuedRequest) (kind : Byte) (payload : List Byte), s.Asks p r kind payload →
    (kind.toNat = 0 ∨ 16 < kind.toNat) →
    exec (.badKind p) s = .next (s.withPort p ((s.mpc.ports.get p).answered
      [{ kind := 0xFF, tag := r.tag, payload := [0, kind], cls := .reply true }])))
  ∧ (∀ (p : Port) (s : State) (r : QueuedRequest) (kind : Byte) (payload : List Byte) (c : Instr),
    s.Asks p r kind payload → c ∈ rowsOf p kind.toNat → payload.length ∉ lengthsOf kind.toNat ∨ wrongForm kind.toNat payload →
    exec c s = .next (s.withPort p ((s.mpc.ports.get p).answered [replyFrame r 1 []])))
  ∧ (∀ (p : Port) (s : State) (r : QueuedRequest) (kind : Byte) (payload : List Byte) (c : Instr),
    s.Asks p r kind payload → c ∈ rowsOf p kind.toNat → namesOutside kind.toNat payload →
    exec c s = .next (s.withPort p ((s.mpc.ports.get p).answered [replyFrame r 2 []])))
  ∧ (∀ (p : Port) (s : State) (r : QueuedRequest) (k : Fin 4) (hi lo n d : Byte),
    let answers (c : Instr) (o : Byte) :=
      exec c s = .next (s.withPort p ((s.mpc.ports.get p).answered [replyFrame r o []]))
    let slot : Byte := BitVec.ofNat 8 k.val
    (s.rps.slots[k] = none →
      (s.Asks p r 0x0A [slot] → answers (.trainHeader p) 11)
      ∧ (s.Asks p r 0x0B [slot, hi, lo, n, d] → 1 ≤ n.toNat → n.toNat ≤ 8 → d.toNat ≤ 1 → answers (.axlesRead p) 11)
      ∧ (s.Asks p r 0x0C [slot, lo, n] → 1 ≤ n.toNat → n.toNat ≤ 16 → answers (.vehiclesRead p) 11)
      ∧ (s.Asks p r 0x0D [slot] → (s.mpc.ports.get p).stream = none → answers (.trainStream p) 11)
      ∧ (s.Asks p r 0x0E [slot] → answers (.trainRelease p) 11))
    ∧ (∀ h, s.rps.slots[k] = some h →
      (s.Asks p r 0x0D [slot] → (s.mpc.ports.get p).stream = none → h.st = .filling ∨ h.st = .closing →
        answers (.trainStream p) 11)
      ∧ (s.Asks p r 0x0E [slot] → h.st ≠ .complete → answers (.trainRelease p) 11)
      ∧ (s.Asks p r 0x0B [slot, hi, lo, n, d] → 1 ≤ n.toNat → n.toNat ≤ 8 → d.toNat ≤ 1 →
        h.report.axles.length ≤ hi.toNat * 256 + lo.toNat → answers (.axlesRead p) 2)
      ∧ (s.Asks p r 0x0C [slot, lo, n] → 1 ≤ n.toNat → n.toNat ≤ 16 → h.report.vehicles.length ≤ lo.toNat →
        answers (.vehiclesRead p) 2)))

/-- A row whose request is not the oldest unserved one of its port leaves the state as it is: a row of another kind, a SITE
CONTROL row of another action, BAD_KIND before a request kind (the model's choice, assumption 2). -/
def Obligations.RowsServeOnlyTheirOwnRequests : Prop :=
  ∀ (p : Port) (s : State),
    (∀ (kind : Nat) (c : Instr), c ∈ rowsOf p kind →
      (∀ r, (s.mpc.ports.get p).head = some r → r.kind.toNat ≠ kind) → exec c s = .next s)
    ∧ (∀ (r : QueuedRequest) (a action : Byte) (c : Instr), s.Asks p r 0x03 [a] → a.toNat ≤ 4 → a ≠ action →
      (action, c) ∈ [((0 : Byte), Instr.enable p), (1, .disable p), (2, .dormancyOn p), (3, .dormancyOff p), (4, .restart p)] →
      exec c s = .next s)
    ∧ ((∀ r, (s.mpc.ports.get p).head = some r → 1 ≤ r.kind.toNat ∧ r.kind.toNat ≤ 16) → exec (.badKind p) s = .next s)

/-- STATUS is answered by frames that together carry, after their outcome bytes, the values standing at that moment in the
order of 11.3; the continuation mark stands in every frame but the last; nothing else changes. (The cut into frames and
the bytes of the values are the model's choices, assumptions 6 and 7.) -/
def Obligations.StatusCarriesStandingValues : Prop :=
  ∀ (p : Port) (s : State) (r : QueuedRequest), s.Asks p r 0x01 [] →
    let sum (f : CaptureUnit → Nat) : List Byte := u16 (min (s.units.toList.map f).sum 65535)
    let lane (l : Lane) : Byte := match l with | .a => 0 | .b => 1 | .thermal => 2 | .vehicle => 3
    let lanes : List Lane := [.a, .b, .thermal, .vehicle]
    let tracker : List Byte :=
      opt (fun t : OpenTrain => u16 t.n ++ u16 t.h ++ u16 t.x
        ++ [match t.motion with | .movingFwd => 0 | .movingRev => 1 | .halted => 2] ++ u16 t.speed
        ++ [match t.d0 with | .east => 0 | .west => 1]) s.axt.train
      ++ u16 s.axt.pairs.west.halfCrossings ++ u16 s.axt.pairs.east.halfCrossings ++ u16 s.axt.stray ++ u16 s.axt.unenteredExit
      ++ u16 s.axt.pointerClamp ++ flag s.axt.continuation
    let segmenter : List Byte :=
      opt u16 (if s.vsg.vehicles = [] then none else some (s.vsg.vehicles.length - 1)) ++ u16 s.vsg.vehicles.length
      ++ u8 s.vsg.history.length ++ u16 s.vsg.deficit
    let gauge : List Byte :=
      u8 ((List.finRange 16).countP s.stale)
      ++ s.nodes.toList.map (fun n => match n.status with | .off => (0 : Byte) | .settling => 1 | .present => 2 | .lost => 3)
      ++ opt (fun _ : OpenTrain => s.units.toList.flatMap fun x => u16 x.pointer) s.axt.train
      ++ u8 (s.units.toList.countP fun x => x.capture.isSome) ++ sum (·.orphan) ++ sum (·.noise) ++ sum (·.undone)
      ++ sum (·.unrecorded)
    let engine : List Byte :=
      lanes.flatMap (fun l => u8 (s.evu.lanes.get l).length)
      ++ lanes.flatMap (fun l => u16 (s.evu.dropped.get l) ++ u16 (s.evu.discarded.get l))
      ++ s.evu.lrg.map lane ++ flag s.evu.urgentMark
      ++ s.evu.evals.toList.flatMap (opt fun e : Evaluation => lane e.req.lane :: (u8 e.req.slot.val ++ u16 e.req.target))
      ++ (match s.evu.sweepQueue with
        | [] => [0, 0, 0]
        | k :: rest => [1, BitVec.ofNat 8 k.val, BitVec.ofNat 8 rest.length] ++ rest.map (fun j => BitVec.ofNat 8 j.val) ++ [1]
          ++ (match s.evu.sweepPos with
            | .axle i .railA => 0 :: u16 i
            | .axle i .railB => 1 :: u16 i
            | .axle i .gate => 2 :: u16 i
            | .vehicle j => 3 :: u16 j)
          ++ flag s.evu.sweepWaiting ++ flag s.evu.rewalk)
    let scanner (x : Side) : List Byte :=
      let y := s.tsu.scanners.get x
      [match y.status with | .off => 0 | .present => 1 | .lost => 2] ++ u16 y.bad ++ u16 y.duplicate ++ u16 y.missing
      ++ u16 y.losses ++ [match y.calState with | .none => 0 | .valid => 1 | .failed => 2] ++ opt u16 (y.ref.map (·.sRef))
      ++ opt i16 (y.ref.map (·.tRef)) ++ opt u32 (y.ref.map (·.time.toNat)) ++ opt u32 (y.ref.map fun _ => y.age s.now)
      ++ flag (s.scannerAged x) ++ [match y.progress with | .idle => 0 | .waiting => 1 | .accumulating => 2]
      ++ flag y.shutterClosed ++ opt i16 (y.ambient.map (· / 64))
    let thermal : List Byte :=
      scanner .a ++ scanner .b ++ opt (fun _ : OpenTrain => u16 s.tsu.pointer) s.axt.train ++ flag s.tsu.pair.isSome
      ++ u16 s.tsu.gateOrphan ++ u16 s.tsu.gateUndone ++ u16 s.tsu.calSkip
    let slot (x : Option HeldSlot) : List Byte := match x with
      | none => [0, 0]
      | some h => [match h.st with | .filling => 1 | .closing => 2 | .complete => 3 | .released => 4, 1]
        ++ u16 h.report.header.number
    let port (pm : PortMachine) : List Byte :=
      u16 pm.bad ++ u16 pm.overflow ++ u16 pm.noticeLoss ++ u16 pm.lineBreaks ++ flag pm.stream.isSome
    ∃ fs : List OutFrame, exec (.status p) s = .next (s.withPort p ((s.mpc.ports.get p).answered fs))
      ∧ (∀ f ∈ fs, f.kind = 0x81 ∧ f.tag = r.tag)
      ∧ fs.map (fun f => (f.cls, f.payload.head?)) =
        List.replicate (fs.length - 1) (.reply false, some 131) ++ [(.reply true, some 3)]
      ∧ fs.flatMap (fun f => f.payload.drop 1) =
        u8 s.ssq.site.code ++ flag s.ssq.dormancy ++ flag s.ssq.disablePending ++ flag s.ssq.latch
          ++ flag s.ssq.streaming ++ u16 s.ssq.falseApproach ++ u32 s.ssq.clock.toNat
          ++ tracker ++ segmenter ++ gauge ++ engine ++ thermal
          ++ s.rps.slots.toList.flatMap slot ++ u16 s.rps.droppedWrites
          ++ ([AlertLevel.notice, .watch, .alert, .critical].flatMap fun l =>
            u8 (s.atq.queues.get l).length ++ u16 (s.atq.lost.get l))
          ++ port s.mpc.ports.s ++ port s.mpc.ports.m

/-- CONFIG GET, CALIBRATION GET, CHANNEL STATE, ALERT COUNT and TRAIN LIST are answered DONE with what they ask for, as it
stands, and change nothing else. (Byte orders are assumption 6.)

TRAIN HEADER, AXLES READ and VEHICLES READ of a held slot return its header, at most 8 of its axle records from the first named
on (one frame per axle with detail), and at most 16 of its vehicle records (at most 10 in a frame), as they stand; nothing else
changes. (The count byte before records is assumption 6.)

The axle summary entry is the 25 bytes that 11.7 lays out. A TRAIN LIST entry is the slot's number and state and, for a slot
that is not FREE, its train number, closure kind and ABORTED flag (one presence byte before the three: assumption 6). The other
records' bytes are in StreamPageMakesNextPage. -/
def Obligations.ReadsReturnWhatStands : Prop :=
  (∀ (p : Port) (s : State) (r : QueuedRequest),
    let done (c : Instr) (body : List Byte) :=
      exec c s = .next (s.withPort p ((s.mpc.ports.get p).answered [replyFrame r 3 body]))
    (∀ it : Item, s.Asks p r 0x05 [BitVec.ofNat 8 it.number] → done (.configGet p)
      (u8 it.number ++ u8 (if it = .maskS ∨ it = .maskM then 1 else 0) ++ it.bytes (s.cfg it)
        ++ opt it.bytes (s.mpc.pendingCfg[it.idx])))
    ∧ (∀ k : Fin 16, s.Asks p r 0x07 [BitVec.ofNat 8 k.val] → done (.calibrationGet p)
      ((s.channels[k]).cal.bytes ++ opt CalRecord.bytes (s.channels[k]).pendingCal))
    ∧ (∀ k : Fin 16, s.Asks p r 0x08 [BitVec.ofNat 8 k.val] → done (.channelState p)
      (u8 k.val ++ u8 (k.val / 8) ++ u8 (k.val % 8) ++ flag (s.channels[k]).z.isSome ++ opt i32 (s.channels[k]).z
        ++ u32 (s.baselineAge k) ++ flag (s.stale k) ++ flag (s.clear k) ++ flag (s.units[k]).capture.isSome
        ++ flag (s.channels[k]).cal.isSet ++ flag (s.channels[k]).pendingCal.isSome ++ u8 (k.val / 4)
        ++ u8 (s.nodes[channelNode k]).status.code ++ u16 (s.nodes[channelNode k]).settle
        ++ u16 (s.nodes[channelNode k]).bad ++ u16 (s.nodes[channelNode k]).duplicate
        ++ u16 (s.nodes[channelNode k]).missing ++ u16 (s.nodes[channelNode k]).losses))
    ∧ (s.Asks p r 0x10 [] → done (.alertCount p)
      (([AlertLevel.notice, .watch, .alert, .critical].flatMap fun l =>
        u8 (s.atq.queues.get l).length ++ u16 (s.atq.lost.get l)) ++ u16 s.atq.number))
    ∧ (s.Asks p r 0x09 [] → done (.trainList p)
      ((s.rps.order ++ ([0, 1, 2, 3] : List (Fin 4)).filter (fun k => !s.rps.order.contains k)).flatMap s.listEntry)))
  ∧ (∀ (p : Port) (s : State) (r : QueuedRequest) (k : Fin 4) (h : HeldSlot) (hi lo n : Byte),
    s.rps.slots[k] = some h →
    let slot : Byte := BitVec.ofNat 8 k.val
    let answers (c : Instr) (fs : List OutFrame) := exec c s = .next (s.withPort p ((s.mpc.ports.get p).answered fs))
    let more (body : List Byte) : OutFrame :=
      { kind := r.kind + 0x80, tag := r.tag, payload := 131 :: body, cls := .reply false }
    let xs := (h.report.axles.drop (hi.toNat * 256 + lo.toNat)).take n.toNat
    let vs := (h.report.vehicles.drop lo.toNat).take n.toNat
    let detailed (x : AxleRecord) : List Byte := 1 :: (x.summary ++ x.detail)
    (s.Asks p r 0x0A [slot] → answers (.trainHeader p) [replyFrame r 3 h.report.header.bytes])
    ∧ (1 ≤ n.toNat → n.toNat ≤ 8 → hi.toNat * 256 + lo.toNat < h.report.axles.length →
      (s.Asks p r 0x0B [slot, hi, lo, n, 0] →
        answers (.axlesRead p) [replyFrame r 3 (u8 xs.length ++ xs.flatMap AxleRecord.summary)])
      ∧ (s.Asks p r 0x0B [slot, hi, lo, n, 1] → answers (.axlesRead p)
        (xs.dropLast.map (fun x => more (detailed x)) ++ xs.getLast?.toList.map (fun x => replyFrame r 3 (detailed x)))))
    ∧ (1 ≤ n.toNat → n.toNat ≤ 16 → lo.toNat < h.report.vehicles.length → s.Asks p r 0x0C [slot, lo, n] →
      answers (.vehiclesRead p)
        (if vs.length ≤ 10 then [replyFrame r 3 (u8 vs.length ++ vs.flatMap VehicleRecord.bytes)]
         else [more (10 :: (vs.take 10).flatMap VehicleRecord.bytes),
               replyFrame r 3 (u8 (vs.length - 10) ++ (vs.drop 10).flatMap VehicleRecord.bytes)])))
  ∧ (∀ x : AxleRecord,
    let field (offset n : Nat) : Nat := bytesField x.summary offset n
    let graded (q : Option Quality) (l : ResultLevel) : Nat :=
      16 * (match q with | none => 0 | some .incomplete => 1 | some .degraded => 2 | some .full => 3)
      + (match l with | .absent => 0 | .normal => 1 | .watch => 2 | .alert => 3 | .critical => 4)
    let wheel (r : Option WheelResult) : Nat := match r with | none => 0 | some y => graded (some y.quality) y.level
    let load (r : Option WheelResult) : Nat := match r with | none => 0 | some y => y.w.getD 0
    let bit (b : Bool) (weight : Nat) : Nat := if b = true then weight else 0
    x.summary.length = 25
    ∧ field 0 2 = x.index % 65536 ∧ field 2 4 = x.entryTime.toNat ∧ field 6 2 = x.entrySpeed % 65536
    ∧ field 8 2 = (match x.spacing with | none => 0 | some (mm, _) => mm % 65536)
    ∧ field 10 1 = (match x.spacing with
      | none => 0 | some (_, .short) => 1 | some (_, .mid) => 2 | some (_, .long) => 3 | some (_, .unknown) => 4)
    ∧ field 11 1 = (x.vehicle.getD 0) % 256 ∧ field 12 1 = x.pass % 256
    ∧ field 13 1 = bit x.vehicle.isSome 1 + bit x.cribs.a.dirty 2 + bit x.cribs.b.dirty 4 + bit x.gateDirty 8
    ∧ field 14 2 = load x.wheels.a % 65536 ∧ field 16 2 = load x.wheels.b % 65536
    ∧ field 18 1 = wheel x.wheels.a ∧ field 19 1 = wheel x.wheels.b
    ∧ field 20 2 = (match x.results with | none => 0 | some y => y.load % 65536)
    ∧ field 22 1 = (match x.results with | none => 0 | some y => y.imbalance % 256)
    ∧ field 23 1 = graded (x.results.map (·.quality)) x.peakWheel
    ∧ field 24 1 = (match x.peakBearing with | .absent => 0 | .normal => 1 | .warm => 2 | .hot => 3))
  ∧ (∀ (s : State) (k : Fin 4), s.listEntry k = BitVec.ofNat 8 k.val :: (match s.rps.slots[k] with
    | none => u8 0 ++ u8 0
    | some h => u8 (match h.st with | .filling => 1 | .closing => 2 | .complete => 3 | .released => 4) ++ u8 1
      ++ u16 h.report.header.number
      ++ opt (fun c : ClosureKind => u8 (match c with | .completePass => 0 | .withdrawn => 1 | .standing => 2)) h.report.header.closure
      ++ u8 (if h.report.header.flags.aborted = true then 1 else 0)))

/-- CONFIG SET of a numeric item: a value outside the item's range is taken at the nearer limit with the clamped mark; a
value that breaks one of the five pairs, each partner at its future value, is refused with CONFLICT and nothing changes;
otherwise it becomes active at once (NOW) while the settle point holds and pending (DEFERRED) at any other time. (The width of
the value and the reply's body, clamped mark and value on every outcome, are the model's choices, assumption 6.) -/
def Obligations.ConfigSetClampsTestsAndApplies : Prop :=
  ∀ (p : Port) (s : State) (r : QueuedRequest) (it : Item) (given : Nat),
    it ≠ .approachMode → it ≠ .maskS → it ≠ .maskM → given < 256 ^ it.width →
    s.Asks p r 0x04 (u8 it.number ++ it.bytes given) → PairsOrdered s.futureCfg →
    let taken := if given < it.lo then it.lo else if it.hi < given then it.hi else given
    let future (j : Item) := if j = it then taken else s.futureCfg j
    let body := flag (decide (given ≠ taken)) ++ it.bytes taken
    let answered (o : Byte) (u : State) := u.withPort p ((s.mpc.ports.get p).answered [replyFrame r o body])
    (¬ PairsOrdered future → exec (.configSet p) s = .next (answered 12 s))
    ∧ (PairsOrdered future → s.settleHolds = true → exec (.configSet p) s =
      .next (answered 6 { s with mpc := { s.mpc with active := s.mpc.active.set it.idx taken } }))
    ∧ (PairsOrdered future → s.settleHolds = false → exec (.configSet p) s =
      .next (answered 7 { s with mpc := { s.mpc with pendingCfg := s.mpc.pendingCfg.set it.idx (some taken) } }))

/-- CONFIG SET of the approach mode: a value other than PULSE and LEVEL is refused; away from the settle point the value is
held pending; at the settle point it is active at once, and LEVEL with the input active takes a site in PATROL or DORMANT
to ARMED with the latch set, announced behind the reply and on the other port; the site's other timers stop, the streams resume
from DORMANT, and the calibration call is made.

CONFIG SET of an alert mask is applied when taken, in any site state; a value naming another level is refused. Each
level the new mask adds whose queue is not empty is announced to the mask's port alone, CRITICAL first, behind the
reply. (The width of the value and the reply's body are the model's choices, assumption 6.) -/
def Obligations.ConfigSetOfModesAndMasks : Prop :=
  (∀ (p : Port) (s : State) (r : QueuedRequest) (v : Byte), s.Asks p r 0x04 [1, v] →
    let answered (o : Byte) (body : List Byte) (u : State) :=
      u.withPort p ((s.mpc.ports.get p).answered [replyFrame r o body])
    let set : State := { s with mpc := { s.mpc with active := s.mpc.active.set Item.approachMode.idx v.toNat } }
    (1 < v.toNat → exec (.configSet p) s = .next (answered 2 [] s))
    ∧ (v.toNat ≤ 1 → s.settleHolds = false → exec (.configSet p) s = .next (answered 7 [0, v]
      { s with mpc := { s.mpc with pendingCfg := s.mpc.pendingCfg.set Item.approachMode.idx (some v.toNat) } }))
    ∧ (v.toNat ≤ 1 → s.settleHolds = true → v = 0 ∨ s.ssq.approachInput = false ∨ s.ssq.site = .offline →
      exec (.configSet p) s = .next (answered 6 [0, v] set))
    ∧ (v = 1 → s.settleHolds = true → s.ssq.approachInput = true → s.ssq.site ≠ .offline → s.Room 1 →
      ∃ u, exec (.configSet p) s = .next u ∧ u.ssq.site = .armed ∧ u.ssq.latch = true ∧ u.ssq.armTimer = none
        ∧ u.mpc.active = set.mpc.active ∧ u.mpc.pendingCfg = s.mpc.pendingCfg
        ∧ (u.mpc.ports.get p).outbox = (s.mpc.ports.get p).outbox ++ [replyFrame r 6 [0, v],
            siteNotice .armed s.ssq.site .approach s.ssq.disablePending s.ssq.clock]
        ∧ u.axt = s.axt ∧ u.vsg = s.vsg ∧ u.channels = s.channels ∧ u.units = s.units ∧ u.evu = s.evu ∧ u.rps = s.rps
        ∧ u.atq = s.atq
        ∧ (s.SiteOk → s.NodesOk →
          let latched : State := { set with ssq := { s.ssq with latch := true } }
          let armed : State := latched.inSite .armed
          u = (((if s.ssq.site = .dormant then armed.resumed else armed).called.replying p (replyFrame r 6 [0, v])).telling
            [siteNotice .armed s.ssq.site .approach s.ssq.disablePending s.ssq.clock]))))
  ∧ (∀ (p q : Port) (s : State) (r : QueuedRequest) (v : Byte),
    let it : Item := match q with | .s => .maskS | .m => .maskM
    s.Asks p r 0x04 [BitVec.ofNat 8 it.number, v] →
    let added := [AlertLevel.critical, .alert, .watch, .notice].filter fun l =>
      v.toNat.testBit l.code && !(s.cfg it).testBit l.code && !(s.atq.queues.get l).isEmpty
    let set := ({ s with mpc := { s.mpc with active := s.mpc.active.set it.idx v.toNat } } : State).withPort p
      ((s.mpc.ports.get p).answered [replyFrame r 6 [0, v]])
    (15 < v.toNat → exec (.configSet p) s = .next (s.withPort p ((s.mpc.ports.get p).answered [replyFrame r 2 []])))
    ∧ (v.toNat ≤ 15 → (s.mpc.ports.get q).Room 4 → exec (.configSet p) s = .next (set.withPort q
      ((set.mpc.ports.get q).sends (added.map fun l => noticeFrame 0x43 [BitVec.ofNat 8 l.code, BitVec.ofNat 8
        (s.atq.queues.get l).length])))))

/-- CALIBRATION SET of a full record: each value outside its range is clamped and marked; break points out of order are
refused with CONFLICT and nothing changes; otherwise the record, SET, becomes the channel's active record at once (NOW)
while the settle point holds, and its pending record (DEFERRED) at any other time. RESTORE_DEFAULT takes the default
record in the same way. (The form byte, and the reply's body, clamped mark and record taken on NOW, DEFERRED and CONFLICT alike,
are the model's choices, assumption 6.) -/
def Obligations.CalibrationSetClampsTestsAndApplies : Prop :=
  ∀ (p : Port) (s : State) (r : QueuedRequest) (k : Fin 16) (given : CalRecord) (restore : Bool),
    given.b1 < 4294967296 → given.b2 < 4294967296 → given.b3 < 4294967296 → given.m0 < 65536 → given.m1 < 65536 →
    given.m2 < 65536 → given.m3 < 65536 →
    s.Asks p r 0x06 (BitVec.ofNat 8 k.val :: (if restore then [0] else
      1 :: (u32 given.b1 ++ u32 given.b2 ++ u32 given.b3 ++ u16 given.m0 ++ u16 given.m1 ++ u16 given.m2 ++ u16 given.m3))) →
    let limit (b : Nat) := if b < 1 then 1 else if 524287 < b then 524287 else b
    let taken : CalRecord :=
      if restore then CalRecord.default
      else { given with b1 := limit given.b1, b2 := limit given.b2, b3 := limit given.b3, isSet := true }
    let clamped := !restore && (given.b1 != taken.b1 || given.b2 != taken.b2 || given.b3 != taken.b3)
    let answered (o : Byte) (u : State) :=
      u.withPort p ((s.mpc.ports.get p).answered [replyFrame r o (flag clamped ++ taken.bytes)])
    (¬ (taken.b1 < taken.b2 ∧ taken.b2 < taken.b3) → exec (.calibrationSet p) s = .next (answered 12 s))
    ∧ (taken.b1 < taken.b2 → taken.b2 < taken.b3 → s.settleHolds = true → exec (.calibrationSet p) s = .next (answered 6
      { s with channels := s.channels.set k { s.channels[k] with cal := taken } }))
    ∧ (taken.b1 < taken.b2 → taken.b2 < taken.b3 → s.settleHolds = false → exec (.calibrationSet p) s = .next (answered 7
      { s with channels := s.channels.set k { s.channels[k] with pendingCal := some taken } }))

/-- TRAIN STREAM of a COMPLETE or RELEASED slot is ACCEPTED with the slot, train number, recorded axles and vehicles, and
the stream runs from page 0 with the request's tag. TRAIN RELEASE of a COMPLETE slot makes it RELEASED, its report kept.
Nothing else changes.

A TRAIN STREAM of a slot in range, served while a stream runs that began after its arrival, ends that stream INTERRUPTED first,
be it answered ACCEPTED or WRONG_STATE: it acts as on a port that has ended the stream and made its STREAM END (the model's
choice, assumption 28). One refused before that is in RefusedRequestsChangeNothing. -/
def Obligations.StreamAndReleaseOfFinishedSlots : Prop :=
  (∀ (p : Port) (s : State) (r : QueuedRequest) (k : Fin 4) (h : HeldSlot), s.rps.slots[k] = some h →
    (s.Asks p r 0x0D [BitVec.ofNat 8 k.val] → (s.mpc.ports.get p).stream = none → h.st = .complete ∨ h.st = .released →
      exec (.trainStream p) s =
      .next (s.withPort p { (s.mpc.ports.get p).answered [replyFrame r 10 (u8 k.val ++ u16 h.report.header.number
          ++ u16 h.report.axles.length ++ u16 h.report.vehicles.length)] with
        stream := some { slot := k, number := h.report.header.number, tag := r.tag, nextPage := 0 } }))
    ∧ (s.Asks p r 0x0E [BitVec.ofNat 8 k.val] → h.st = .complete → exec (.trainRelease p) s =
      .next (({ s with rps := { s.rps with slots := s.rps.slots.set k (some { h with st := .released }) } } : State).withPort p
        ((s.mpc.ports.get p).answered [replyFrame r 3 []]))))
  ∧ (∀ (p : Port) (s : State) (r : QueuedRequest) (k : Fin 4) (st : StreamState),
    s.Asks p r 0x0D [BitVec.ofNat 8 k.val] → (s.mpc.ports.get p).Room 1 → (s.mpc.ports.get p).stream = some st →
    exec (.trainStream p) s = exec (.trainStream p)
      (s.withPort p { (s.mpc.ports.get p).sends [streamEndFrame st 1] with stream := none }))

/-- A post takes the next alert number (1 after 65535), stamps the site clock, and joins the tail of its level's queue; at
32 entries the oldest is discarded and counted. A post that ends an empty level sends ALERT PENDING with count 1 to each
port whose mask includes the level.

ALERT TAKE: of a level with entries, named or the highest of ANY, the oldest entry is removed and returned with the
level's lost count, which is then 0, and the entries left; with no entry the reply is EMPTY with the level asked for.
Nothing else changes. (ANY as 4 is assumption 6.)

The alert entry is the 20 bytes that 11.7 lays out. (That a field whose presence bit is clear holds 0 is the model's choice,
assumption 6.) -/
def Obligations.AlertsArePostedAndTaken : Prop :=
  (∀ (s : State) (d : AlertDraft), s.Room 1 →
    let q := s.atq.queues.get d.level
    let number := if s.atq.number < 65535 then s.atq.number + 1 else 1
    let entry : AlertEntry := { number := number, draft := d, time := s.ssq.clock }
    let full := 32 ≤ q.length
    let filed : State := { s with atq := {
      queues := s.atq.queues.upd d.level (fun _ => (if full then q.tail else q) ++ [entry])
      lost := if full then s.atq.lost.upd d.level (fun n => min (n + 1) 65535) else s.atq.lost
      number := number } }
    let told (p : Port) (pm : PortMachine) : PortMachine :=
      if q = [] ∧ (s.cfg (match p with | .s => .maskS | .m => .maskM)).testBit d.level.code = true then
        pm.sends [noticeFrame 0x43 [BitVec.ofNat 8 d.level.code, 1]] else pm
    s.post d = { filed with mpc := { s.mpc with ports := { s := told .s s.mpc.ports.s, m := told .m s.mpc.ports.m } } })
  ∧ (∀ (p : Port) (s : State) (r : QueuedRequest) (l : AlertLevel) (e : AlertEntry) (rest : List AlertEntry),
    let taken : State := { s with atq := { s.atq with
      queues := s.atq.queues.upd l (fun _ => rest), lost := s.atq.lost.upd l (fun _ => 0) } }
    let reply := replyFrame r 8 (u16 (s.atq.lost.get l) ++ u8 rest.length ++ e.bytes)
    let level : Byte := BitVec.ofNat 8 l.code
    (s.atq.queues.get l = e :: rest → s.Asks p r 0x0F [level] ∨
        (s.Asks p r 0x0F [4] ∧ ∀ l' : AlertLevel, l.code < l'.code → s.atq.queues.get l' = []) →
      exec (.alertTake p) s = .next (taken.withPort p ((s.mpc.ports.get p).answered [reply])))
    ∧ (s.atq.queues.get l = [] → s.Asks p r 0x0F [level] → exec (.alertTake p) s =
      .next (s.withPort p ((s.mpc.ports.get p).answered [replyFrame r 9 [level]])))
    ∧ ((∀ l' : AlertLevel, s.atq.queues.get l' = []) → s.Asks p r 0x0F [4] → exec (.alertTake p) s =
      .next (s.withPort p ((s.mpc.ports.get p).answered [replyFrame r 9 [4]]))))
  ∧ (∀ x : AlertEntry,
    let field (offset n : Nat) : Nat := bytesField x.bytes offset n
    let d := x.draft
    let bit (b : Bool) (weight : Nat) : Nat := if b = true then weight else 0
    x.bytes.length = 20
    ∧ field 0 2 = x.number % 65536
    ∧ field 2 1 = (match d.level with | .notice => 0 | .watch => 1 | .alert => 2 | .critical => 3)
    ∧ field 3 1 = (match d.kind with
      | .wheelImpact => 0 | .axleOverload => 1 | .sideImbalance => 2 | .endImbalance => 3 | .bearingHot => 4
      | .bearingWarm => 5 | .nodeLost => 6 | .calFailed => 7 | .channelStale => 8 | .slotOverwritten => 9 | .countConflict => 10)
    ∧ field 4 1 = bit d.train.isSome 1 + bit d.axle.isSome 2 + bit d.vehicle.isSome 4 + bit d.side.isSome 8
    ∧ field 5 2 = (match d.train with | none => 0 | some (number, _) => number % 65536)
    ∧ field 7 1 = (match d.train with | none => 0 | some (_, slot) => slot.val)
    ∧ field 8 2 = (d.axle.getD 0) % 65536 ∧ field 10 1 = (d.vehicle.getD 0) % 256
    ∧ field 11 1 = (match d.side with | some .b => 1 | _ => 0)
    ∧ field 12 4 = (d.value % 4294967296).toNat ∧ field 16 4 = x.time.toNat)

/-! ## The site -/

/-- ENABLE: from OFFLINE to PATROL with the streams resumed, or to DORMANT with the sweep timer started where the dormancy
setting is on, with the reply DONE before the notice; in LEVEL mode with the input active on to ARMED at once, with its
notice; in PASSAGE with disable-pending set it is cleared, DONE; NO_CHANGE everywhere else. -/
def Obligations.EnableBringsIntoService : Prop :=
  ∀ (p : Port) (s : State) (r : QueuedRequest), s.Asks p r 0x03 [0] → s.SiteOk → s.NodesOk → s.Room 2 →
    let reply (o : Byte) (site : SiteState) (dp : Bool) := replyFrame r o (u8 site.code ++ flag s.ssq.dormancy ++ flag dp)
    let notice (new old : SiteState) (cause : Cause) := siteNotice new old cause s.ssq.disablePending s.ssq.clock
    let latched : State := { s with ssq := { s.ssq with latch := true } }
    let rest : SiteState := if s.ssq.dormancy = true then .dormant else .patrol
    let carries : Prop := s.levelMode = true ∧ s.ssq.approachInput = true
    (s.ssq.site = .offline → s.ssq.dormancy = false → ¬ carries → exec (.enable p) s =
      .next (((s.inSite .patrol).resumed.replying p (reply 3 .patrol s.ssq.disablePending)).telling
        [notice .patrol .offline .enable]))
    ∧ (s.ssq.site = .offline → s.ssq.dormancy = true → ¬ carries → exec (.enable p) s =
      .next ((({ s.inSite .dormant with ssq := { (s.inSite .dormant).ssq with
          sweepTimer := some (s.now + 1000000 * s.cfg .tsweep) } } : State).replying p
          (reply 3 .dormant s.ssq.disablePending)).telling [notice .dormant .offline .enable]))
    ∧ (s.ssq.site = .offline → carries → exec (.enable p) s =
      .next (((latched.inSite .armed).resumed.called.replying p (reply 3 .armed s.ssq.disablePending)).telling
        [notice rest .offline .enable, notice .armed rest .approach]))
    ∧ (s.ssq.site = .passage → s.ssq.disablePending = true → exec (.enable p) s =
      .next (({ s with ssq := { s.ssq with disablePending := false } } : State).replying p (reply 3 .passage false)))
    ∧ (s.ssq.site ≠ .offline → (s.ssq.site = .passage → s.ssq.disablePending = false) → exec (.enable p) s =
      .next (s.replying p (reply 4 s.ssq.site s.ssq.disablePending)))

/-- DISABLE: from PATROL, ARMED, DORMANT or SWEEP to OFFLINE at once, DONE: streams and timers stopped, latch cleared, pair
machines IDLE, the calibration call withdrawn, and from SWEEP or ARMED with no slot CLOSING the settle point begun; in
PASSAGE disable-pending is set, PENDING; in OFFLINE nothing, NO_CHANGE. -/
def Obligations.DisableTakesOutOfService : Prop :=
  ∀ (p : Port) (s : State) (r : QueuedRequest), s.Asks p r 0x03 [1] → s.SiteOk → s.NodesOk → s.Room 1 →
    let reply (o : Byte) (site : SiteState) (dp : Bool) := replyFrame r o (u8 site.code ++ flag s.ssq.dormancy ++ flag dp)
    let out : State := (s.inSite .offline).uncalled.stopped
    let idle (m : PairMachine) : PairMachine := { m with st := .idle, timer := none }
    let off : State := { out with
      ssq := { out.ssq with latch := false }
      axt := { s.axt with pairs := { west := idle s.axt.pairs.west, east := idle s.axt.pairs.east } } }
    let told (u : State) := (u.replying p (reply 3 .offline s.ssq.disablePending)).telling
      [siteNotice .offline s.ssq.site .disable s.ssq.disablePending s.ssq.clock]
    (s.ssq.site = .patrol ∨ s.ssq.site = .dormant → exec (.disable p) s = .next (told off))
    ∧ (s.ssq.site = .armed ∨ s.ssq.site = .sweep → exec (.disable p) s = .next (told off.settledUnlessClosing))
    ∧ (s.ssq.site = .passage → exec (.disable p) s =
      .next (({ s with ssq := { s.ssq with disablePending := true } } : State).replying p (reply 5 .passage true)))
    ∧ (s.ssq.site = .offline → exec (.disable p) s = .next (s.replying p (reply 4 .offline s.ssq.disablePending)))

/-- DORMANCY ON sets the setting; in PATROL, setting on or off, it also takes the site to DORMANT with the streams stopped
and the sweep timer started, DONE. DORMANCY OFF clears it and stops the rest timer; it takes the site from DORMANT to PATROL
with the streams resumed and from SWEEP to PATROL with the streams running on, DONE, and from there on to ARMED at once, with its
own notice, where the settle point makes or leaves the mode LEVEL with the input active. Elsewhere DONE where the setting
changed, NO_CHANGE otherwise. (The reply shows the state after the action: the model's reading, assumption 25.) -/
def Obligations.DormancyActions : Prop :=
  ∀ (p : Port) (s : State) (r : QueuedRequest), s.SiteOk → s.NodesOk → s.Room 2 →
    let reply (o : Byte) (site : SiteState) (on : Bool) :=
      replyFrame r o (u8 site.code ++ flag on ++ flag s.ssq.disablePending)
    let on : State := { s with ssq := { s.ssq with dormancy := true } }
    let off : State := { s with ssq := { s.ssq with dormancy := false, restTimer := none } }
    let notice (new : SiteState) := siteNotice new s.ssq.site .dormancy s.ssq.disablePending s.ssq.clock
    let carries : Prop := s.anyClosing = false ∧ s.futureCfg .approachMode = 1 ∧ s.ssq.approachInput = true
    let settled : State := (off.inSite .patrol).settled
    (s.Asks p r 0x03 [2] →
      (s.ssq.site = .patrol → exec (.dormancyOn p) s = .next ((({ (on.inSite .dormant).stopped with
        ssq := { (on.inSite .dormant).stopped.ssq with sweepTimer := some (s.now + 1000000 * s.cfg .tsweep) } } : State).replying
          p (reply 3 .dormant true)).telling [notice .dormant]))
      ∧ (s.ssq.site ≠ .patrol → exec (.dormancyOn p) s =
        .next (on.replying p (reply (if s.ssq.dormancy = true then 4 else 3) s.ssq.site true))))
    ∧ (s.Asks p r 0x03 [3] →
      (s.ssq.site = .dormant → exec (.dormancyOff p) s =
        .next (((off.inSite .patrol).resumed.replying p (reply 3 .patrol false)).telling [notice .patrol]))
      ∧ (s.ssq.site = .sweep → ¬ carries → exec (.dormancyOff p) s =
        .next (((off.inSite .patrol).settledUnlessClosing.replying p (reply 3 .patrol false)).telling [notice .patrol]))
      ∧ (s.ssq.site = .sweep → carries → exec (.dormancyOff p) s =
        .next (((({ settled with ssq := { settled.ssq with latch := true } } : State).inSite .armed).called.replying p
          (reply 3 .armed false)).telling
          [notice .patrol, siteNotice .armed .patrol .approach s.ssq.disablePending s.ssq.clock]))
      ∧ (s.ssq.site ≠ .dormant → s.ssq.site ≠ .sweep → exec (.dormancyOff p) s =
        .next (off.replying p (reply (if s.ssq.dormancy = true then 3 else 4) s.ssq.site false))))

/-- RESTART: the measuring state of every block is cleared, every FILLING or CLOSING report becomes COMPLETE flagged ABORTED (a
FILLING one with its end time), pending configuration becomes active, and the site goes to OFFLINE if it was there or
disable-pending was set, else to DORMANT or PATROL by the dormancy setting, announced with the cause RESTART behind the reply
DONE and a TRAIN COMPLETE (its bytes are in SweepStepWalksTheReport) for each report made COMPLETE, the CLOSING ones in the
order of their closures, then the FILLING one. A site in PATROL or DORMANT goes on to ARMED at once, with its own notice, where
the mode is LEVEL by then and the input active. The links follow the site, each node keeping its counts; a calibration in flight
is withdrawn, and the one that ARMED calls begins or is skipped. Dormancy setting, false-approach count, clock, alerts, node
counts, engine counts and the scanners' records are kept. The other port gets the same notices and keeps all else.

(The model's choices: timers and settle counts that the RESTART state starts take the values from before the settle point,
assumption 4; the reply shows the state after the action, assumption 25; a stream that began after the request's arrival is
ended INTERRUPTED before the reply, assumption 28.) -/
def Obligations.RestartClearsMeasuring : Prop :=
  ∀ (p : Port) (s : State) (r : QueuedRequest), s.Asks p r 0x03 [4] → s.SiteOk → s.NodesOk → s.SlotsOk → s.Room 7 →
    let new : SiteState := if s.ssq.site = .offline ∨ s.ssq.disablePending = true then .offline
      else if s.ssq.dormancy = true then .dormant else .patrol
    let carries : Bool := decide (s.futureCfg .approachMode = 1) && s.ssq.approachInput && decide (new ≠ .offline)
    let final : SiteState := if carries = true then .armed else new
    let aborted (k : Fin 4) : Option HeldSlot := (s.rps.slots[k]).map fun h =>
      if h.st = .filling ∨ h.st = .closing then
        { st := .complete, report := { h.report with header := { h.report.header with
            endTime := if h.st = .filling then some s.ssq.clock else h.report.header.endTime
            flags := { h.report.header.flags with aborted := true } } } }
      else h
    let completes : List OutFrame :=
      (s.evu.sweepQueue ++ ([0, 1, 2, 3] : List (Fin 4)).filter (s.slotIs .filling)).filterMap fun k =>
        (aborted k).map fun h => noticeFrame 0x42 (trainCompletePayload h.report.header)
    let notices : List OutFrame := completes ++ [siteNotice new s.ssq.site .restart false s.ssq.clock]
      ++ (if carries = true then [siteNotice .armed new .approach false s.ssq.clock] else [])
    let ended : List OutFrame := (s.mpc.ports.get p).stream.toList.map fun st => streamEndFrame st 1
    let cleared : State := { s.uncalled with tsu := { s.uncalled.tsu with
      pointer := 0, pair := none, gateOrphan := 0, gateUndone := 0, calSkip := 0 } }
    let streamed : State := if new = .patrol then (if s.ssq.streaming = true then cleared else cleared.resumed) else cleared.stopped
    let linked : State := if carries = true then (if new = .patrol then streamed.settled else streamed.settled.resumed).called
      else streamed
    ∃ u, exec (.restart p) s = .next u
      ∧ u.ssq = { s.ssq with
          site := final, streaming := final.streams, disablePending := false, latch := carries, armTimer := none
          sweepTimer := if final = .dormant then some (s.now + 1000000 * s.cfg .tsweep) else none
          sweepDurTimer := none
          restTimer := if final = .patrol ∧ s.ssq.dormancy = true then some (s.now + 1000000 * s.cfg .tclear) else none }
      ∧ u.axt = Axt.reset ∧ u.vsg = Vsg.reset ∧ u.units = Vector.replicate 16 CaptureUnit.reset
      ∧ u.evu = { Evu.reset with dropped := s.evu.dropped, discarded := s.evu.discarded }
      ∧ (∀ k : Fin 16, u.channels[k] = { z := none, ageFrom := s.now, quiet := none
                                         cal := (s.channels[k]).pendingCal.getD (s.channels[k]).cal, pendingCal := none })
      ∧ (∀ k : Fin 4, u.rps.slots[k] = aborted k)
      ∧ u.rps.order = s.rps.order ∧ u.rps.trainCounter = s.rps.trainCounter ∧ u.rps.droppedWrites = s.rps.droppedWrites
      ∧ u.nodes = linked.nodes ∧ u.tsu = linked.tsu
      ∧ (∀ g : Fin 4, (u.nodes[g]).bad = (s.nodes[g]).bad ∧ (u.nodes[g]).duplicate = (s.nodes[g]).duplicate
          ∧ (u.nodes[g]).missing = (s.nodes[g]).missing ∧ (u.nodes[g]).losses = (s.nodes[g]).losses)
      ∧ (∀ x, let y := s.tsu.scanners.get x
          let z := u.tsu.scanners.get x
          z.bad = y.bad ∧ z.duplicate = y.duplicate ∧ z.missing = y.missing ∧ z.losses = y.losses ∧ z.ref = y.ref
          ∧ z.calState = y.calState ∧ z.ambient = y.ambient ∧ (carries = false → z.progress = .idle ∧ z.shutterClosed = false))
      ∧ (∀ i : Item, u.cfg i = s.futureCfg i ∧ u.mpc.pendingCfg[i.idx] = none)
      ∧ u.mpc.ports.get p = { (s.mpc.ports.get p).sends
          (ended ++ [replyFrame r 3 (u8 final.code ++ flag s.ssq.dormancy ++ [0])] ++ notices) with
          requests := markFirstServed (s.mpc.ports.get p).requests, stream := none }
      ∧ (∀ q, q ≠ p → u.mpc.ports.get q = (s.mpc.ports.get q).sends notices)
      ∧ u.atq = s.atq ∧ u.now = s.now

/-- APPROACH_RISING_EDGE, by the table of R8 and the first row of R10: in PATROL, DORMANT and SWEEP the latch is set and the
site goes to ARMED, its other timers stopped, streams resumed from DORMANT, calibration called, the arming timer started in
PULSE mode alone; in ARMED the arming timer restarts in PULSE mode; in PASSAGE the latch is set; in OFFLINE nothing but the
pin's level changes. (That an edge in ARMED under LEVEL changes nothing else is the model's choice, assumption 24.) -/
def Obligations.ApproachRisingEdgeArms : Prop :=
  ∀ (t : Nat) (s : State), s.SiteOk → s.NodesOk → s.Room 1 →
    let at_ : State := { s with now := max s.now t, ssq := { s.ssq with approachInput := true } }
    let armTimer := if s.levelMode = true then none else some (at_.now + 1000000 * s.cfg .tarm)
    let armed : State := { at_.inSite .armed with ssq := { (at_.inSite .armed).ssq with latch := true, armTimer := armTimer } }
    let told (u : State) := u.telling [siteNotice .armed s.ssq.site .approach s.ssq.disablePending s.ssq.clock]
    (s.ssq.site = .patrol ∨ s.ssq.site = .sweep → exec (.approachRisingEdge t) s = .next (told armed.called))
    ∧ (s.ssq.site = .dormant → exec (.approachRisingEdge t) s = .next (told armed.resumed.called))
    ∧ (s.ssq.site = .armed → exec (.approachRisingEdge t) s = .next
        (if s.levelMode = true then at_ else { at_ with ssq := { at_.ssq with armTimer := armTimer } }))
    ∧ (s.ssq.site = .passage → exec (.approachRisingEdge t) s = .next { at_ with ssq := { at_.ssq with latch := true } })
    ∧ (s.ssq.site = .offline → exec (.approachRisingEdge t) s = .next at_)

/-- A false approach: ARMING_TIMER_EXPIRY in ARMED, and APPROACH_FALLING_EDGE in ARMED in LEVEL mode, clear the latch, count
the false approach, withdraw the calibration call and take the site to PATROL, with the rest timer where dormancy is on, and
the settle point begun where no slot is CLOSING. Where the mode is LEVEL by then and the input active, the expiry's site goes on
to ARMED at once, with its own notice. A falling edge in PULSE mode or another state changes the pin's level
alone. (The model's choices: an arming timer that does not run does nothing, assumption 2; the rest timer takes Tclear as it
stood before the settle point, assumption 4; the input's level as assumption 24 reads it.) -/
def Obligations.FalseApproachReturnsToPatrol : Prop :=
  ∀ (s : State), s.SiteOk → s.NodesOk → s.Room 1 →
    let back (now : Nat) (input : Bool) (cause : Cause) : State :=
      let v : State := { s with now := now, ssq := { s.ssq with
        approachInput := input, latch := false, falseApproach := min (s.ssq.falseApproach + 1) 65535 } }
      let w : State := { v.inSite .patrol with ssq := { (v.inSite .patrol).ssq with
        restTimer := if s.ssq.dormancy = true then some (now + 1000000 * s.cfg .tclear) else none } }
      w.uncalled.settledUnlessClosing.telling [siteNotice .patrol .armed cause s.ssq.disablePending s.ssq.clock]
    (∀ d, s.ssq.armTimer = some d → s.RoomToRest →
      exec .armingTimerExpiry s = .next (back (max s.now d) s.ssq.approachInput .approachTimeout).carriedOn)
    ∧ (s.ssq.armTimer = none → exec .armingTimerExpiry s = .next s)
    ∧ (∀ t, s.levelMode = true → s.ssq.site = .armed →
      exec (.approachFallingEdge t) s = .next (back (max s.now t) false .approachRelease))
    ∧ (∀ t, s.levelMode = false ∨ s.ssq.site ≠ .armed → exec (.approachFallingEdge t) s =
      .next { s with now := max s.now t, ssq := { s.ssq with approachInput := false } })

/-- SWEEP_TIMER_EXPIRY takes DORMANT to SWEEP for Dsweep with the streams resumed; SWEEP_DURATION_EXPIRY takes SWEEP back to
DORMANT for Tsweep with the streams stopped and the settle point begun where no slot is CLOSING, and on to ARMED at once where
that makes the mode LEVEL with the input active; REST_TIMER_EXPIRY takes PATROL to DORMANT for Tsweep with the streams stopped.
Each stamps its notice; a timer that does not run does nothing (the model's choice, assumption 2, as are the timers' values from
before the settle point, assumption 4). -/
def Obligations.DormancyTimersMoveTheSite : Prop :=
  ∀ (s : State), s.SiteOk → s.NodesOk → s.Room 1 →
    let at_ (d : Nat) : State := { s with now := max s.now d }
    let swept (d : Nat) : State := (((at_ d).inSite .sweep).resumed)
    let slept (d : Nat) : State := (((at_ d).inSite .dormant).stopped)
    let asleep (d : Nat) : State := { slept d with ssq := { (slept d).ssq with
      sweepTimer := some (max s.now d + 1000000 * s.cfg .tsweep) } }
    let notice (new old : SiteState) (cause : Cause) := [siteNotice new old cause s.ssq.disablePending s.ssq.clock]
    (∀ d, s.ssq.sweepTimer = some d → exec .sweepTimerExpiry s = .next (({ swept d with ssq := { (swept d).ssq with
      sweepDurTimer := some (max s.now d + 1000000 * s.cfg .dsweep) } } : State).telling (notice .sweep .dormant .sweepStart)))
    ∧ (∀ d, s.ssq.sweepDurTimer = some d → s.RoomToRest → exec .sweepDurationExpiry s =
      .next ((asleep d).settledUnlessClosing.telling (notice .dormant .sweep .sweepEnd)).carriedOn)
    ∧ (∀ d, s.ssq.restTimer = some d → exec .restTimerExpiry s = .next ((asleep d).telling (notice .dormant .patrol .rest)))
    ∧ (s.ssq.sweepTimer = none → exec .sweepTimerExpiry s = .next s)
    ∧ (s.ssq.sweepDurTimer = none → exec .sweepDurationExpiry s = .next s)
    ∧ (s.ssq.restTimer = none → exec .restTimerExpiry s = .next s)

/-! ## The axle tracker -/

/-- A wheel sensor edge in OFFLINE is ignored. In service, an edge that completes no crossing is held: its machine is in
OUTER_FIRST or INNER_FIRST with this edge's time stamp and its pair timer started for Tpair, whether it is a first or a
repeated edge; an open train's clear timer restarts; with no train open the site is told of the edge, which wakes
DORMANT and SWEEP to PATROL, and on to ARMED where a settle point begun there makes the mode LEVEL with the input active. Nothing
else changes. (The model's choices: an edge after the pair timer's deadline finds its machine expired, the half crossing counted,
assumption 3; the rest timer of a wake from SWEEP takes Tclear as it stood before the settle point, assumption 4.) -/
def Obligations.FirstAndRepeatedEdgesAreHeld : Prop :=
  ∀ (w : WheelSensor) (t : Nat) (s : State), s.SiteOk → s.NodesOk → s.RoomToWake →
    let now := max s.now t
    let pr := (WheelSensor.place w).1
    let outer := (WheelSensor.place w).2
    let m := (s.axt.pairs.get pr).foundAt now
    let held : PairMachine := { m with
      st := if outer = true then .outerFirst now else .innerFirst now, timer := some (now + 1000 * s.cfg .tpair) }
    (s.ssq.site = .offline → exec (.wheelSensorEdge w t) s = .next { s with now := now })
    ∧ (s.ssq.site ≠ .offline → m.completes now outer = none → exec (.wheelSensorEdge w t) s =
      .next (if s.axt.train = none then (s.atEdge t pr held).edgeReported else s.atEdge t pr held))

/-- A crossing that is implausible (a zero interval, or a speed above 50000 mm/s) is counted as a half crossing of its pair and
has no other effect; an accepted outward crossing with no train open is counted as stray. Both edges were still edges: an open
train's clear timer restarts, and with no train open the site is told. (The model's choices: a machine whose pair timer ran out
before the edge is found expired, assumption 3; the rest timer of a wake from SWEEP takes Tclear as it stood before the settle
point, assumption 4.) -/
def Obligations.RejectedAndStrayCrossingsAreCounted : Prop :=
  ∀ (w : WheelSensor) (t : Nat) (s : State), s.SiteOk → s.NodesOk → s.RoomToWake → s.ssq.site ≠ .offline →
    let now := max s.now t
    let pr := (WheelSensor.place w).1
    let done := (s.axt.pairs.get pr).completed now
    let rejected : PairMachine := { done with halfCrossings := min (done.halfCrossings + 1) 65535 }
    (∀ (inward : Bool) (dt : Nat),
      ((s.axt.pairs.get pr).foundAt now).completes now (WheelSensor.place w).2 = some (inward, dt) →
      dt = 0 ∨ 50000 < s.cfg .dpair * 1000000 / dt → exec (.wheelSensorEdge w t) s =
      .next (if s.axt.train = none then (s.atEdge t pr rejected).edgeReported else s.atEdge t pr rejected))
    ∧ (∀ v, s.Crosses w t pr false v → s.axt.train = none → exec (.wheelSensorEdge w t) s =
      .next (({ s.atEdge t pr done with axt := { (s.atEdge t pr done).axt with
        stray := min (s.axt.stray + 1) 65535 } } : State).edgeReported))

/-- An accepted inward crossing with no train open starts a train in the slot the store chooses: the tracker, the pointers, the
segmenter, the report and the site are as R13, R37, R38, R45 and R153 say, with axle 0 counted and recorded.

With room for its notices on both ports the start announces itself: a stream that reads the slot taken ends SLOT_GONE, a
COMPLETE or CLOSING report discarded posts SLOT_OVERWRITTEN with its number (and ALERT PENDING where that ends an empty NOTICE
level), and TRAIN STARTED goes out before SITE STATE, its flags NO_APPROACH and CONTINUATION one byte each (the model's choice,
assumption 6). The slot leaves the sweep's queue, and a sweep that served it starts on the next. -/
def Obligations.InwardCrossingStartsATrain : Prop :=
  (∀ (w : WheelSensor) (t : Nat) (s : State) (pr : Pair) (v : Nat) (k : Fin 4), s.SiteOk → s.NodesOk →
    s.ssq.site ≠ .offline → s.axt.train = none → s.Crosses w t pr true v → s.chooseSlot = some k →
    let now := max s.now t
    let number := if s.rps.trainCounter < 65535 then s.rps.trainCounter + 1 else 1
    ∃ u, exec (.wheelSensorEdge w t) s = .next u
      ∧ u.now = now
      ∧ u.ssq = { s.ssq with
          site := .passage, streaming := true, latch := false, armTimer := none, sweepTimer := none
          sweepDurTimer := none, restTimer := none }
      ∧ u.axt.pairs = s.axt.pairs.upd pr (fun _ => (s.axt.pairs.get pr).completed now)
      ∧ u.axt.train = some
          { slot := k, number := number, d0 := travelDirection pr true, entry := pr, motion := .movingFwd
            lastDir := .forward, speed := v, lastSpeed := v, n := 1, h := 1, x := 0
            haltTimer := some (now + s.haltAfter v), clearTimer := some (now + 1000000 * s.cfg .tclear)
            standTimer := none
            lastCross := ({ west := none, east := none } : PerPair (Option (Nat × Direction))).upd pr
              (fun _ => some (now, travelDirection pr true)) }
      ∧ u.axt.continuation = false
      ∧ u.vsg = { history := [], deficit := 0, reference := some (v, now), interrupted := false
                  vehicles := [{ first := 0, deficitMark := false }] }
      ∧ (∀ c : Fin 16, (u.units[c]).pointer = 0 ∧ (u.units[c]).staleSeen = false
          ∧ (u.units[c]).capture = (s.units[c]).capture)
      ∧ u.tsu.pointer = 0
      ∧ (∀ z, (u.tsu.scanners.get z).progress = .idle)
      ∧ u.rps.trainCounter = number ∧ u.rps.order = s.rps.order.filter (· ≠ k) ++ [k]
      ∧ (∀ j : Fin 4, j ≠ k → u.rps.slots[j] = s.rps.slots[j])
      ∧ u.nodes = (if s.ssq.streaming = true then s.nodes else { s with now := now }.resumed.nodes)
      ∧ u.mpc.active = s.mpc.active ∧ u.mpc.pendingCfg = s.mpc.pendingCfg ∧ u.channels = s.channels
      ∧ ∃ h, u.rps.slots[k] = some h ∧ h.st = .filling
        ∧ (∃ x, h.report.axles = [x] ∧ x.IsNew 0 s.ssq.clock v none (some 0))
        ∧ (∃ y, h.report.vehicles = [y] ∧ y.index = 0 ∧ y.first = 0 ∧ y.count = 1 ∧ y.isOpen = true ∧ y.form = none
          ∧ y.dirty = false)
        ∧ (h.report.header.number = number ∧ h.report.header.slot = k ∧ h.report.header.d0 = travelDirection pr true
            ∧ h.report.header.entry = pr ∧ h.report.header.startTime = s.ssq.clock ∧ h.report.header.endTime = none
            ∧ h.report.header.closure = none ∧ h.report.header.h = 1 ∧ h.report.header.recorded = 1
            ∧ h.report.header.vehicles = 1 ∧ h.report.header.minSpeed = some v ∧ h.report.header.maxSpeed = some v)
        ∧ (h.report.header.flags.noApproach = true ↔ s.ssq.site ≠ .armed ∧ s.ssq.latch = false)
        ∧ h.report.header.flags.continuation = s.axt.continuation
        ∧ (h.report.header.flags.calAborted = true ↔ ∃ z, (s.tsu.scanners.get z).progress ≠ .idle))
  ∧ (∀ (w : WheelSensor) (t : Nat) (s : State) (pr : Pair) (v : Nat) (k : Fin 4), s.SiteOk → s.NodesOk → s.Room 4 →
    s.ssq.site ≠ .offline → s.axt.train = none → s.Crosses w t pr true v → s.chooseSlot = some k →
    let number := if s.rps.trainCounter < 65535 then s.rps.trainCounter + 1 else 1
    let discarded : Option Nat := (s.rps.slots[k]).bind fun h =>
      if h.st = .complete ∨ h.st = .closing then some h.report.header.number else none
    let noApproach : Bool := decide (s.ssq.site ≠ .armed) && !s.ssq.latch
    let started : OutFrame := noticeFrame 0x41 (u8 k.val ++ u16 number
      ++ [(match travelDirection pr true with | .east => 0 | .west => 1 : Byte)] ++ u32 s.ssq.clock.toNat ++ flag noApproach
      ++ flag s.axt.continuation)
    let pending (p : Port) : List OutFrame :=
      if discarded ≠ none ∧ s.atq.queues.notice = [] ∧
        (s.cfg (match p with | .s => .maskS | .m => .maskM)).testBit 0 = true then [noticeFrame 0x43 [0, 1]] else []
    let gone (pm : PortMachine) : List OutFrame :=
      (pm.stream.toList.filter fun st => st.slot = k).map fun st => streamEndFrame st 2
    ∃ u, exec (.wheelSensorEdge w t) s = .next u
      ∧ (∀ p, u.mpc.ports.get p = { (s.mpc.ports.get p).sends (gone (s.mpc.ports.get p) ++ pending p ++ [started,
          siteNotice .passage s.ssq.site .trainStart s.ssq.disablePending s.ssq.clock]) with
          stream := (s.mpc.ports.get p).stream.filter fun st => st.slot ≠ k })
      ∧ u.atq = (match discarded with
        | none => s.atq
        | some old => s.atq.filed s.ssq.clock (noticeAlert .slotOverwritten (some (number, k)) none old))
      ∧ u.evu.sweepQueue = s.evu.sweepQueue.filter (· ≠ k) ∧ u.evu.lanes = s.evu.lanes
      ∧ (if s.evu.sweepQueue.head? = some k then
          u.evu.sweepPos = .axle 0 .railA ∧ u.evu.sweepWaiting = false ∧ u.evu.sweepResting = false ∧ u.evu.rewalk = false
        else u.evu.sweepPos = s.evu.sweepPos ∧ u.evu.sweepWaiting = s.evu.sweepWaiting
          ∧ u.evu.sweepResting = s.evu.sweepResting ∧ u.evu.rewalk = s.evu.rewalk))

/-- A slot for a new train: the FREE slot with the lowest number; with none FREE, the RELEASED slot that comes first in the
allocation order; with none RELEASED, the COMPLETE one; with none COMPLETE, the CLOSING one. -/
def Obligations.SlotChoiceFollowsTheOrder : Prop :=
  ∀ (s : State) (k : Fin 4),
    let st (j : Fin 4) (x : SlotState) : Prop := ∃ h, s.rps.slots[j] = some h ∧ h.st = x
    let oldest (x : SlotState) : Prop := ∃ before after : List (Fin 4),
      s.rps.order = before ++ k :: after ∧ st k x ∧ ∀ j ∈ before, ¬ st j x
    (s.rps.slots[k] = none → (∀ j, j < k → s.rps.slots[j] ≠ none) → s.chooseSlot = some k)
    ∧ ((∀ j : Fin 4, s.rps.slots[j] ≠ none) →
      (oldest .released → s.chooseSlot = some k)
      ∧ ((∀ j, ¬ st j .released) → oldest .complete → s.chooseSlot = some k)
      ∧ ((∀ j, ¬ st j .released) → (∀ j, ¬ st j .complete) → oldest .closing → s.chooseSlot = some k))

/-- An accepted crossing of an open train sets its speeds, its motion and last moving direction, its halt timer and its
pair's record, stops the stand timer, restarts the clear timer, and moves one count by its kind (forward entry, reverse
entry, forward exit, reverse exit), held where the counts forbid it. The site, the links, the configuration, the train's
identity and the other reports are as they were.

Each pointer that a decrement of N leaves above it, crib or gate, is set to it and counted. A reversal marks every open capture
REVERSED and closes the open gates TRUNCATED under the new direction; a held gate time runs on from any other crossing. The header
takes REVERSED from a reversal, DIRECTION_CONFLICT where the other pair was crossed the other way less than 500 ms before, and
COUNT_CONFLICT where N is held, and its minimum and maximum accepted speed follow every accepted crossing. -/
def Obligations.CrossingMovesTheOpenTrain : Prop :=
  (∀ (w : WheelSensor) (t : Nat) (s : State) (pr : Pair) (inward : Bool) (v : Nat) (tr : OpenTrain), s.SiteOk →
    s.axt.train = some tr → s.Crosses w t pr inward v →
    let now := max s.now t
    let travel := travelDirection pr inward
    let forward : Prop := travel = tr.d0
    let n := if pr = tr.entry ∧ inward = true then (if tr.n < 65535 then tr.n + 1 else tr.n)
      else if pr = tr.entry then (if tr.x < tr.n then tr.n - 1 else tr.n) else tr.n
    let x := if pr = tr.entry then tr.x else if inward = true then tr.x - 1 else if tr.x < tr.n then tr.x + 1 else tr.x
    ∃ u, exec (.wheelSensorEdge w t) s = .next u
      ∧ u.axt.train = some { tr with
          motion := if forward then .movingFwd else .movingRev
          lastDir := if forward then .forward else .reverse
          speed := v, lastSpeed := v, n := n, h := if tr.n < n then max tr.h n else tr.h, x := x
          haltTimer := some (now + s.haltAfter v), clearTimer := some (now + 1000000 * s.cfg .tclear)
          standTimer := none, lastCross := tr.lastCross.upd pr (fun _ => some (now, travel)) }
      ∧ u.axt.pairs = s.axt.pairs.upd pr (fun _ => (s.axt.pairs.get pr).completed now)
      ∧ u.axt.continuation = s.axt.continuation ∧ u.axt.stray = s.axt.stray
      ∧ u.axt.unenteredExit = (if pr ≠ tr.entry ∧ inward = false ∧ tr.n ≤ tr.x
          then min (s.axt.unenteredExit + 1) 65535 else s.axt.unenteredExit)
      ∧ (∀ c : Fin 16, (u.units[c]).pointer =
          if n < tr.n then min (s.units[c]).pointer n else (s.units[c]).pointer)
      ∧ (tr.n ≤ n → u.axt.pointerClamp = s.axt.pointerClamp)
      ∧ (pr = tr.entry → inward = false → tr.n ≤ tr.x →
        s.PostedAfter u 0 (noticeAlert .countConflict (some (tr.number, tr.slot)) none tr.n))
      ∧ (pr ≠ tr.entry ∨ inward = true ∨ tr.x < tr.n → u.atq = s.atq)
      ∧ u.ssq = s.ssq ∧ u.nodes = s.nodes ∧ u.channels = s.channels ∧ u.tsu.scanners = s.tsu.scanners
      ∧ u.mpc.active = s.mpc.active ∧ u.mpc.pendingCfg = s.mpc.pendingCfg ∧ u.rps.order = s.rps.order
      ∧ u.rps.trainCounter = s.rps.trainCounter
      ∧ (∀ j : Fin 4, j ≠ tr.slot → u.rps.slots[j] = s.rps.slots[j]))
  ∧ (∀ (w : WheelSensor) (t : Nat) (s : State) (pr : Pair) (inward : Bool) (v : Nat) (tr : OpenTrain) (h : HeldSlot), s.SiteOk →
    s.SlotsOk → s.axt.train = some tr → s.Crosses w t pr inward v → s.rps.slots[tr.slot] = some h →
    let now := max s.now t
    let travel := travelDirection pr inward
    let dir : RelDir := if travel = tr.d0 then .forward else .reverse
    let reversal : Bool := decide (dir ≠ tr.lastDir)
    let n := if pr = tr.entry ∧ inward = false ∧ tr.x < tr.n then tr.n - 1 else tr.n
    let held : Bool := decide (pr = tr.entry) && (if inward = true then decide (65535 ≤ tr.n) else decide (tr.n ≤ tr.x))
    let conflict : Bool := match tr.lastCross.get (match pr with | .west => .east | .east => .west) with
      | some (time, d) => decide (d ≠ travel) && decide (now - time < 500000)
      | none => false
    let closed : State := if reversal = true then
        ({ s with axt := { s.axt with train := some { tr with lastDir := dir } } } : State).closeGates true
      else s
    ∃ u, exec (.wheelSensorEdge w t) s = .next u
      ∧ (∀ c : Fin 16, u.units[c] = { s.units[c] with
          pointer := if n < tr.n then min (s.units[c]).pointer n else (s.units[c]).pointer
          capture := (s.units[c]).capture.map fun x => if reversal = true then { x with reversed := true } else x })
      ∧ u.tsu = { closed.tsu with
          pointer := if n < tr.n then min closed.tsu.pointer n else closed.tsu.pointer
          pair := closed.tsu.pair.map fun p => { p with clock := match p.clock with
            | .running e => .running e
            | .held r => .running (now + r) } }
      ∧ u.axt.pointerClamp = (if n < tr.n then min (s.axt.pointerClamp + (s.units.toList.countP fun x => n < x.pointer)
          + (if n < closed.tsu.pointer then 1 else 0)) 65535 else s.axt.pointerClamp)
      ∧ ∃ h', u.rps.slots[tr.slot] = some h'
        ∧ h'.report.header.flags = { h.report.header.flags with
            reversed := h.report.header.flags.reversed || reversal
            directionConflict := h.report.header.flags.directionConflict || conflict
            countConflict := h.report.header.flags.countConflict || held
            axleOverflow := h'.report.header.flags.axleOverflow, vehicleOverflow := h'.report.header.flags.vehicleOverflow }
        ∧ h'.report.header.minSpeed = some (match h.report.header.minSpeed with | none => v | some old => min old v)
        ∧ h'.report.header.maxSpeed = some (match h.report.header.maxSpeed with | none => v | some old => max old v)
        ∧ ∀ hc, closed.rps.slots[tr.slot] = some hc → ∀ (i : Nat) (ax : AxleRecord), hc.report.axles[i]? = some ax →
          ∃ ax', h'.report.axles[i]? = some ax' ∧ ax'.gates = ax.gates ∧ ax'.gateDirty = ax.gateDirty)

/-- A forward entry crossing of an open train with N below 65535 and the train's report in its slot, writes
the report as R24, R31 and R32 say: a new axle within the table gains its record, with the spacing of R47 and R48 and the
segmenter's open vehicle; beyond the table AXLE_OVERFLOW is set; a re-pass increments the axle's pass count up to 255. Where the
crossing is itself a reversal, the gates it truncates are written first, and its spacing is UNKNOWN. -/
def Obligations.ForwardEntryWritesTheAxle : Prop :=
  ∀ (w : WheelSensor) (t : Nat) (s : State) (v : Nat) (tr : OpenTrain) (h : HeldSlot), s.SiteOk →
    s.axt.train = some tr → s.Crosses w t tr.entry true v → tr.d0 = travelDirection tr.entry true → tr.n < 65535 →
    let now := max s.now t
    let reversal : Bool := decide (tr.lastDir = .reverse)
    let closed : State := if reversal = true then
        ({ s with axt := { s.axt with train := some { tr with lastDir := .forward } } } : State).closeGates true
      else s
    let measured : State := { s with now := now, vsg := { s.vsg with interrupted := s.vsg.interrupted || reversal } }
    closed.rps.slots[tr.slot] = some h → h.st = .filling → h.report.header.number = tr.number →
    ∃ u, exec (.wheelSensorEdge w t) s = .next u ∧ u.vsg.reference = some (v, now) ∧ u.vsg.interrupted = false
      ∧ ∃ h', u.rps.slots[tr.slot] = some h' ∧ h'.st = .filling
      ∧ h'.report.header.number = tr.number
      ∧ h'.report.header.minSpeed = some (min (h.report.header.minSpeed.getD v) v)
      ∧ h'.report.header.maxSpeed = some (max (h.report.header.maxSpeed.getD v) v)
      ∧ (tr.h ≤ tr.n → tr.n < 512 → ∃ x, h'.report.axles = h.report.axles ++ [x]
          ∧ x.IsNew tr.n s.ssq.clock v (measured.entrySpacing tr.n v now) (
            if u.vsg.vehicles.length = 0 ∨ 256 < u.vsg.vehicles.length then none else some (u.vsg.vehicles.length - 1)))
      ∧ (tr.h ≤ tr.n → 512 ≤ tr.n → h'.report.axles = h.report.axles ∧ h'.report.header.flags.axleOverflow = true)
      ∧ (tr.h ≤ tr.n → h'.report.header.h = tr.n + 1 ∧ h'.report.header.recorded = min (tr.n + 1) 512)
      ∧ (tr.n < tr.h → h'.report.header.h = h.report.header.h ∧ h'.report.axles =
          if tr.n < 512 then h.report.axles.modify tr.n (fun x => { x with pass := min (x.pass + 1) 255 })
          else h.report.axles)

/-- A reverse exit crossing is axle X - 1 coming back in: X is decremented, or held at 0; the spacing history and the pointers
are not touched (a gate pair open at the crossing is truncated by the reversal, by R142, which has rules of its own). -/
def Obligations.ReverseExitTakesAnAxleBack : Prop :=
  ∀ (w : WheelSensor) (t : Nat) (s : State) (pr : Pair) (v : Nat) (tr : OpenTrain), s.SiteOk → s.axt.train = some tr →
    s.Crosses w t pr true v → pr ≠ tr.entry →
    ∃ u, exec (.wheelSensorEdge w t) s = .next u ∧ ∃ tr', u.axt.train = some tr'
      ∧ tr'.x = (if 0 < tr.x then tr.x - 1 else 0) ∧ tr'.n = tr.n ∧ tr'.h = tr.h
      ∧ u.vsg.history = s.vsg.history ∧ u.vsg.deficit = s.vsg.deficit
      ∧ (∀ c : Fin 16, (u.units[c]).pointer = (s.units[c]).pointer)
      ∧ (s.tsu.pair = none ∨ tr.lastDir = (if travelDirection pr true = tr.d0 then .forward else .reverse) →
        u.tsu.pointer = s.tsu.pointer)

/-- The segmenter at a crossing of the entry pair of an open train, whose open vehicle is `o` with the vehicles `os` below it.

A forward entry pushes the class of its spacing on the history, the oldest of 6 discarded, and pays a deficit off by one. A
class other than MID leaves the open vehicle open, its axle count N less its first axle. A MID first closes it, with its form
from the history as it stands and its count, dirty; an evaluation of it in flight is marked changed, and it is requested; then
the next vehicle opens at the new axle, marked if a deficit is left (recorded vehicles alone bear the mark): with a record of
one axle up to index 255, with VEHICLE_OVERFLOW beyond.

A reverse entry that decrements N pops the newest class, or counts a deficit and marks the open vehicle where there is none;
axle 0 pops nothing. Where the axle backing out is the first of the open vehicle and that is not vehicle 0, the vehicle goes
with its record, an evaluation of it in flight is marked removed, and the one before it is open again, without form, dirty, its
evaluation in flight marked changed. The open vehicle's count is N less its first axle. Held crossings and those of the exit
pair reach the segmenter only as the interruption of a reversal. (That a vehicle which closes with no axle keeps its other
results is the model's choice, assumption 31.) -/
def Obligations.VehiclesFollowTheAxles : Prop :=
  ∀ (w : WheelSensor) (t : Nat) (s : State) (pr : Pair) (inward : Bool) (v : Nat) (tr : OpenTrain) (h : HeldSlot) (o : SegVehicle)
    (os : List SegVehicle), s.SiteOk → s.SlotsOk → s.axt.train = some tr → s.Crosses w t pr inward v →
    s.rps.slots[tr.slot] = some h → s.vsg.vehicles = o :: os →
    let now := max s.now t
    let reversal : Bool := decide ((if travelDirection pr inward = tr.d0 then RelDir.forward else .reverse) ≠ tr.lastDir)
    let interrupted := s.vsg.interrupted || reversal
    let measured : State := { s with now := now, vsg := { s.vsg with interrupted := interrupted } }
    let i := os.length
    let table := h.report.vehicles
    ∃ u, exec (.wheelSensorEdge w t) s = .next u ∧ ∃ h', u.rps.slots[tr.slot] = some h'
      ∧ (pr = tr.entry → inward = true → tr.n < 65535 →
        let kind := (measured.entrySpacing tr.n v now).map (·.2)
        let pushed (c : SpacingClass) : Vsg :=
          { history := (c :: s.vsg.history).take 6, deficit := s.vsg.deficit - 1, reference := some (v, now), interrupted := false
            vehicles := s.vsg.vehicles }
        (kind = none → u.vsg = { s.vsg with reference := some (v, now), interrupted := false })
        ∧ (∀ c, kind = some c → c ≠ .mid → u.vsg = pushed c)
        ∧ (kind ≠ some .mid → h'.report.header.vehicles = h.report.header.vehicles
          ∧ h'.report.vehicles = if i < 256 then table.modify i (fun x => { x with count := tr.n + 1 - o.first }) else table)
        ∧ (kind = some .mid →
          let count := tr.n - o.first
          let opened : VehicleRecord :=
            { index := i + 1, first := tr.n, count := 0, form := none, isOpen := true, dirty := false, gross := none
              endImbalance := none, worstWheel := .absent, worstBearing := .absent, quality := none, endMark := false }
          let closed (x : VehicleRecord) : VehicleRecord :=
            if count = 0 then { x with count := 0, form := some .unclassified, isOpen := false, quality := some .incomplete }
            else { x with count := count, form := some (vehicleForm o.deficitMark s.vsg.history), isOpen := false, dirty := true }
          u.vsg = { pushed .mid with vehicles :=
            { first := tr.n, deficitMark := decide (i + 1 < 256) && decide (1 < s.vsg.deficit) } :: o :: os }
          ∧ h'.report.header.vehicles = min (i + 2) 256
          ∧ h'.report.vehicles = (if i + 1 < 256 then
              (table.modify i closed ++ [opened]).modify (i + 1) (fun x => { x with count := 1 })
            else if i < 256 then table.modify i closed else table)
          ∧ (256 ≤ i + 1 → h'.report.header.flags.vehicleOverflow = true)
          ∧ (i < 256 → s.Changed u .vehicle tr.slot tr.number i
            ∧ (1 ≤ count → (s.evu.lanes.get .vehicle).length < 16 → u.Requested .vehicle tr.slot tr.number i False))))
      ∧ (pr = tr.entry → inward = false → tr.x < tr.n →
        let n := tr.n - 1
        let popped : Vsg :=
          if n = 0 then s.vsg
          else match s.vsg.history with
            | _ :: rest => { s.vsg with history := rest }
            | [] => { s.vsg with
                deficit := min (s.vsg.deficit + 1) 65535
                vehicles := { o with deficitMark := o.deficitMark || decide (i < 256) } :: os }
        (os = [] ∨ o.first ≠ n → u.vsg = { popped with interrupted := interrupted }
          ∧ h'.report.header.vehicles = h.report.header.vehicles
          ∧ h'.report.vehicles = if i < 256 then table.modify i (fun x => { x with count := n - o.first }) else table)
        ∧ (∀ below rest, os = below :: rest → o.first = n →
          u.vsg = { popped with
            interrupted := interrupted
            vehicles := { below with
              deficitMark := below.deficitMark || (decide (i ≤ 256) && decide (0 < popped.deficit)) } :: rest }
          ∧ h'.report.header.vehicles = min i 256
          ∧ h'.report.vehicles = (if i ≤ 256 then (if i < 256 then table.take i else table).modify (i - 1) fun x =>
              { x with form := none, isOpen := true, dirty := true, count := n - below.first } else table)
          ∧ (i < 256 → ∀ (e : Fin 2) (ev : Evaluation), s.evu.evals[e] = some ev → ev.req.lane = .vehicle →
            ev.req.slot = tr.slot → ev.req.number = tr.number → ev.req.target = i →
            u.evu.evals[e] = some { ev with removed := true })
          ∧ (i ≤ 256 → s.Changed u .vehicle tr.slot tr.number (i - 1))))
      ∧ (pr ≠ tr.entry ∨ (inward = true ∧ 65535 ≤ tr.n) ∨ (inward = false ∧ tr.n ≤ tr.x) →
        u.vsg = { s.vsg with interrupted := interrupted } ∧ h'.report.vehicles = table
        ∧ h'.report.header.vehicles = h.report.header.vehicles)

/-- The distance between axles: the mean of the two speeds, floored, over the time between the two inner edges, floored to
mm and held to 0..65535; axle 0 has none. Its class by the table of R48.

The form of a closing vehicle, by the classes after the newest MID: UNCLASSIFIED for a marked vehicle, for a full history
without MID, and for an UNKNOWN among them; else TWO for [LONG], FOUR for [SHORT, LONG, SHORT], SIX for [SHORT, SHORT, LONG,
SHORT, SHORT], UNCLASSIFIED for anything else. -/
def Obligations.SpacingsAndForms : Prop :=
  (∀ (s : State) (a v time vRef tRef : Nat), s.vsg.reference = some (vRef, tRef) → tRef ≤ time →
    let mm := min ((vRef + v) / 2 * (time - tRef) / 1000000) 65535
    let differ := max vRef v - min vRef v
    (a = 0 → s.entrySpacing a v time = none)
    ∧ (1 ≤ a → ∃ c, s.entrySpacing a v time = some (mm, c)
      ∧ (s.vsg.interrupted = true ∨ s.cfg .speedTol * max vRef v < 100 * differ → c = .unknown)
      ∧ (s.vsg.interrupted = false → 100 * differ ≤ s.cfg .speedTol * max vRef v →
        c = if mm ≤ s.cfg .shortMax then .short else if mm ≤ s.cfg .midMax then .mid else .long)))
  ∧ (∀ (marked : Bool) (since older : List SpacingClass), (∀ c ∈ since, c ≠ .mid) →
    (older = [] ∨ older.head? = some .mid) → (since ++ older).length ≤ 6 →
    vehicleForm marked (since.reverse ++ older) =
      if marked = true ∨ (older = [] ∧ since.length = 6) ∨ .unknown ∈ since then .unclassified
      else if since = [.long] then .two
      else if since = [.short, .long, .short] then .four
      else if since = [.short, .short, .long, .short, .short] then .six
      else .unclassified)

/-- GATE_SENSOR_EDGE. With no train open it is ignored in OFFLINE and told to the site otherwise. With a train open it
restarts the clear timer and, while moving, the halt timer; with no gate open it applies the gate pointer by the motion and
opens both gates for the gate time, held while HALTED. With a gate pair open it acts as it does once the open gates have closed
TRUNCATED at its time. (The rest timer of a wake from SWEEP takes Tclear as it stood before the settle point: the model's choice,
assumption 4.) -/
def Obligations.GateEdgeOpensBothGates : Prop :=
  ∀ (t : Nat) (s : State), s.SiteOk → s.NodesOk → s.RoomToWake →
    let now := max s.now t
    let at_ : State := { s with now := now }
    (s.ssq.site = .offline → exec (.gateSensorEdge t) s = .next at_)
    ∧ (s.ssq.site ≠ .offline → s.axt.train = none → exec (.gateSensorEdge t) s = .next at_.edgeReported)
    ∧ (∀ tr, s.axt.train = some tr → s.tsu.pair = none →
      let moving : Prop := tr.motion ≠ .halted
      let taken : RelDir := match tr.motion with | .movingFwd => RelDir.forward | .movingRev => .reverse | .halted => tr.lastDir
      let v := if moving then tr.speed else tr.lastSpeed
      let time := min (max (s.cfg .lg * 1000000 / v) 10000) 2000000
      let d := if taken = .forward then tr.d0 else match tr.d0 with | .east => .west | .west => .east
      let gate (x : Side) : Gate :=
        { count := 0, peak := none, gapCount := 0, gapped := false
          calNone := (s.tsu.scanners.get x).ref.isNone, calAged := at_.scannerAged x }
      let opened (axle : Option Nat) (move : Option Move) : GatePair :=
        { axle := axle, move := move, dir := d, clock := if moving then .running (now + time) else .held time
          gates := { a := some (gate .a), b := some (gate .b) }, undone := false, stored := false, urgent := false }
      let p := s.tsu.pointer
      exec (.gateSensorEdge t) s = .next { at_ with
        axt := { s.axt with train := some { tr with
          clearTimer := some (now + 1000000 * s.cfg .tclear)
          haltTimer := if moving then some (now + s.haltAfter tr.speed) else tr.haltTimer } }
        tsu := if taken = .forward ∧ p < tr.n then
            { s.tsu with pointer := p + 1, pair := some (opened (some p) (some .forward)) }
          else if taken = .reverse ∧ 0 < p then
            { s.tsu with pointer := p - 1, pair := some (opened (some (p - 1)) (some .reverse)) }
          else { s.tsu with gateOrphan := min (s.tsu.gateOrphan + 1) 65535, pair := some (opened none none) } })
    ∧ (s.axt.train ≠ none → s.tsu.pair ≠ none → exec (.gateSensorEdge t) s = exec (.gateSensorEdge t) (at_.closeGates true))

/-- PAIR_TIMER_EXPIRY returns its machine to IDLE and counts a half crossing. HALT_TIMER_EXPIRY of a moving train makes it
HALTED at speed 0 with the stand timer started for Tstand, tells the segmenter, holds an open gate pair's remaining time, and
sets HALTED_ON_SITE exactly where N is above X. A timer that does not run does nothing (the model's choice, assumption 2). -/
def Obligations.PairAndHaltTimersExpire : Prop :=
  ∀ (s : State),
    (∀ (pr : Pair) (d : Nat), (s.axt.pairs.get pr).timer = some d → exec (.pairTimerExpiry pr) s =
      .next { s with now := max s.now d, axt := { s.axt with pairs := s.axt.pairs.upd pr fun m =>
        { st := .idle, timer := none, halfCrossings := min (m.halfCrossings + 1) 65535 } } })
    ∧ (∀ pr : Pair, (s.axt.pairs.get pr).timer = none → exec (.pairTimerExpiry pr) s = .next s)
    ∧ (∀ tr, s.axt.train = some tr → ∀ d, tr.haltTimer = some d → tr.motion ≠ .halted →
      ∀ h, s.rps.slots[tr.slot] = some h → h.st = .filling → h.report.header.number = tr.number →
      let now := max s.now d
      let header := h.report.header
      let flagged : HeldSlot := { h with report := { h.report with header := { header with
        flags := { header.flags with haltedOnSite := if tr.x < tr.n then true else header.flags.haltedOnSite } } } }
      exec .haltTimerExpiry s = .next { s with
        now := now
        axt := { s.axt with train := some { tr with
          motion := .halted, speed := 0, haltTimer := none, standTimer := some (now + 1000000 * s.cfg .tstand) } }
        vsg := { s.vsg with interrupted := true }
        tsu := { s.tsu with pair := s.tsu.pair.map fun p => { p with clock := match p.clock with
          | .running e => .held (e - now)
          | .held r => .held r } }
        rps := { s.rps with slots := s.rps.slots.set tr.slot (some flagged) } })
    ∧ ((∀ tr, s.axt.train = some tr → tr.haltTimer = none) → exec .haltTimerExpiry s = .next s)

/-- CLEAR_TIMER_EXPIRY closes the train COMPLETE_PASS where X = H, WITHDRAWN where N = 0, and otherwise only stops the timer;
STAND_TIMER_EXPIRY closes it COMPLETE_PASS, WITHDRAWN or STANDING by the same counts. A closure writes its kind and the end
time, closes every capture and gate, puts the slot into CLOSING in the sweep's queue, leaves no train open, and takes the site
to OFFLINE where disable-pending is set, else to DORMANT or PATROL, and on to ARMED where an approach is still latched in PULSE
mode or the input is active in LEVEL mode. The latch stays set in ARMED alone; DORMANT starts the sweep timer, ARMED in PULSE
mode the arming timer. The streams stop in OFFLINE and DORMANT, run on in PATROL, and from DORMANT resume in ARMED, where the
calibration call is made. Each change is announced on both ports, behind the notice of the first stale channel. A STANDING
closure sets the continuation mark. (A timer that does not run does nothing: the model's choice, assumption 2.)

Each capture open at a closure closes normally if its low count is above 0 and TRUNCATED otherwise, and its channel's quiet timer
starts; the other channels stay as they were. Every channel that was seen
stale in the train stands in the header's set, with its flag, and in a CHANNEL_STALE alert, in channel order. The open vehicle
closes at axle N - 1 with its form, an evaluation of it in flight is marked changed, and it is requested; with no axle it is
UNCLASSIFIED and INCOMPLETE, neither marked dirty nor requested (that its evaluation is marked changed is the model's reading of
R128, assumption 17; that it keeps its other results is the model's choice, assumption 31). -/
def Obligations.TrainClosure : Prop :=
  ∀ (s : State) (tr : OpenTrain) (h : HeldSlot), s.SiteOk → s.NodesOk → s.SlotsOk → s.axt.train = some tr →
    s.rps.slots[tr.slot] = some h →
    let vehicle (x : VehicleRecord) (v : SegVehicle) : VehicleRecord :=
      if tr.n - v.first = 0 then { x with count := 0, form := some .unclassified, isOpen := false, quality := some .incomplete }
      else { x with count := tr.n - v.first, form := some (vehicleForm v.deficitMark s.vsg.history), isOpen := false, dirty := true }
    let stale : List (Fin 16) := (List.finRange 16).filter fun k => (s.units[k]).staleSeen
    let carries : Prop := if s.levelMode = true then s.ssq.approachInput = true else s.ssq.latch = true
    let entered : SiteState := if s.ssq.disablePending = true then .offline else if s.ssq.dormancy = true then .dormant else .patrol
    let final : SiteState := if s.ssq.disablePending = false ∧ carries then .armed else entered
    let closes (c : Instr) (kind : ClosureKind) (d : Nat) : Prop :=
      let at_ : State := { s with now := max s.now d }
      let linked : State := match final with
        | .armed => if s.ssq.dormancy = true then at_.stopped.resumed.called else at_.called
        | .patrol => at_
        | _ => at_.stopped
      ∃ u, exec c s = .next u ∧ u.now = at_.now ∧ u.axt.train = none
        ∧ (∃ h', u.rps.slots[tr.slot] = some h' ∧ h'.st = .closing ∧ h'.report.header.number = tr.number
          ∧ h'.report.header.closure = some kind ∧ h'.report.header.endTime = some s.ssq.clock
          ∧ (∀ k : Fin 16, h'.report.header.staleChannels.getLsbD k.val = (s.units[k]).staleSeen)
          ∧ h'.report.header.flags.staleChannels = (h.report.header.flags.staleChannels || !stale.isEmpty)
          ∧ (∀ v vs, s.vsg.vehicles = v :: vs → vs.length < 256 →
            h'.report.vehicles = h.report.vehicles.modify vs.length (fun x => vehicle x v)
            ∧ s.Changed u .vehicle tr.slot tr.number vs.length
            ∧ (v.first < tr.n → (s.evu.lanes.get .vehicle).length < 16 →
              u.Requested .vehicle tr.slot tr.number vs.length False))
          ∧ (s.vsg.vehicles = [] ∨ 256 < s.vsg.vehicles.length → h'.report.vehicles = h.report.vehicles))
        ∧ u.vsg = s.vsg
        ∧ u.atq = (stale.map fun k => noticeAlert .channelStale (some (tr.number, tr.slot)) (some (channelRail k)) k.val).foldl
            (Atq.filed s.ssq.clock) s.atq
        ∧ (∀ (k : Fin 16) (c : Capture), (s.units[k]).capture = some c →
          let noise : Prop := 0 < c.lowCount ∧ c.distance < s.cfg .lmin * 10000
          u.units[k] = (s.units[k]).disposed tr noise c ∧ s.Stores u tr k c (decide (c.lowCount = 0)) false noise)
        ∧ (∀ k : Fin 16, u.channels[k] = if (s.units[k]).capture = none then s.channels[k] else
            { s.channels[k] with quiet := some (at_.now + 1000 * s.cfg .tquiet) })
        ∧ (∀ j : Fin 4, j ≠ tr.slot → u.rps.slots[j] = s.rps.slots[j]) ∧ u.rps.order = s.rps.order
        ∧ u.evu.sweepQueue = s.evu.sweepQueue ++ [tr.slot]
        ∧ (∀ c : Fin 16, (u.units[c]).capture = none) ∧ u.tsu.pair = none
        ∧ u.axt.continuation = (s.axt.continuation || decide (kind = .standing))
        ∧ u.axt.stray = s.axt.stray ∧ u.axt.unenteredExit = s.axt.unenteredExit
        ∧ (∀ pr, u.axt.pairs.get pr = if s.ssq.disablePending = true then
            { s.axt.pairs.get pr with st := .idle, timer := none } else s.axt.pairs.get pr)
        ∧ u.ssq = { s.ssq with
            site := final, streaming := final.streams, disablePending := false, latch := decide (final = .armed)
            armTimer := if final = .armed ∧ s.levelMode = false then some (at_.now + 1000000 * s.cfg .tarm) else none
            sweepTimer := if final = .dormant then some (at_.now + 1000000 * s.cfg .tsweep) else none
            sweepDurTimer := none, restTimer := none }
        ∧ u.nodes = linked.nodes ∧ u.tsu.scanners = linked.tsu.scanners ∧ u.tsu.calSkip = linked.tsu.calSkip
        ∧ (s.Room 3 → ∀ p, u.mpc.ports.get p = (s.mpc.ports.get p).sends (
            (if stale ≠ [] ∧ s.atq.queues.get .notice = []
                ∧ (s.cfg (match p with | .s => .maskS | .m => .maskM)).testBit 0 = true then [noticeFrame 0x43 [0, 1]] else [])
            ++ siteNotice entered .passage .trainClosure false s.ssq.clock
              :: (if final = .armed then [siteNotice .armed entered .approach false s.ssq.clock] else [])))
        ∧ u.mpc.active = s.mpc.active ∧ u.mpc.pendingCfg = s.mpc.pendingCfg
    (∀ d, tr.clearTimer = some d →
      (tr.x = tr.h → closes .clearTimerExpiry .completePass d)
      ∧ (tr.x ≠ tr.h → tr.n = 0 → closes .clearTimerExpiry .withdrawn d)
      ∧ (tr.x ≠ tr.h → tr.n ≠ 0 → exec .clearTimerExpiry s = .next { s with
          now := max s.now d, axt := { s.axt with train := some { tr with clearTimer := none } } }))
    ∧ (∀ d, tr.standTimer = some d →
      closes .standTimerExpiry (if tr.x = tr.h then .completePass else if tr.n = 0 then .withdrawn else .standing) d)
    ∧ (tr.clearTimer = none → exec .clearTimerExpiry s = .next s)
    ∧ (tr.standTimer = none → exec .standTimerExpiry s = .next s)

/-! ## Gauge links, channels and captures -/

/-- GAUGE_FRAME at its node. OFF: ignored. A bad frame is counted and changes nothing else. A good frame with the previous
sequence is a duplicate: counted, loss timer restarted. Any other good frame in SETTLING or PRESENT is accepted, a jump adding
the missing frames; in SETTLING it is one frame of the settle discard; in LOST it re-synchronises the node. Nothing outside the
gauge side, the captures, the engine and the store changes, and no other node.

A frame is good on a link where it arrives complete, bears the link's own node number, and its check value is that of its other
fields (their layout is the model's reading, assumption 9). -/
def Obligations.GaugeFrameMovesItsNode : Prop :=
  (∀ (g : Fin 4) (t : Nat) (a : GaugeArrival) (s : State),
    let n := s.nodes[g]
    let at_ : State := { s with now := max s.now t }
    let loss := some (at_.now + 1000 * s.cfg .tlost)
    let put (m : GaugeNode) : State := { at_ with nodes := s.nodes.set g m }
    ∃ u, exec (.gaugeFrame g t a) s = .next u
      ∧ (n.status = .off → u = at_)
      ∧ (n.status ≠ .off → goodGaugeFrame g a = none → u = put { n with bad := min (n.bad + 1) 65535 })
      ∧ (∀ f, goodGaugeFrame g a = some f → n.status = .settling ∨ n.status = .present → n.prev = some f.seq →
          u = put { n with duplicate := min (n.duplicate + 1) 65535, lossTimer := loss })
      ∧ (∀ f, goodGaugeFrame g a = some f → n.prev ≠ some f.seq →
          let missing := match n.prev with
            | none => n.missing
            | some q => if f.seq = q + 1 then n.missing else min (n.missing + (f.seq - q - 1).toNat) 65535
          let accepted : GaugeNode := { n with prev := some f.seq, lossTimer := loss, missing := missing }
          (n.status = .settling → u = put { accepted with
            settle := n.settle - 1, status := if n.settle ≤ 1 then .present else .settling })
          ∧ (n.status = .present → u.nodes = s.nodes.set g accepted))
      ∧ (∀ f, goodGaugeFrame g a = some f → n.status = .lost →
          let back : GaugeNode := { n with prev := some f.seq, lossTimer := loss }
          (1 ≤ n.settle → u = put { back with
            settle := n.settle - 1, status := if n.settle ≤ 1 then .present else .settling })
          ∧ (n.settle = 0 → u.nodes = s.nodes.set g { back with status := .present }))
      ∧ u.now = at_.now ∧ u.ssq = s.ssq ∧ u.axt = s.axt ∧ u.vsg = s.vsg ∧ u.tsu = s.tsu ∧ u.atq = s.atq ∧ u.mpc = s.mpc)
  ∧ (∀ (g : Fin 4) (a : GaugeArrival) (f : GaugeFrame), goodGaugeFrame g a = some f ↔ a = .frame f ∧ f.node.toNat = g.val
    ∧ f.check = crc ([f.node, f.seq]
      ++ u8 ((if f.overRange[0] = true then 1 else 0) + (if f.overRange[1] = true then 2 else 0)
        + (if f.overRange[2] = true then 4 else 0) + (if f.overRange[3] = true then 8 else 0))
      ++ i32 (f.samples[0]).toInt ++ i32 (f.samples[1]).toInt ++ i32 (f.samples[2]).toInt ++ i32 (f.samples[3]).toInt))

/-- With no train open, an accepted frame of a PRESENT node, or the frame that re-synchronises a LOST one with no settle discard
left, in PATROL or SWEEP sets or updates the baseline of each of its four channels that is clear and not over-range, with its
age 0 from then, and changes nothing else but the node; in ARMED no baseline changes.

In PASSAGE the same holds of each channel that the frame leaves clear, that is of one with no capture open, no quiet timer
running and a load below Ton; every other baseline stays as it is. -/
def Obligations.BaselineFollowsClearSamples : Prop :=
  (∀ (g : Fin 4) (t : Nat) (a : GaugeArrival) (f : GaugeFrame) (s : State), s.axt.train = none →
    goodGaugeFrame g a = some f → (s.nodes[g]).Delivers f.seq →
    let now := max s.now t
    let node : State := { s with now := now, nodes := s.nodes.set g { s.nodes[g] with
      status := .present, prev := some f.seq, lossTimer := some (now + 1000 * s.cfg .tlost) } }
    let sample (k : Fin 16) : Int := (f.samples.toList.getD (k.val % 4) 0).toInt
    let z (k : Fin 16) : Int := match (s.channels[k]).z with
      | none => 256 * sample k
      | some z =>
        let e := 256 * sample k - z
        z + e / 2 ^ (if 256 * (s.cfg .wfast : Int) < e ∨ 256 * (s.cfg .wfast : Int) < -e then s.cfg .kCoarse
          else s.cfg .kFine)
    (s.ssq.site = .patrol ∨ s.ssq.site = .sweep → exec (.gaugeFrame g t a) s = .next { node with
      channels := Vector.ofFn fun k : Fin 16 =>
        if k.val / 4 = g.val ∧ (s.units[k]).capture = none ∧ (s.channels[k]).quiet = none
            ∧ f.overRange.toList.getD (k.val % 4) false = false
        then { s.channels[k] with z := some (z k), ageFrom := now } else s.channels[k] })
    ∧ (s.ssq.site = .armed → exec (.gaugeFrame g t a) s = .next node))
  ∧ (∀ (g j : Fin 4) (t : Nat) (a : GaugeArrival) (f : GaugeFrame) (s : State), s.axt.train ≠ none → s.ssq.site = .passage →
    goodGaugeFrame g a = some f → (s.nodes[g]).Delivers f.seq →
    let k := nodeChannel g j
    let old := s.channels[k]
    let sample : Int := (f.samples[j]).toInt
    let tracked : Prop := (s.units[k]).capture = none ∧ old.quiet = none ∧ f.overRange[j] = false
      ∧ old.convert sample false < s.cfg .ton
    ∃ u, exec (.gaugeFrame g t a) s = .next u
      ∧ (¬ tracked → (u.channels[k]).z = old.z ∧ (u.channels[k]).ageFrom = old.ageFrom)
      ∧ (tracked → (u.channels[k]).ageFrom = max s.now t ∧ (u.channels[k]).z = match old.z with
        | none => some (256 * sample)
        | some z =>
          let e := 256 * sample - z
          some (z + e / 2 ^ (if 256 * (s.cfg .wfast : Int) < e ∨ 256 * (s.cfg .wfast : Int) < -e then s.cfg .kCoarse
            else s.cfg .kFine)))
      ∧ ∀ i : Fin 16, i.val / 4 ≠ g.val → u.channels[i] = s.channels[i])

/-- In PASSAGE an accepted frame of a PRESENT node, or the frame that re-synchronises a LOST one with no settle discard left,
gives each of its channels a load. With no capture open a load below Ton leaves the unit as it was and one at or above it opens
a capture, attributed by the crib pointer. An open capture takes the sample while the train moves (distance, peak, SATURATED,
plateau, low count) as long as it does not close; while the train is HALTED it is suspended and only takes SATURATED.

A frame that jumps the sequence acts, in any site state, as the frame next in sequence does once the missing frames are counted
at the node and at each open capture of its channels, which is GAPPED beyond Gtol. -/
def Obligations.CapturesOpenAndFollow : Prop :=
  (∀ (g j : Fin 4) (t : Nat) (a : GaugeArrival) (f : GaugeFrame) (s : State) (tr : OpenTrain), s.ssq.site = .passage →
    s.axt.train = some tr → goodGaugeFrame g a = some f → (s.nodes[g]).Delivers f.seq →
    let at_ : State := { s with now := max s.now t }
    let k := nodeChannel g j
    let unit := s.units[k]
    let ovr := f.overRange[j]
    let y := (s.channels[k]).convert (f.samples[j]).toInt ovr
    let moving : Prop := tr.motion ≠ .halted
    let taken : RelDir := match tr.motion with | .movingFwd => RelDir.forward | .movingRev => .reverse | .halted => tr.lastDir
    let opened (axle : Option Nat) (move : Option Move) : Capture :=
      { slot := tr.slot, axle := axle, move := move
        dir := if taken = .forward then tr.d0 else match tr.d0 with | .east => .west | .west => .east
        speed := tr.speed, staleAtOpen := at_.stale k, defaultAtOpen := !(s.channels[k]).cal.isSet, distance := 0
        peak := if moving then y else 0, plateauSum := 0, plateauCount := 0, lowCount := 0, gapCount := 0, gapped := false
        saturated := ovr, reversed := false }
    let seen := unit.staleSeen || at_.stale k
    ∃ u, exec (.gaugeFrame g t a) s = .next u
      ∧ (unit.capture = none → y < s.cfg .ton → u.units[k] = unit)
      ∧ (unit.capture = none → s.cfg .ton ≤ y → u.units[k] =
          if taken = .forward ∧ unit.pointer < tr.n then { unit with
            pointer := unit.pointer + 1, capture := some (opened (some unit.pointer) (some .forward)), staleSeen := seen }
          else if taken = .reverse ∧ 0 < unit.pointer then { unit with
            pointer := unit.pointer - 1, capture := some (opened (some (unit.pointer - 1)) (some .reverse)), staleSeen := seen }
          else { unit with capture := some (opened none none), orphan := min (unit.orphan + 1) 65535, staleSeen := seen })
      ∧ (∀ c, unit.capture = some c → moving →
          let distance := c.distance + tr.speed
          let zone : Prop := s.cfg .pstart * 10000 ≤ distance ∧ distance < s.cfg .pend * 10000 ∧ ovr = false
          let low := if y < s.cfg .toff then c.lowCount + 1 else 0
          low < s.cfg .nclose → distance < s.cfg .lmax * 10000 → u.units[k] = { unit with capture := some { c with
            distance := distance, peak := max c.peak y, saturated := c.saturated || ovr
            plateauSum := if zone then c.plateauSum + y else c.plateauSum
            plateauCount := if zone then c.plateauCount + 1 else c.plateauCount, lowCount := low } })
      ∧ (∀ c, unit.capture = some c → ¬ moving →
          u.units[k] = { unit with capture := some { c with saturated := c.saturated || ovr } }))
  ∧ (∀ (g : Fin 4) (t : Nat) (a : GaugeArrival) (f : GaugeFrame) (q : Byte) (s : State), goodGaugeFrame g a = some f →
    (s.nodes[g]).status = .present → (s.nodes[g]).prev = some q → f.seq ≠ q → f.seq ≠ q + 1 →
    let missing := (f.seq - q - 1).toNat
    let gap (n : Nat) := min (n + missing) 65535
    exec (.gaugeFrame g t a) s = exec (.gaugeFrame g t a) { s with
      nodes := s.nodes.set g { s.nodes[g] with prev := some (f.seq - 1), missing := gap (s.nodes[g]).missing }
      units := Vector.ofFn fun k : Fin 16 => if k.val / 4 = g.val then
          { s.units[k] with capture := (s.units[k]).capture.map fun c => { c with
            gapCount := gap c.gapCount, gapped := c.gapped || decide (s.cfg .gtol < gap c.gapCount) } }
        else s.units[k] })

/-- A capture that reaches Nclose low samples, by a frame of a PRESENT node or by the one that re-synchronises a LOST one,
closes: the quiet timer starts, and by the first case that applies it is discarded (ORPHAN), turned about (pointer back to its
before value, at most N, undone counted), NOISE below Lmin (pointer back, counted), beyond the table (counted), or stored as a
crib record of its axle, whose set is dirty. One that reaches Lmax without it closes TRUNCATED: the quiet timer starts, it is
disposed of in the same way but is never NOISE, its record bears TRUNCATED, and a load at or above Ton opens a new capture at
once, with the pointer applied again. A record stored marks an evaluation of its set in flight changed and, at the far crib of
its direction, requests the set. -/
def Obligations.CapturesCloseAndAreStored : Prop :=
  ∀ (g j : Fin 4) (t : Nat) (a : GaugeArrival) (f : GaugeFrame) (s : State) (tr : OpenTrain) (c : Capture),
    s.ssq.site = .passage → s.axt.train = some tr → tr.motion ≠ .halted → goodGaugeFrame g a = some f →
    (s.nodes[g]).Delivers f.seq →
    (s.units[nodeChannel g j]).capture = some c →
    let at_ : State := { s with now := max s.now t }
    let k := nodeChannel g j
    let ovr := f.overRange[j]
    let y := (s.channels[k]).convert (f.samples[j]).toInt ovr
    let distance := c.distance + tr.speed
    let inZone : Prop := s.cfg .pstart * 10000 ≤ distance ∧ distance < s.cfg .pend * 10000 ∧ ovr = false
    let used : Capture := { c with
      distance := distance, peak := max c.peak y, saturated := c.saturated || ovr
      plateauSum := if inZone then c.plateauSum + y else c.plateauSum
      plateauCount := if inZone then c.plateauCount + 1 else c.plateauCount
      lowCount := if y < s.cfg .toff then c.lowCount + 1 else 0 }
    let noise : Prop := distance < s.cfg .lmin * 10000
    let quiet := some (at_.now + 1000 * s.cfg .tquiet)
    ∃ u, exec (.gaugeFrame g t a) s = .next u
      ∧ (s.cfg .nclose ≤ used.lowCount → (u.channels[k]).quiet = quiet ∧ u.units[k] = (s.units[k]).disposed tr noise used
          ∧ s.Stores u tr k used false false noise)
      ∧ (used.lowCount < s.cfg .nclose → s.cfg .lmax * 10000 ≤ distance →
          let shut := (s.units[k]).disposed tr False used
          (u.channels[k]).quiet = quiet
          ∧ u.units[k] = (if y < s.cfg .ton then shut
              else shut.opened tr (at_.stale k) (!(s.channels[k]).cal.isSet) y ovr)
          ∧ s.Stores u tr k used true false False)

/-- A sample's load by R73: 0 on an UNSET baseline; otherwise, of the counts above the baseline's floor, 0 where they are not
above 0, and the four segments summed, divided by 4096 with floor and held to 0..6000. An over-range sample converts to 6000
whatever the baseline (R74). -/
def Obligations.ConversionSumsTheSegments : Prop :=
  ∀ (c : Channel) (x : Int), c.cal.Admitted →
    let clamp (v lo hi : Int) : Int := if v < lo then lo else if hi < v then hi else v
    c.convert x true = 6000
    ∧ (c.z = none → c.convert x false = 0)
    ∧ (∀ z, c.z = some z →
      let d := x - z / 256
      let sum : Int := c.cal.m0 * min d c.cal.b1 + c.cal.m1 * clamp (d - c.cal.b1) 0 (c.cal.b2 - c.cal.b1)
        + c.cal.m2 * clamp (d - c.cal.b2) 0 (c.cal.b3 - c.cal.b2) + c.cal.m3 * max (d - c.cal.b3) 0
      (d ≤ 0 → c.convert x false = 0) ∧ (0 < d → (c.convert x false : Int) = clamp (sum / 4096) 0 6000))

/-- GAUGE_LOSS_TIMER_EXPIRY makes a SETTLING or PRESENT node LOST: counted, the captures of its channels closed, NODE_LOST
posted. QUIET_TIMER_EXPIRY stops the channel's quiet timer alone. SHUTTER_TIMER_EXPIRY in WAITING fails the calibration and
posts CAL_FAILED. SCANNER_LOSS_TIMER_EXPIRY makes a PRESENT scanner LOST: its open gate closes, an accumulating calibration
fails, NODE_LOST is posted. A timer that does not run does nothing (the model's choice, assumption 2).

A capture that its node's loss closes is disposed of or stored, its record GAPPED, and its quiet timer starts. A gate that its
scanner's loss closes does so with the mark GAPPED, the scanner LOST already. -/
def Obligations.LinkTimersExpire : Prop :=
  ∀ (s : State),
    let train := s.axt.train.map fun t => (t.number, t.slot)
    (∀ (g : Fin 4) (d : Nat), (s.nodes[g]).lossTimer = some d →
      (s.nodes[g]).status = .settling ∨ (s.nodes[g]).status = .present →
      ∃ u, exec (.gaugeLossTimerExpiry g) s = .next u ∧ u.now = max s.now d
        ∧ u.nodes = s.nodes.set g { s.nodes[g] with
            status := .lost, lossTimer := none, losses := min ((s.nodes[g]).losses + 1) 65535 }
        ∧ (∀ k : Fin 16, k.val / 4 = g.val → s.axt.train ≠ none → (u.units[k]).capture = none)
        ∧ (∀ k : Fin 16, k.val / 4 ≠ g.val → u.units[k] = s.units[k] ∧ u.channels[k] = s.channels[k])
        ∧ (∀ tr, s.axt.train = some tr → ∀ (k : Fin 16) (c : Capture), k.val / 4 = g.val → (s.units[k]).capture = some c →
          u.units[k] = (s.units[k]).disposed tr False c ∧ s.Stores u tr k c false true False
          ∧ u.channels[k] = { s.channels[k] with quiet := some (max s.now d + 1000 * s.cfg .tquiet) })
        ∧ s.PostedAfter u 0 (noticeAlert .nodeLost train none g.val)
        ∧ u.ssq = s.ssq ∧ u.axt = s.axt ∧ u.vsg = s.vsg ∧ u.tsu = s.tsu ∧ u.mpc.active = s.mpc.active)
    ∧ (∀ (k : Fin 16) (d : Nat), (s.channels[k]).quiet = some d → exec (.quietTimerExpiry k) s = .next { s with
        now := max s.now d, channels := s.channels.set k { s.channels[k] with quiet := none } })
    ∧ (∀ (x : Side) (d : Nat), (s.tsu.scanners.get x).shutterTimer = some d → (s.tsu.scanners.get x).progress = .waiting →
        let v : State := { s with now := max s.now d, tsu := { s.tsu with scanners := s.tsu.scanners.upd x fun y =>
          { y with calState := .failed, progress := .idle, shutterTimer := none, shutterClosed := false } } }
        exec (.shutterTimerExpiry x) s = .next (v.post
          (noticeAlert .calFailed none (some x) (match x with | .a => 0 | .b => 1))))
    ∧ (∀ (x : Side) (d : Nat), (s.tsu.scanners.get x).lossTimer = some d → (s.tsu.scanners.get x).status = .present →
      let y := s.tsu.scanners.get x
      let failed : Prop := y.progress = .accumulating
      ∃ u, exec (.scannerLossTimerExpiry x) s = .next u ∧ u.now = max s.now d
        ∧ u.tsu.scanners.get x = { y with
            status := .lost, lossTimer := none, losses := min (y.losses + 1) 65535
            calState := if failed then .failed else y.calState, progress := if failed then .idle else y.progress
            shutterTimer := if failed then none else y.shutterTimer
            shutterClosed := if failed then false else y.shutterClosed }
        ∧ u.tsu.scanners.get (Side.other x) = s.tsu.scanners.get (Side.other x)
        ∧ (s.axt.train ≠ none → u.gateOf x = none)
        ∧ (let closed := ({ s with now := max s.now d, tsu := { s.tsu with scanners := s.tsu.scanners.upd x fun y =>
              { y with status := .lost, lossTimer := none } } } : State).closeGate x true false
          u.rps = closed.rps ∧ u.evu = closed.evu ∧ u.tsu = { closed.tsu with scanners := u.tsu.scanners })
        ∧ s.PostedAfter u (if failed then 1 else 0)
            (noticeAlert .nodeLost train (some x) (match x with | .a => 4 | .b => 5))
        ∧ u.ssq = s.ssq ∧ u.axt = s.axt ∧ u.vsg = s.vsg ∧ u.nodes = s.nodes ∧ u.channels = s.channels ∧ u.units = s.units
        ∧ u.mpc.active = s.mpc.active)
    ∧ (∀ g : Fin 4, (s.nodes[g]).lossTimer = none → exec (.gaugeLossTimerExpiry g) s = .next s)
    ∧ (∀ k : Fin 16, (s.channels[k]).quiet = none → exec (.quietTimerExpiry k) s = .next s)
    ∧ (∀ x, (s.tsu.scanners.get x).shutterTimer = none → exec (.shutterTimerExpiry x) s = .next s)
    ∧ (∀ x, (s.tsu.scanners.get x).lossTimer = none → exec (.scannerLossTimerExpiry x) s = .next s)

/-! ## Scanners and gates -/

/-- SCANNER_FRAME. OFF: ignored. A bad frame is counted, a duplicate is counted and restarts the loss timer, and neither
changes anything else. An accepted frame takes the sequence and restarts the loss timer, a jump adds its missing frames, and a
LOST scanner is PRESENT again. The frame then, the recovering one of a LOST scanner too, drives the calibration by the table of
R136, the open gate by R141 and the ambient filter by R138.

A frame that jumps the sequence acts as the frame next in sequence does once the missing frames are counted at the scanner and at
its open gate, which is GAPPED beyond Gtol. (That the gate's count holds at 65535 is the model's choice, assumption 30.)

A frame is good on a scanner's link where it arrives complete, bears that scanner's node number, and its check value is that of
its other fields (their layout is the model's reading, assumption 9). -/
def Obligations.ScannerFrameIsTaken : Prop :=
  (∀ (x : Side) (t : Nat) (a : ScannerArrival) (s : State),
    let y := s.tsu.scanners.get x
    let at_ : State := { s with now := max s.now t }
    let loss := some (at_.now + 1000 * s.cfg .tlost)
    let put (m : Scanner) : State := { at_ with tsu := { s.tsu with scanners := s.tsu.scanners.upd x (fun _ => m) } }
    ∃ u, exec (.scannerFrame x t a) s = .next u
      ∧ (y.status = .off → u = at_)
      ∧ (y.status ≠ .off → goodScannerFrame x a = none → u = put { y with bad := min (y.bad + 1) 65535 })
      ∧ (∀ f, goodScannerFrame x a = some f → y.status = .present → y.prev = some f.seq →
          u = put { y with duplicate := min (y.duplicate + 1) 65535, lossTimer := loss })
      ∧ (∀ f, goodScannerFrame x a = some f → y.status = .lost ∨ (y.status = .present ∧ y.prev ≠ some f.seq) →
          let z := u.tsu.scanners.get x
          let limit (v lo hi : Int) : Int := if v < lo then lo else if hi < v then hi else v
          let reading : Option Int := y.ref.map fun r =>
            limit (r.tRef + ((f.sample.toNat : Int) - r.sRef) * s.cfg (match x with | .a => .gainA | .b => .gainB) / 1024)
              (-500) 2000
          let gate := s.tsu.pair.bind fun p => p.gates.get x
          (z.status = .present ∧ z.prev = some f.seq ∧ z.lossTimer = loss ∧ z.bad = y.bad ∧ z.duplicate = y.duplicate
            ∧ z.losses = y.losses ∧ z.missing = (match y.status, y.prev with
              | .present, some q => if f.seq = q + 1 then y.missing else min (y.missing + (f.seq - q - 1).toNat) 65535
              | _, _ => y.missing))
          ∧ (y.progress = .idle ∨ (y.progress = .waiting ∧ f.shutter = .opened) → z.progress = y.progress
            ∧ z.calState = y.calState ∧ z.ref = y.ref ∧ z.shutterTimer = y.shutterTimer
            ∧ z.shutterClosed = y.shutterClosed ∧ z.calSum = y.calSum ∧ z.calCount = y.calCount ∧ u.atq = s.atq)
          ∧ (y.progress ≠ .idle → f.shutter = .closed →
            let sum := y.calSum + f.sample.toNat
            let count := y.calCount + 1
            let tRef := limit f.shutterTemp.toInt (-500) 2000
            z.calSum = sum ∧ z.calCount = count ∧ z.shutterTimer = none ∧ u.atq = s.atq
            ∧ (count < 64 * s.cfg .calBlocks → z.progress = .accumulating ∧ z.calState = y.calState ∧ z.ref = y.ref
              ∧ z.shutterClosed = y.shutterClosed ∧ z.ambient = y.ambient)
            ∧ (64 * s.cfg .calBlocks ≤ count → z.progress = .idle ∧ z.calState = .valid ∧ z.shutterClosed = false
              ∧ z.ref = some { sRef := (2 * sum + count) / (2 * count), tRef := tRef, time := s.ssq.clock, validAt := at_.now }
              ∧ z.ambient = some (y.ambient.getD (64 * tRef))))
          ∧ (y.progress = .accumulating → f.shutter = .opened → z.progress = .idle ∧ z.calState = .failed ∧ z.ref = y.ref
            ∧ z.shutterClosed = false
            ∧ s.PostedAfter u 0 (noticeAlert .calFailed none (some x) (match x with | .a => 0 | .b => 1)))
          ∧ (y.progress = .idle → z.ambient = match reading with
            | none => y.ambient
            | some v =>
              if (s.ssq.site = .patrol ∨ s.ssq.site = .sweep ∨ s.ssq.site = .passage) ∧ f.shutter = .opened ∧ gate = none then
                y.ambient.map fun amb => amb + (64 * v - amb) / 2 ^ s.cfg .ka
              else y.ambient)
          ∧ (∀ q, gate = some q → y.progress = .idle → y.status = .lost ∨ y.prev = none ∨ y.prev = some (f.seq - 1) →
            u.gateOf x = some (
              if (∃ tr, s.axt.train = some tr ∧ tr.motion ≠ .halted) ∧ f.shutter = .opened then
                { q with count := min (q.count + 1) 65535
                         peak := match reading with
                           | none => q.peak
                           | some v => some (match q.peak with | none => v | some old => max old v) }
              else q)))
      ∧ u.tsu.scanners.get (Side.other x) = s.tsu.scanners.get (Side.other x)
      ∧ u.tsu.pointer = s.tsu.pointer ∧ u.now = at_.now ∧ u.ssq = s.ssq ∧ u.axt = s.axt ∧ u.vsg = s.vsg
      ∧ u.nodes = s.nodes ∧ u.channels = s.channels ∧ u.units = s.units ∧ u.evu = s.evu ∧ u.rps = s.rps
      ∧ u.mpc.active = s.mpc.active)
  ∧ (∀ (x : Side) (t : Nat) (a : ScannerArrival) (f : ScannerFrame) (q : Byte) (s : State), goodScannerFrame x a = some f →
    (s.tsu.scanners.get x).status = .present → (s.tsu.scanners.get x).prev = some q → f.seq ≠ q → f.seq ≠ q + 1 →
    let gap (n : Nat) := min (n + (f.seq - q - 1).toNat) 65535
    exec (.scannerFrame x t a) s = exec (.scannerFrame x t a) { s with tsu := { s.tsu with
      scanners := s.tsu.scanners.upd x fun y => { y with prev := some (f.seq - 1), missing := gap y.missing }
      pair := s.tsu.pair.map fun p => { p with gates := p.gates.upd x fun o => o.map fun r => { r with
        gapCount := gap r.gapCount, gapped := r.gapped || decide (s.cfg .gtol < gap r.gapCount) } } } })
  ∧ (∀ (x : Side) (a : ScannerArrival) (f : ScannerFrame), goodScannerFrame x a = some f ↔ a = .frame f
    ∧ f.node.toNat = (match x with | .a => 0 | .b => 1)
    ∧ f.check = crc ([f.node, f.seq] ++ u8 (match f.shutter with | .opened => 0 | .closed => 1) ++ u16 f.shutterTemp.toNat
      ++ u16 f.sample.toNat))

/-- GATE_TIME_EXPIRY of a running pair closes the gates still open, A then B. An ORPHAN pair leaves nothing. A pair whose motion
has turned about puts the gate pointer back to its before value, at most N, and counts it undone, once (the model's reading,
assumption 13). A pair turned about or beyond the table writes no record and makes no request, unless a gate of it that closed
before was stored. Any other pair writes a gate record per gate closed, unTRUNCATED, with the scanner's ambient in 0.1 degrees,
floored; the set is dirty, its evaluation in flight is marked changed, and it is requested, urgently where a stored record stands
Thot or more above its ambient. The pair is gone. A held pair's time does not expire (the model's choice, assumption 2).

Any closing of one open gate, whatever its cause and marks, does the same for that gate: what its pair has come to is kept until
the last gate closes, and then the pair is gone and, with a gate of it stored, requested. A gate that is not open does not
close. The closing of both gates, as at a reversal, a gate sensor edge or a closure, is that of gate A and then that of gate B,
each TRUNCATED where it is asked and not GAPPED by it. -/
def Obligations.GateTimeClosesTheGates : Prop :=
  (∀ (s : State) (p : GatePair) (tr : OpenTrain), s.tsu.pair = some p → s.axt.train = some tr →
    let turned : Prop := p.dir ≠ tr.lastTravel
    (∀ r, p.clock = .held r → exec .gateTimeExpiry s = .next s)
    ∧ (∀ d, p.clock = .running d → (∃ x, p.gates.get x ≠ none) → ∃ u, exec .gateTimeExpiry s = .next u
      ∧ u.now = max s.now d ∧ u.tsu.pair = none ∧ u.tsu.scanners = s.tsu.scanners
      ∧ (p.axle = none → u = { s with now := max s.now d, tsu := { s.tsu with pair := none } })
      ∧ (∀ axle, p.axle = some axle →
        let stores : Prop := ¬ turned ∧ axle < 512
        let hot : Prop := ∃ x, ∃ q, p.gates.get x = some q ∧ ∃ top, q.peak = some top ∧
          ∃ amb, (s.tsu.scanners.get x).ambient = some amb ∧ (s.cfg .thot : Int) ≤ top - amb / 64
        (turned → p.undone = false → u.tsu.gateUndone = min (s.tsu.gateUndone + 1) 65535
          ∧ u.tsu.pointer = min (if p.move = some .reverse then axle + 1 else axle) tr.n)
        ∧ (¬ turned ∨ p.undone = true → u.tsu.pointer = s.tsu.pointer ∧ u.tsu.gateUndone = s.tsu.gateUndone)
        ∧ (turned ∨ 512 ≤ axle → p.stored = false → u.rps = s.rps ∧ u.evu = s.evu)
        ∧ (∀ h, s.rps.slots[tr.slot] = some h → h.st = .filling → h.report.header.number = tr.number →
          (turned ∨ 512 ≤ axle → ∃ h', u.rps.slots[tr.slot] = some h' ∧ h'.report.axles = h.report.axles)
          ∧ (stores ∨ p.stored = true → (s.evu.lanes.get .thermal).length < 16 →
            u.Requested .thermal tr.slot tr.number axle (p.urgent = true ∨ (stores ∧ hot)))
          ∧ (stores → s.Changed u .thermal tr.slot tr.number axle)
          ∧ (stores → ∀ ax, h.report.axles[axle]? = some ax →
            ∃ h', u.rps.slots[tr.slot] = some h' ∧ ∃ ax', h'.report.axles[axle]? = some ax'
              ∧ h'.report.axles = h.report.axles.set axle ax' ∧ ax'.gateDirty = true
              ∧ ∀ x, ax'.gates.get x = match p.gates.get x with
                | none => ax.gates.get x
                | some q => some { peak := q.peak, count := q.count, ambient := (s.tsu.scanners.get x).ambient.map (· / 64)
                                   gapped := q.gapped, truncated := false, calAged := q.calAged, calNone := q.calNone })))
      ∧ u.ssq = s.ssq ∧ u.axt = s.axt ∧ u.vsg = s.vsg ∧ u.nodes = s.nodes ∧ u.channels = s.channels ∧ u.units = s.units
      ∧ u.atq = s.atq ∧ u.mpc = s.mpc))
  ∧ (∀ (s : State) (p : GatePair) (tr : OpenTrain) (x : Side) (q : Gate) (gapped truncated : Bool), s.tsu.pair = some p →
    s.axt.train = some tr → p.gates.get x = some q →
    let u := s.closeGate x gapped truncated
    let record : GateRecord :=
      { peak := q.peak, count := q.count, ambient := (s.tsu.scanners.get x).ambient.map (· / 64), gapped := q.gapped || gapped
        truncated := truncated, calAged := q.calAged, calNone := q.calNone }
    let turned : Bool := decide (p.axle ≠ none) && decide (p.dir ≠ tr.lastTravel)
    let stores : Bool := p.axle.any (· < 512) && !turned
    let hot : Bool := match record.peak, record.ambient with
      | some top, some amb => decide ((s.cfg .thot : Int) ≤ top - amb)
      | _, _ => false
    let left : GatePair := { p with
      gates := p.gates.upd x (fun _ => none), undone := p.undone || turned, stored := p.stored || stores
      urgent := p.urgent || (stores && hot) }
    let last : Prop := p.gates.get (match x with | .a => .b | .b => .a) = none
    u.tsu = { s.tsu with
        pair := if last then none else some left
        pointer := if turned = true ∧ p.undone = false then
            min ((p.axle.getD 0) + if p.move = some .reverse then 1 else 0) tr.n else s.tsu.pointer
        gateUndone := if turned = true ∧ p.undone = false then min (s.tsu.gateUndone + 1) 65535 else s.tsu.gateUndone }
    ∧ (stores = false → ¬ last ∨ p.stored = false ∨ p.axle = none → u.rps = s.rps ∧ u.evu = s.evu)
    ∧ (∀ h axle, s.rps.slots[tr.slot] = some h → p.axle = some axle → h.st = .filling → h.report.header.number = tr.number →
      (stores = true → s.Changed u .thermal tr.slot tr.number axle)
      ∧ (stores = true → ∀ ax, h.report.axles[axle]? = some ax → ∃ h', u.rps.slots[tr.slot] = some h'
        ∧ h'.report.axles = h.report.axles.set axle { ax with
            gates := ax.gates.upd x (fun _ => some record), gateDirty := true })
      ∧ (last → left.stored = true → (s.evu.lanes.get .thermal).length < 16 →
        u.Requested .thermal tr.slot tr.number axle (left.urgent = true)))
    ∧ u.now = s.now ∧ u.ssq = s.ssq ∧ u.axt = s.axt ∧ u.vsg = s.vsg ∧ u.nodes = s.nodes ∧ u.channels = s.channels
    ∧ u.units = s.units ∧ u.atq = s.atq ∧ u.mpc = s.mpc)
  ∧ (∀ (s : State) (x : Side) (gapped truncated : Bool), (∀ p, s.tsu.pair = some p → p.gates.get x = none) →
    s.closeGate x gapped truncated = s)
  ∧ (∀ (s : State) (truncated : Bool), s.closeGates truncated = (s.closeGate .a false truncated).closeGate .b false truncated)

/-! ## The evaluation engine -/

/-- A request reaching its lane is merged into a queued one of the same slot, train and target (urgent if either was), or joins
the tail of a lane of fewer than 16, or is dropped and counted in the lane and in the header of the report it names, with the
rewalk of a sweep serving that slot. One round of the arbitration grants, into E0 if it is free and E1 otherwise, the THERMAL
head where urgent precedence holds and else the first permitted head in the LRG order, whose lane moves to the last place; with
no free slot or no permitted head it grants nothing. A granted evaluation holds as its snapshot what its target's records then
stand at: a rail's eight crib places, both gate records with the train's running sums and counts and both scanners' status, or
the vehicle record, if there is one, with the results and peak levels of the axle records of its range.

Stale heads, whose slot no longer holds their train in FILLING or CLOSING, are removed and counted before each grant. An
arbitration takes its one or two grants in this way and ends with no stale head at all and with either both evaluation slots
taken or no permitted head. It keeps the evaluations in flight, takes requests from the heads of the lanes alone and changes
nothing else. (That heads which a grant brings up are examined at once is the model's reading, assumption 11; that a target
covering no axle record is permitted beside its own evaluation is the model's choice, assumption 29.) -/
def Obligations.RequestsAreLodgedAndGranted : Prop :=
  (∀ (s : State) (r : Request),
    let q := s.evu.lanes.get r.lane
    let like (x : Request) : Prop := x.slot = r.slot ∧ x.number = r.number ∧ x.target = r.target
    ((∃ x ∈ q, like x) → s.lodge r = { s with evu := { s.evu with lanes := s.evu.lanes.upd r.lane (fun _ =>
        q.map fun x => if like x then { x with urgent := x.urgent || r.urgent } else x) } })
    ∧ ((∀ x ∈ q, ¬ like x) → q.length < 16 →
        s.lodge r = { s with evu := { s.evu with lanes := s.evu.lanes.upd r.lane (fun _ => q ++ [r]) } })
    ∧ ((∀ x ∈ q, ¬ like x) → 16 ≤ q.length →
        (s.lodge r).evu.lanes = s.evu.lanes ∧ (s.lodge r).evu.evals = s.evu.evals
        ∧ (s.lodge r).evu.dropped = s.evu.dropped.upd r.lane (fun n => min (n + 1) 65535)
        ∧ (s.evu.sweepQueue.head? = some r.slot → s.evu.sweepResting = false → (s.lodge r).evu.rewalk = true)
        ∧ (s.evu.sweepQueue.head? = some r.slot → s.evu.sweepResting = true →
            (s.lodge r).evu.sweepResting = false ∧ (s.lodge r).evu.sweepPos = .axle 0 .railA)
        ∧ ∀ h, s.rps.slots[r.slot] = some h → h.st = .filling ∨ h.st = .closing → h.report.header.number = r.number →
            (s.lodge r).rps = { s.rps with slots := s.rps.slots.set r.slot (some { h with report := { h.report with
              header := { h.report.header with dropped := min (h.report.header.dropped + 1) 65535 } } }) })
    ∧ ((∀ l x, (s.evu.lanes.get l).head? = some x → s.liveReport x.slot x.number ≠ none) →
      let u := s.arbitrateOnce
      let permitted (l : Lane) : Prop := ∃ x, (s.evu.lanes.get l).head? = some x ∧ s.coverageFree (s.coverageOf x) = true
      let urgent : Prop := s.evu.urgentMark = false ∧
        ∃ x, (s.evu.lanes.get .thermal).head? = some x ∧ x.urgent = true ∧ s.coverageFree (s.coverageOf x) = true
      (∀ (e : Fin 2) (l : Lane) (x : Request) (before after : List Lane),
        s.evu.evals[e] = none → (e = 1 → s.evu.evals[(0 : Fin 2)] ≠ none) → (s.evu.lanes.get l).head? = some x → permitted l →
        (urgent → l = .thermal) → (¬ urgent → s.evu.lrg = before ++ l :: after ∧ ∀ l₁ ∈ before, ¬ permitted l₁) →
        u.evu.lanes = s.evu.lanes.upd l List.tail ∧ u.evu.lrg = s.evu.lrg.filter (· ≠ l) ++ [l]
        ∧ (urgent → u.evu.urgentMark = true)
        ∧ (¬ urgent → u.evu.urgentMark = if l = .thermal then false else s.evu.urgentMark)
        ∧ (∀ e' : Fin 2, e' ≠ e → u.evu.evals[e'] = s.evu.evals[e'])
        ∧ ∃ ev, u.evu.evals[e] = some ev ∧ ev.req = x ∧ ev.coverage = s.coverageOf x ∧ ev.config = s.mpc.active
          ∧ ev.changed = false ∧ ev.removed = false
          ∧ ∀ h, s.rps.slots[x.slot] = some h →
            (∀ ax, h.report.axles[x.target]? = some ax →
              (x.lane = .a → ev.snapshot = .rail ax.cribs.a.places) ∧ (x.lane = .b → ev.snapshot = .rail ax.cribs.b.places)
              ∧ (x.lane = .thermal → ev.snapshot = .thermal {
                  gates := ax.gates, sum := h.report.header.thermalSum, count := h.report.header.thermalCount
                  status := { a := s.tsu.scanners.a.status, b := s.tsu.scanners.b.status } }))
            ∧ (x.lane = .vehicle → h.report.vehicles[x.target]? = none → ev.snapshot = .vehicle none)
            ∧ (∀ v, x.lane = .vehicle → h.report.vehicles[x.target]? = some v → ∃ axles, ev.snapshot = .vehicle (some {
                  index := v.index, first := v.first, count := v.count, isOpen := v.isOpen, axles := axles })
                ∧ axles.length ≤ v.count
                ∧ ∀ j, j < v.count → axles[j]? = (h.report.axles[v.first + j]?).map fun ax =>
                  { results := ax.results, peakWheel := ax.peakWheel, peakBearing := ax.peakBearing }))
      ∧ ((∀ e : Fin 2, s.evu.evals[e] ≠ none) ∨ (∀ l, l ∈ s.evu.lrg ∨ l = .thermal → ¬ permitted l) →
        u.evu.lanes = s.evu.lanes ∧ u.evu.lrg = s.evu.lrg ∧ u.evu.urgentMark = s.evu.urgentMark
        ∧ u.evu.evals = s.evu.evals)
      ∧ u.rps = s.rps ∧ u.atq = s.atq ∧ u.mpc = s.mpc ∧ u.ssq = s.ssq ∧ u.axt = s.axt ∧ u.tsu = s.tsu))
  ∧ (∀ s : State,
    let stale (x : Request) : Bool := (s.liveReport x.slot x.number).isNone
    let v := s.purge
    let u := s.arbitrate
    v = { s with evu := { s.evu with lanes := v.evu.lanes, discarded := v.evu.discarded } }
    ∧ (∀ l, v.evu.lanes.get l = (s.evu.lanes.get l).dropWhile stale
      ∧ v.evu.discarded.get l = min (s.evu.discarded.get l + ((s.evu.lanes.get l).takeWhile stale).length) 65535)
    ∧ s.arbitrateOnce = v.arbitrateOnce
    ∧ (∀ l x, (u.evu.lanes.get l).head? = some x → s.liveReport x.slot x.number ≠ none)
    ∧ ((∀ e : Fin 2, u.evu.evals[e] ≠ none)
      ∨ ∀ l ∈ u.evu.lrg, ∀ x, (u.evu.lanes.get l).head? = some x → u.coverageFree (u.coverageOf x) = false)
    ∧ (∀ (e : Fin 2) (ev : Evaluation), s.evu.evals[e] = some ev → u.evu.evals[e] = some ev)
    ∧ (∀ l, u.evu.lanes.get l <:+ s.evu.lanes.get l)
    ∧ u = { s with evu := { s.evu with
        lanes := u.evu.lanes, lrg := u.evu.lrg, urgentMark := u.evu.urgentMark, evals := u.evu.evals
        discarded := u.evu.discarded } })

/-- EVALUATION_COMPLETION of a rail evaluation whose report still holds its train writes into the axle record of its target
alone: the wheel result merged by R120, the peak level raised by R121, the axle results of R122 where both stored results hold a
static load, the marks of R123, and the crib set clean unless it was marked dirty meanwhile. It posts WHEEL_IMPACT at a rise of
the peak above NORMAL, AXLE_OVERLOAD and SIDE_IMBALANCE at a mark newly set, in this order. A THERMAL one merges both bearing
results, raises the peak bearing level, with its alert, and enters each side that is not INCOMPLETE into the train's mean once.
A vehicle one writes the vehicle results unless it was removed, and posts END_IMBALANCE once: gross load, lowest quality and end
imbalance where all its axles hold a load, INCOMPLETE otherwise, and the worst peak levels of its axles. One that was removed or
whose snapshot was empty writes and posts nothing; a removed one leaves every dirty flag too. The header's peak counts follow
the peaks.

The evaluation slot is then free, the other evaluation slot is as it was, the completion test of the slot is made
(SweepStepWalksTheReport says what it does), and only then are the lanes arbitrated: until then no request has left a lane and
none has been granted.

Where the axle load, axle quality or a peak changed, the covering vehicle is marked dirty and, CLOSED, requested. A set marked
dirty meanwhile is requested again.

For a report whose slot has been taken the writes are dropped and counted as one (the model's reading, assumption 21), every
report stays as it is, and so do the slot states unless the sweep rests at that slot and its completion test is made, for which
an evaluation counts by its slot number (assumption 18). A free evaluation slot has nothing to complete (assumption 2). -/
def Obligations.CompletionWritesItsResults : Prop :=
  ∀ (e : Fin 2) (s : State), s.EvalsOk →
    (s.evu.evals[e] = none → exec (.evaluationCompletion e) s = .next s)
    ∧ ∀ ev, s.evu.evals[e] = some ev →
      let slot := ev.req.slot
      let value (i : Item) : Nat := ev.config.get i.idx
      let posted (ds : List AlertDraft) : Atq := ds.foldl (Atq.filed s.ssq.clock) s.atq
      let alert (level : AlertLevel) (kind : AlertKind) (axle vehicle : Option Nat) (side : Option Side) (x : Int) : AlertDraft :=
        { level := level, kind := kind, train := some (ev.req.number, slot), axle := axle, vehicle := vehicle, side := side
          value := x }
      let again (u : State) : Prop := ev.changed = true → (s.evu.lanes.get ev.req.lane).length < 16 →
        u.Requested ev.req.lane slot ev.req.number ev.req.target (ev.req.lane ≠ .vehicle ∧ ev.req.urgent = true)
      let covering (r : Report) : Option VehicleRecord :=
        r.vehicles.find? fun x => decide (x.first ≤ ev.req.target) && decide (ev.req.target < x.first + x.count)
      let moved (old new : Nat) (same now was : Prop) : Prop :=
        (same → new = old) ∧ (¬ same → now → new = old + 1) ∧ (¬ same → was → new = old - 1) ∧ (¬ now → ¬ was → new = old)
      let follows (r r' : Report) (ax ax' : AxleRecord) (u : State) : Prop :=
        let same : Prop := ax'.results.map (fun x => (x.load, x.quality)) = ax.results.map (fun x => (x.load, x.quality))
          ∧ ax'.peakWheel = ax.peakWheel ∧ ax'.peakBearing = ax.peakBearing
        (same ∨ covering r = none → r'.vehicles = r.vehicles)
        ∧ (∀ x, covering r = some x → ¬ same →
          r'.vehicles = r.vehicles.modify x.index (fun y => { y with dirty := true })
          ∧ s.Changed u .vehicle slot ev.req.number x.index
          ∧ (x.isOpen = false → x.index < r.vehicles.length → (s.evu.lanes.get .vehicle).length < 16 →
            u.Requested .vehicle slot ev.req.number x.index False))
        ∧ (∀ l : ResultLevel, l ≠ .absent → moved (r.header.wheelPeaks.standing l) (r'.header.wheelPeaks.standing l)
            (ax'.peakWheel = ax.peakWheel) (ax'.peakWheel = l) (ax.peakWheel = l))
        ∧ (∀ l : BearingLevel, l ≠ .absent → moved (r.header.bearingPeaks.standing l) (r'.header.bearingPeaks.standing l)
            (ax'.peakBearing = ax.peakBearing) (ax'.peakBearing = l) (ax.peakBearing = l))
      (∃ v : State, exec (.evaluationCompletion e) s = .next (v.completionTest slot).serveLanes ∧ v.evu.evals[e] = none
        ∧ v.ssq = s.ssq ∧ v.nodes = s.nodes ∧ v.tsu = s.tsu ∧ v.mpc.active = s.mpc.active ∧ v.mpc.pendingCfg = s.mpc.pendingCfg
        ∧ v.evu.sweepQueue = s.evu.sweepQueue ∧ (∀ k : Fin 4, (v.rps.slots[k]).map (·.st) = (s.rps.slots[k]).map (·.st))
        ∧ (∀ e' : Fin 2, e' ≠ e → (v.evu.evals[e']).map (·.req) = (s.evu.evals[e']).map (·.req))
        ∧ v.evu.lrg = s.evu.lrg ∧ v.evu.urgentMark = s.evu.urgentMark ∧ v.evu.discarded = s.evu.discarded
        ∧ ∀ l, (s.evu.lanes.get l).map (fun x => (x.slot, x.number, x.target)) <+:
            (v.evu.lanes.get l).map fun x => (x.slot, x.number, x.target))
      ∧ (s.liveReport slot ev.req.number = none → ∃ u, exec (.evaluationCompletion e) s = .next u
        ∧ (∀ k : Fin 4, (u.rps.slots[k]).map (·.report) = (s.rps.slots[k]).map (·.report)) ∧ u.atq = s.atq ∧ u.axt = s.axt
        ∧ (s.evu.sweepQueue.head? ≠ some slot ∨ s.evu.sweepResting = false ∨ s.evu.rewalk = true →
          u.rps.slots = s.rps.slots ∧ u.mpc = s.mpc ∧ u.ssq = s.ssq)
        ∧ u.rps.droppedWrites = (if ev.snapshot = .vehicle none ∨ ev.removed = true
            then s.rps.droppedWrites else min (s.rps.droppedWrites + 1) 65535)
        ∧ ((∀ l, s.evu.lanes.get l = []) → u.evu.evals[e] = none))
      ∧ ∀ h, s.rps.slots[slot] = some h → h.st = .filling ∨ h.st = .closing →
        h.report.header.number = ev.req.number →
        (∀ (side : Side) (ax : AxleRecord), h.report.axles[ev.req.target]? = some ax →
          ev.req.lane = (match side with | .a => Lane.a | .b => .b) → ∀ places, ev.snapshot = .rail places →
          let new := wheelResult ev.config places
          ∃ u, exec (.evaluationCompletion e) s = .next u ∧ ∃ h', u.rps.slots[slot] = some h'
            ∧ ∃ ax', h'.report.axles[ev.req.target]? = some ax' ∧ h'.report.axles = h.report.axles.set ev.req.target ax'
            ∧ ax'.wheels.get side = (match ax.wheels.get side with
              | none => some new
              | some old =>
                if old.quality.rank < new.quality.rank ∨ (old.quality = new.quality ∧ old.level.rank ≤ new.level.rank)
                then some new else some old)
            ∧ ax'.wheels.get (Side.other side) = ax.wheels.get (Side.other side)
            ∧ ax'.peakWheel.rank = max ax.peakWheel.rank new.level.rank
            ∧ (ax'.cribs.get side).places = (ax.cribs.get side).places
            ∧ (ax'.cribs.get side).dirty = (ev.changed && (ax.cribs.get side).dirty)
            ∧ ax'.cribs.get (Side.other side) = ax.cribs.get (Side.other side)
            ∧ (let loads : Option (Nat × Nat) := (ax'.wheels.a.bind (·.w)).bind fun wa => (ax'.wheels.b.bind (·.w)).map fun wb =>
                (wa, wb)
              let uneven (x : Nat × Nat) : Nat :=
                if x.1 + x.2 = 0 then 0 else (max x.1 x.2 - min x.1 x.2) * 100 / (x.1 + x.2)
              let heavy : Bool := !ax.overloadMark && loads.any fun x => value .amax < x.1 + x.2
              let askew : Bool := !ax.imbalanceMark && loads.any fun x => value .imax < uneven x
              let vehicle := (covering h.report).map (·.index)
              let level : Option AlertLevel := match new.level with
                | .watch => some .watch | .alert => some .alert | .critical => some .critical | _ => none
              ax'.overloadMark = (ax.overloadMark || heavy) ∧ ax'.imbalanceMark = (ax.imbalanceMark || askew)
              ∧ u.atq = posted (
                (if ax.peakWheel.rank < new.level.rank then level.toList.map fun l =>
                  alert l .wheelImpact (some ev.req.target) vehicle (some side) (new.hMax.getD 0 : Nat) else [])
                ++ (if heavy = true then loads.toList.map fun x =>
                  alert .alert .axleOverload (some ev.req.target) vehicle none (x.1 + x.2 : Nat) else [])
                ++ (if askew = true then loads.toList.map fun x =>
                  alert .watch .sideImbalance (some ev.req.target) vehicle none (uneven x : Nat) else []))
              ∧ (loads = none → ax'.results = ax.results))
            ∧ (∀ ra, ax'.wheels.get .a = some ra → ∀ rb, ax'.wheels.get .b = some rb → ∀ wa, ra.w = some wa → ∀ wb, rb.w = some wb →
              ax'.results = some { load := wa + wb, quality := if ra.quality.rank ≤ rb.quality.rank then ra.quality else rb.quality
                                   imbalance := if wa + wb = 0 then 0 else (max wa wb - min wa wb) * 100 / (wa + wb) })
            ∧ ax'.gates = ax.gates ∧ ax'.bearings = ax.bearings ∧ ax'.peakBearing = ax.peakBearing ∧ ax'.pass = ax.pass
            ∧ ax'.entryTime = ax.entryTime ∧ ax'.spacing = ax.spacing ∧ ax'.index = ax.index ∧ ax'.vehicle = ax.vehicle
            ∧ ax'.gateDirty = ax.gateDirty ∧ ax'.counted = ax.counted
            ∧ follows h.report h'.report ax ax' u ∧ ((ax.cribs.get side).dirty = true → again u))
        ∧ (∀ ax, h.report.axles[ev.req.target]? = some ax → ev.req.lane = .thermal → ∀ th, ev.snapshot = .thermal th →
          let fresh (x : Side) := bearingResult ev.config th x
          let counts (x : Side) : Bool := decide ((fresh x).quality ≠ .incomplete) && !(ax.counted.get x)
          let top := max (fresh .a).level.rank (fresh .b).level.rank
          let side : Side := if (fresh .a).level.rank = top then .a else .b
          ∃ u, exec (.evaluationCompletion e) s = .next u ∧ ∃ h', u.rps.slots[slot] = some h'
            ∧ ∃ ax', h'.report.axles[ev.req.target]? = some ax' ∧ h'.report.axles = h.report.axles.set ev.req.target ax'
            ∧ (∀ x, ax'.bearings.get x = (match ax.bearings.get x with
              | none => some (fresh x)
              | some old =>
                if old.quality.rank < (fresh x).quality.rank ∨
                  (old.quality = (fresh x).quality ∧ old.level.rank ≤ (fresh x).level.rank)
                then some (fresh x) else some old))
            ∧ ax'.peakBearing.rank = max ax.peakBearing.rank top
            ∧ u.atq = posted (if ax.peakBearing.rank < top then
                (match (fresh side).level with
                | .hot => [alert .critical .bearingHot (some ev.req.target) ((covering h.report).map (·.index)) (some side)
                    ((fresh side).rise.getD 0)]
                | .warm => [alert .alert .bearingWarm (some ev.req.target) ((covering h.report).map (·.index)) (some side)
                    ((fresh side).rise.getD 0)]
                | _ => []) else [])
            ∧ (∀ x, ax'.counted.get x = (ax.counted.get x || decide ((fresh x).quality ≠ .incomplete))
              ∧ h'.report.header.thermalSum.get x = h.report.header.thermalSum.get x
                + (if counts x = true then (fresh x).rise.getD 0 else 0)
              ∧ h'.report.header.thermalCount.get x = h.report.header.thermalCount.get x + (if counts x = true then 1 else 0))
            ∧ ax'.gateDirty = (ev.changed && ax.gateDirty) ∧ ax'.peakWheel = ax.peakWheel
            ∧ ax'.wheels = ax.wheels ∧ ax'.results = ax.results ∧ ax'.cribs = ax.cribs ∧ ax'.gates = ax.gates
            ∧ follows h.report h'.report ax ax' u ∧ (ax.gateDirty = true → again u))
        ∧ (∀ x, h.report.vehicles[ev.req.target]? = some x → ev.req.lane = .vehicle → ev.removed = false →
          ∀ v, ev.snapshot = .vehicle (some v) → ∃ u, exec (.evaluationCompletion e) s = .next u
            ∧ ∃ h', u.rps.slots[slot] = some h' ∧ ∃ x', h'.report.vehicles[ev.req.target]? = some x'
            ∧ h'.report.vehicles = h.report.vehicles.set ev.req.target x' ∧ h'.report.axles = h.report.axles
            ∧ (v.count = 0 ∨ v.axles.length ≠ v.count ∨ (∃ a ∈ v.axles, a.results = none) →
              x'.gross = none ∧ x'.endImbalance = none ∧ x'.quality = some .incomplete)
            ∧ (∀ rs : List AxleResults, 1 ≤ v.count → v.axles.length = v.count → v.axles.map (·.results) = rs.map some →
              let half := v.count / 2
              let front := ((rs.take half).map (·.load)).sum
              let back := ((rs.drop (v.count - half)).map (·.load)).sum
              x'.gross = some (rs.map (·.load)).sum
              ∧ x'.endImbalance = (if 1 ≤ half ∧ 0 < front + back then
                  some ((max front back - min front back) * 100 / (front + back)) else none)
              ∧ ∃ low ∈ rs, x'.quality = some low.quality ∧ ∀ r ∈ rs, low.quality.rank ≤ r.quality.rank)
            ∧ (∀ a ∈ v.axles, a.peakWheel.rank ≤ x'.worstWheel.rank ∧ a.peakBearing.rank ≤ x'.worstBearing.rank)
            ∧ (x'.worstWheel = .absent ∨ ∃ a ∈ v.axles, a.peakWheel = x'.worstWheel)
            ∧ (x'.worstBearing = .absent ∨ ∃ a ∈ v.axles, a.peakBearing = x'.worstBearing)
            ∧ x'.first = x.first ∧ x'.count = x.count ∧ x'.form = x.form ∧ x'.isOpen = x.isOpen
            ∧ x'.dirty = (ev.changed && x.dirty)
            ∧ (let askew : Bool := !x.endMark && x'.endImbalance.any fun i => value .emax < i
              x'.endMark = (x.endMark || askew)
              ∧ u.atq = posted (if askew = true then x'.endImbalance.toList.map fun i =>
                  alert .watch .endImbalance none (some ev.req.target) none (i : Nat) else []))
            ∧ (x.isOpen = false → x.dirty = true → again u))
        ∧ (ev.req.lane = .vehicle → ev.removed = true ∨ ev.snapshot = .vehicle none → ∃ u, exec (.evaluationCompletion e) s = .next u
          ∧ u.atq = s.atq ∧ u.rps.droppedWrites = s.rps.droppedWrites
          ∧ (∃ h', u.rps.slots[slot] = some h' ∧ h'.report.axles = h.report.axles
            ∧ h'.report.vehicles = if ev.removed = true then h.report.vehicles else
                h.report.vehicles.modify ev.req.target fun y => { y with dirty := ev.changed && y.dirty })
          ∧ (ev.removed = true → ∀ k : Fin 4, (u.rps.slots[k]).map (·.report) = (s.rps.slots[k]).map (·.report))
          ∧ (ev.removed = false → ∀ x, h.report.vehicles[ev.req.target]? = some x → x.isOpen = false → x.dirty = true → again u))

/-- SWEEP_STEP. With nothing to sweep, or at rest at the end of a pass, nothing happens. A target that is clean or in flight is
passed by. A dirty one is requested where its lane holds at most 7, and the sweep moves on; otherwise the sweep waits at it. At
the end of a pass, also where the step itself moves past the last target, a set rewalk mark starts a new pass; otherwise the
sweep rests, and a report with nothing dirty and no evaluation of its slot in flight becomes COMPLETE with its notice, with the
settle point begun where the site rests and no slot is CLOSING then, and the site moved on to ARMED where the mode is LEVEL by
then with the input active. An evaluation of a vehicle that was removed is not one of the vehicle that holds its index now. The
walk visits rail A, rail B and gates of each axle, then each vehicle. (That a waiting sweep tries again at a step, and that none
is taken at rest, are the model's choices, assumption 12; that no step is taken without a pass, assumption 2.)

With no report in the sweep's queue SWEEP_STEP does nothing.

An arbitration by which a request leaves the lane that the sweep waits for makes the sweep try its target again: it passes it
by, requests it or goes on waiting, as at a step; a lane that no request leaves makes it try nothing. (One try per arbitration,
after its grants, is the model's choice, assumption 12.)

The completion test of a slot makes it COMPLETE in the same way where the sweep rests on it with its rewalk mark clear, nothing
of its report is dirty and no evaluation of the slot, by its number (the model's reading, assumption 18), is in flight, and does
nothing otherwise. TRAIN COMPLETE carries the fields of R159 in their order. -/
def Obligations.SweepStepWalksTheReport : Prop :=
  (∀ (s : State) (k : Fin 4) (h : HeldSlot), s.SlotsOk → s.evu.sweepQueue.head? = some k →
    s.rps.slots[k] = some h →
    let axles := h.report.axles.length
    let pos : SweepPos := match s.evu.sweepPos with
      | .axle i x => if i < axles then .axle i x else .vehicle 0
      | .vehicle j => .vehicle j
    let next : SweepPos := match pos with
      | .axle i .railA => .axle i .railB
      | .axle i .railB => .axle i .gate
      | .axle i .gate => if i + 1 < axles then .axle (i + 1) .railA else .vehicle 0
      | .vehicle j => .vehicle (j + 1)
    let past (x : SweepPos) : Prop := ∃ j, x = .vehicle j ∧ h.report.vehicles.length ≤ j
    let lane : Lane := match pos with
      | .axle _ .railA => .a | .axle _ .railB => .b | .axle _ .gate => .thermal | .vehicle _ => .vehicle
    let target : Nat := match pos with | .axle i _ => i | .vehicle j => j
    let dirty : Bool := h.report.dirtyAt lane target
    let busy : Prop := ∃ (e : Fin 2) (ev : Evaluation), s.evu.evals[e] = some ev ∧ ev.req.lane = lane ∧ ev.req.slot = k
      ∧ ev.req.number = h.report.header.number ∧ ev.req.target = target ∧ ev.removed = false
    let ends (last : SweepPos) : Prop :=
      (s.evu.rewalk = true → exec .sweepStep s =
        .next { s with evu := { s.evu with sweepPos := .axle 0 .railA, sweepWaiting := false, rewalk := false } })
      ∧ (s.evu.rewalk = false →
        (h.report.clean = false ∨ ∃ (e : Fin 2) (ev : Evaluation), s.evu.evals[e] = some ev ∧ ev.req.slot = k) →
        exec .sweepStep s = .next { s with evu := { s.evu with sweepPos := last, sweepWaiting := false, sweepResting := true } })
      ∧ (s.evu.rewalk = false → h.report.clean = true →
        (∀ (e : Fin 2) (ev : Evaluation), s.evu.evals[e] = some ev → ev.req.slot ≠ k) →
        s.RoomToRest → s.NodesOk ∨ s.staysAtRest → exec .sweepStep s = .next (s.completed k h))
    (s.evu.sweepResting = true → exec .sweepStep s = .next s)
    ∧ (s.evu.sweepResting = false → past pos → ends pos)
    ∧ (s.evu.sweepResting = false → ¬ past pos → (dirty = false ∨ busy) → past next → ends next)
    ∧ (s.evu.sweepResting = false → ¬ past pos → (dirty = false ∨ busy) → ¬ past next → exec .sweepStep s =
        .next { s with evu := { s.evu with sweepPos := next, sweepWaiting := false } })
    ∧ (s.evu.sweepResting = false → ¬ past pos → dirty = true → ¬ busy → (s.evu.lanes.get lane).length ≤ 7 →
        ∃ u, exec .sweepStep s = .next u ∧ u.evu.sweepWaiting = false ∧ u.rps = s.rps
          ∧ (¬ past next → u.evu.sweepPos = next ∧ u.evu.sweepResting = false ∧ u.evu.rewalk = s.evu.rewalk)
          ∧ (past next → s.evu.rewalk = true → u.evu.sweepPos = .axle 0 .railA ∧ u.evu.sweepResting = false
            ∧ u.evu.rewalk = false)
          ∧ (past next → s.evu.rewalk = false → u.evu.sweepPos = next ∧ u.evu.sweepResting = true ∧ u.evu.rewalk = false)
          ∧ u.Requested lane k h.report.header.number target False
          ∧ u.atq = s.atq ∧ u.mpc = s.mpc ∧ u.ssq = s.ssq ∧ u.axt = s.axt ∧ u.vsg = s.vsg ∧ u.tsu = s.tsu)
    ∧ (s.evu.sweepResting = false → ¬ past pos → dirty = true → ¬ busy → 7 < (s.evu.lanes.get lane).length →
        exec .sweepStep s = .next { s with evu := { s.evu with sweepPos := pos, sweepWaiting := true } }))
  ∧ (∀ s : State, s.evu.sweepQueue = [] → exec .sweepStep s = .next s)
  ∧ (∀ (s : State) (k : Fin 4) (h : HeldSlot), s.evu.sweepQueue.head? = some k → s.rps.slots[k] = some h →
    h.st = .closing →
    (∀ i x, s.evu.sweepPos = .axle i x → i < h.report.axles.length) →
    let next : SweepPos := match s.evu.sweepPos with
      | .axle i .railA => .axle i .railB
      | .axle i .railB => .axle i .gate
      | .axle i .gate => if i + 1 < h.report.axles.length then .axle (i + 1) .railA else .vehicle 0
      | .vehicle j => .vehicle (j + 1)
    let lane : Lane := match s.evu.sweepPos with
      | .axle _ .railA => .a | .axle _ .railB => .b | .axle _ .gate => .thermal | .vehicle _ => .vehicle
    let target : Nat := match s.evu.sweepPos with | .axle i _ => i | .vehicle j => j
    let v := s.arbitrate
    let left : Prop := (v.evu.lanes.get lane).length < (s.evu.lanes.get lane).length
    let passed : Prop := h.report.dirtyAt lane target = false ∨ ∃ (e : Fin 2) (ev : Evaluation), v.evu.evals[e] = some ev
      ∧ ev.req.lane = lane ∧ ev.req.slot = k ∧ ev.req.number = h.report.header.number ∧ ev.req.target = target
      ∧ ev.removed = false
    (s.evu.sweepWaiting = false ∨ ¬ left → s.serveLanes = v)
    ∧ (s.evu.sweepWaiting = true → left → passed →
        s.serveLanes = { v with evu := { v.evu with sweepPos := next, sweepWaiting := false } })
    ∧ (s.evu.sweepWaiting = true → left → ¬ passed → (v.evu.lanes.get lane).length ≤ 7 →
        let u := s.serveLanes
        u.evu.sweepPos = next ∧ u.evu.sweepWaiting = false ∧ u.evu.sweepQueue = s.evu.sweepQueue
        ∧ u.evu.sweepResting = s.evu.sweepResting ∧ u.evu.rewalk = s.evu.rewalk
        ∧ u.Requested lane k h.report.header.number target False ∧ u.rps = s.rps ∧ u.atq = s.atq ∧ u.mpc = s.mpc
        ∧ u.ssq = s.ssq ∧ u.axt = s.axt ∧ u.vsg = s.vsg ∧ u.tsu = s.tsu)
    ∧ (s.evu.sweepWaiting = true → left → ¬ passed → 7 < (v.evu.lanes.get lane).length → s.serveLanes = v))
  ∧ (∀ (s : State) (k : Fin 4), s.SlotsOk →
    let passes (h : HeldSlot) : Prop := s.evu.sweepQueue.head? = some k ∧ s.evu.sweepResting = true ∧ s.evu.rewalk = false
      ∧ h.report.clean = true ∧ ∀ (e : Fin 2) (ev : Evaluation), s.evu.evals[e] = some ev → ev.req.slot ≠ k
    (∀ h, s.rps.slots[k] = some h → passes h → s.RoomToRest → s.NodesOk ∨ s.staysAtRest →
      s.completionTest k = s.completed k h)
    ∧ ((∀ h, s.rps.slots[k] = some h → ¬ passes h) → s.completionTest k = s))
  ∧ (∀ h : Header,
    let bit (b : Bool) (weight : Nat) : Nat := if b = true then weight else 0
    let f := h.flags
    trainCompletePayload h = u8 h.slot.val ++ u16 h.number
      ++ opt (fun c : ClosureKind => [match c with | .completePass => 0 | .withdrawn => 1 | .standing => 2]) h.closure
      ++ u16 h.h ++ u16 h.recorded ++ u16 h.vehicles
      ++ u16 (bit f.noApproach 1 + bit f.continuation 2 + bit f.calAborted 4 + bit f.haltedOnSite 8 + bit f.reversed 16
        + bit f.directionConflict 32 + bit f.countConflict 64 + bit f.axleOverflow 128 + bit f.vehicleOverflow 256
        + bit f.staleChannels 512 + bit f.aborted 1024)
      ++ u16 h.wheelPeaks.normal ++ u16 h.wheelPeaks.watch ++ u16 h.wheelPeaks.alert ++ u16 h.wheelPeaks.critical
      ++ u16 h.bearingPeaks.normal ++ u16 h.bearingPeaks.warm ++ u16 h.bearingPeaks.hot)

/-- The dynamic ratio: floor(H_max x 100 / W), 999 where it exceeds 999, for W above 0; with W = 0 it is 999 where H_max is
above 0 and 0 where H_max is 0. Every ratio lies within 0..999. -/
def Obligations.DynamicRatioIsCapped : Prop :=
  ∀ hMax w : Nat,
    (0 < w → ∀ q, q * w ≤ hMax * 100 → hMax * 100 < (q + 1) * w →
      dynamicRatio hMax w = if 999 < q then 999 else q)
    ∧ (w = 0 → 0 < hMax → dynamicRatio hMax w = 999)
    ∧ (w = 0 → hMax = 0 → dynamicRatio hMax w = 0)
    ∧ dynamicRatio hMax w ≤ 999

/-- The static load of a used set lies between any bounds of its plateau loads, and so does the spread below their distance; a
rail completion never lowers a stored wheel result's quality or the peak wheel level, and reaches the new level.

A wheel result is INCOMPLETE with at most three valid records: it holds the highest peak of all records present, at Hcrit graded
CRITICAL, and nothing else. With four or more it is of the fresh records where these are five or more, of the valid ones
otherwise (DEGRADED, as beyond Vmax): the mean of the middle plateau loads, their spread, the highest peak, the ratio, the mean
speed, assessed from Vimp on, and the first level whose condition holds.

A bearing result is INCOMPLETE with nothing but what its gate record holds where the record is absent, empty, without peak or
calibration, or the scanner LOST. Otherwise it is DEGRADED by a mark and else FULL, with the rise held to -500..2500, the
difference to the other side's, the excess over the floored mean where enough axles are counted in it, and the first level whose
condition holds. -/
def Obligations.WheelResultsAndPeaks : Prop :=
  (∀ (c : Vector Nat 54) (places : Vector (Option CribRecord) 8) (used : List CribRecord) (q : Quality) (lo hi : Nat),
    usedSet (presentRecords places) = some (used, q) →
    (∀ r ∈ used, ∃ x, r.plateau = some x ∧ lo ≤ x ∧ x ≤ hi) →
    ∃ w d, (wheelResult c places).w = some w ∧ (wheelResult c places).d = some d ∧ lo ≤ w ∧ w ≤ hi ∧ d ≤ hi - lo)
  ∧ (∀ (ax : AxleRecord) (side : Side) (new old : WheelResult), ax.wheels.get side = some old →
    ∃ kept, (ax.mergeRail side new).wheels.get side = some kept ∧ (kept = old ∨ kept = new)
      ∧ old.quality.rank ≤ kept.quality.rank ∧ new.quality.rank ≤ kept.quality.rank
      ∧ ax.peakWheel.rank ≤ (ax.mergeRail side new).peakWheel.rank
      ∧ new.level.rank ≤ (ax.mergeRail side new).peakWheel.rank)
  ∧ (∀ (c : Vector Nat 54) (places : Vector (Option CribRecord) 8),
    let value (i : Item) : Nat := c.get i.idx
    let out := wheelResult c places
    let present := places.toList.filterMap id
    let valid (r : CribRecord) : Bool := r.plateau.isSome && !(r.truncated || r.gapped || r.reversed || r.defaultCal)
    let fresh (r : CribRecord) : Bool := valid r && !r.stale
    let full : Prop := 5 ≤ present.countP fresh
    let strike (r : CribRecord) : Nat := if r.saturated = true then 6000 else r.peak
    let highest (rs : List CribRecord) (top : Nat) : Prop := (∃ r ∈ rs, strike r = top) ∧ ∀ r ∈ rs, strike r ≤ top
    (present.countP valid ≤ 3 →
      out.quality = .incomplete ∧ out.assessed = false ∧ out.w = none ∧ out.d = none ∧ out.q = none ∧ out.ve = none
      ∧ (present = [] → out.hMax = none ∧ out.level = .absent)
      ∧ ∀ top, highest present top → out.hMax = some top ∧ out.level = if value .hcrit ≤ top then .critical else .absent)
    ∧ (4 ≤ present.countP valid →
      let used := present.filter fun r => if full then fresh r else valid r
      let n := used.length
      let ve := (2 * (used.map (·.speed)).sum + n) / (2 * n)
      let assessed : Prop := value .vimp ≤ ve
      out.ve = some ve ∧ out.assessed = decide assessed
      ∧ out.quality = (if full ∧ ve ≤ value .vmax then .full else .degraded)
      ∧ ∀ (top low high : Nat) (middle : List Nat), highest used top →
        (low :: (middle ++ [high])).Perm (used.filterMap (·.plateau)) → (low :: (middle ++ [high])).Pairwise (· ≤ ·) →
        let w := (2 * middle.sum + (n - 2)) / (2 * (n - 2))
        let d := middle.getLastD 0 - middle.headD 0
        let excess := if w < top then top - w else 0
        let ratio := if w = 0 then (if top = 0 then 0 else 999) else min (top * 100 / w) 999
        out.w = some w ∧ out.d = some d ∧ out.hMax = some top ∧ out.q = some ratio
        ∧ out.level = if value .hcrit ≤ top then .critical
          else if assessed ∧ value .talert + value .gFactor * d < excess ∧ value .qalert ≤ ratio then .alert
          else if assessed ∧ value .twatch + value .gFactor * d < excess then .watch else .normal))
  ∧ (∀ (c : Vector Nat 54) (t : ThermalSnap) (x : Side),
    let value (i : Item) : Int := (c.get i.idx : Nat)
    let out := bearingResult c t x
    let bad (y : Side) : Prop := ∀ g, t.gates.get y = some g →
      g.count = 0 ∨ g.peak = none ∨ g.calNone = true ∨ t.status.get y = .lost
    let rises (y : Side) (v : Int) : Prop := ¬ bad y ∧ ∃ g, t.gates.get y = some g ∧ ∃ p, g.peak = some p ∧
      ∃ a, g.ambient = some a ∧ v = if p - a < -500 then -500 else if 2500 < p - a then 2500 else p - a
    out.peak = (t.gates.get x).bind (·.peak) ∧ out.ambient = (t.gates.get x).bind (·.ambient)
    ∧ (bad x → out.quality = .incomplete ∧ out.rise = none ∧ out.mdiff = none ∧ out.rel = none ∧ out.level = .absent)
    ∧ (bad (Side.other x) → out.mdiff = none)
    ∧ (∀ g, t.gates.get x = some g → ¬ bad x →
      out.quality = if g.gapped = true ∨ g.truncated = true ∨ g.calAged = true then .degraded else .full)
    ∧ (∀ rise, rises x rise → out.rise = some rise
      ∧ (∀ mate, rises (Side.other x) mate → out.mdiff = some (rise - mate))
      ∧ ((t.count.get x : Int) < value .relMinCount → out.rel = none)
      ∧ (value .relMinCount ≤ t.count.get x → ∀ mean : Int, mean * t.count.get x ≤ t.sum.get x →
          t.sum.get x < (mean + 1) * t.count.get x → out.rel = some (rise - mean))
      ∧ out.level = if value .thot ≤ rise then .hot
        else if value .twarm ≤ rise ∨ (out.mdiff.any (fun m => decide (value .tmate ≤ m)) = true ∧ value .tfloor ≤ rise)
          ∨ out.rel.any (fun v => decide (value .trel ≤ v)) = true then .warm
        else .normal))

/-! ## Conditions every command keeps -/

/-- The state after reset meets every condition the statements below keep. -/
def Obligations.ResetMeetsTheConditions : Prop :=
  State.reset.SiteOk ∧ State.reset.NodesOk ∧ State.reset.LinksOk ∧ State.reset.CountsOk ∧ State.reset.SlotsOk ∧ State.reset.ConfigOk
    ∧ State.reset.Bounded ∧ State.reset.CoveragesDisjoint ∧ State.reset.EvalsOk

/-- The site state, the train, the timers, the latch and the streams agree after every step of a state in which they do, and so
do the sensor nodes, the calibrations and the shutters.

Stream-on and stream-off are sent over each of the six links in turn, and stream-on last exactly while the streams run. (The list
of what has been sent is the model's own field, assumption 22.) -/
def Obligations.EveryStepKeepsTheSite : Prop :=
  (∀ s t : State, s.SiteOk → s.NodesOk → step s = .next t → t.SiteOk ∧ t.NodesOk)
  ∧ (∀ s t : State, s.LinksOk → step s = .next t → t.LinksOk)

/-- X ≤ N ≤ H, and no pointer stands above N, after every step of a state in which this holds. -/
def Obligations.EveryStepKeepsTheCounts : Prop :=
  ∀ s t : State, s.CountsOk → step s = .next t → t.CountsOk

/-- The slot states, the open train, the sweep's queue and the open captures agree after every step of a state in which they
do. -/
def Obligations.EveryStepKeepsTheSlots : Prop :=
  ∀ s t : State, s.SlotsOk → step s = .next t → t.SlotsOk

/-- The configuration stays within its ranges and passes its conflict tests, active and future, the calibration records stay
such as R75 admits, and no item's value and no channel's record is pending while the settle point holds, after every step of a
state in which this holds. -/
def Obligations.EveryStepKeepsTheConfiguration : Prop :=
  ∀ s t : State, s.ConfigOk → step s = .next t → t.ConfigOk

/-- Every queue keeps to its capacity, a broken port to its emptiness and the LRG order to its four lanes, after every step of a
state in which they do.

Evaluations in flight cover no common axle after every step of a state in which they do not.

Each evaluation in flight holds a snapshot of its lane's kind, and only a vehicle's is removed, after every step of a state in
which this holds. -/
def Obligations.EveryStepKeepsTheQueues : Prop :=
  (∀ s t : State, s.Bounded → step s = .next t → t.Bounded)
  ∧ (∀ s t : State, s.CoveragesDisjoint → step s = .next t → t.CoveragesDisjoint)
  ∧ (∀ s t : State, s.EvalsOk → step s = .next t → t.EvalsOk)
end

