-- ==== Sys2Proof/Laws/State.lean ====
section
/-! SUPPORT. The fields of a state after an update of one block, one lemma per field per update, and the entries of
the families of like things after one of them is changed. -/

namespace Sys2Proof.Machine

/-! ## Families -/

@[simp] theorem PerPort.get_upd_self {α : Type} (v : PerPort α) (p : Port) (f : α → α) :
    (v.upd p f).get p = f (v.get p) := by cases p <;> rfl

theorem PerPort.get_upd_ne {α : Type} (v : PerPort α) {p y : Port} (h : y ≠ p) (f : α → α) :
    (v.upd p f).get y = v.get y := by cases p <;> cases y <;> first | rfl | exact absurd rfl h

theorem PerPort.get_upd {α : Type} (v : PerPort α) (p y : Port) (f : α → α) :
    (v.upd p f).get y = if y = p then f (v.get y) else v.get y := by
  cases p <;> cases y <;> rfl

@[simp] theorem PerSide.get_upd_self {α : Type} (v : PerSide α) (x : Side) (f : α → α) :
    (v.upd x f).get x = f (v.get x) := by cases x <;> rfl

theorem PerSide.get_upd_ne {α : Type} (v : PerSide α) {x y : Side} (h : y ≠ x) (f : α → α) :
    (v.upd x f).get y = v.get y := by cases x <;> cases y <;> first | rfl | exact absurd rfl h

theorem PerSide.get_upd {α : Type} (v : PerSide α) (x y : Side) (f : α → α) :
    (v.upd x f).get y = if y = x then f (v.get y) else v.get y := by
  cases x <;> cases y <;> rfl

@[simp] theorem PerPair.get_upd_self {α : Type} (v : PerPair α) (x : Pair) (f : α → α) :
    (v.upd x f).get x = f (v.get x) := by cases x <;> rfl

theorem PerPair.get_upd_ne {α : Type} (v : PerPair α) {x y : Pair} (h : y ≠ x) (f : α → α) :
    (v.upd x f).get y = v.get y := by cases x <;> cases y <;> first | rfl | exact absurd rfl h

theorem PerPair.get_upd {α : Type} (v : PerPair α) (x y : Pair) (f : α → α) :
    (v.upd x f).get y = if y = x then f (v.get y) else v.get y := by
  cases x <;> cases y <;> rfl

@[simp] theorem PerLane.get_upd_self {α : Type} (v : PerLane α) (l : Lane) (f : α → α) :
    (v.upd l f).get l = f (v.get l) := by cases l <;> rfl

theorem PerLane.get_upd_ne {α : Type} (v : PerLane α) {l y : Lane} (h : y ≠ l) (f : α → α) :
    (v.upd l f).get y = v.get y := by cases l <;> cases y <;> first | rfl | exact absurd rfl h

theorem PerLane.get_upd {α : Type} (v : PerLane α) (l y : Lane) (f : α → α) :
    (v.upd l f).get y = if y = l then f (v.get y) else v.get y := by
  cases l <;> cases y <;> rfl

@[simp] theorem PerLevel.get_upd_self {α : Type} (v : PerLevel α) (l : AlertLevel) (f : α → α) :
    (v.upd l f).get l = f (v.get l) := by cases l <;> rfl

theorem PerLevel.get_upd_ne {α : Type} (v : PerLevel α) {l y : AlertLevel} (h : y ≠ l) (f : α → α) :
    (v.upd l f).get y = v.get y := by cases l <;> cases y <;> first | rfl | exact absurd rfl h

theorem PerLevel.get_upd {α : Type} (v : PerLevel α) (l y : AlertLevel) (f : α → α) :
    (v.upd l f).get y = if y = l then f (v.get y) else v.get y := by
  cases l <;> cases y <;> rfl

@[simp] theorem vupd_get_self {α : Type} {n : Nat} (v : Vector α n) (i : Fin n) (f : α → α) :
    (vupd v i f)[i] = f v[i] := by simp [vupd]

theorem vupd_get_ne {α : Type} {n : Nat} (v : Vector α n) {i j : Fin n} (h : j ≠ i) (f : α → α) :
    (vupd v i f)[j] = v[j] := by
  have : (i : Nat) ≠ j := fun e => h (Fin.ext e.symm)
  simp [vupd, this]

@[simp] theorem vmap_get {α β : Type} {n : Nat} (f : α → β) (v : Vector α n) (i : Fin n) :
    (vmap f v)[i] = f v[i] := by
  simp [vmap, Vector.getElem_mk]

@[simp] theorem vzip_get {α β γ : Type} {n : Nat} (f : α → β → γ) (v : Vector α n) (w : Vector β n) (i : Fin n) :
    (vzip f v w)[i] = f v[i] w[i] := by
  simp [vzip, Vector.getElem_mk]

/-! ## Updates of one block -/

@[simp] theorem State.advance_now (t : Nat) (s : State) : (s.advance t).now = max s.now t := rfl
@[simp] theorem State.advance_ssq (t : Nat) (s : State) : (s.advance t).ssq = s.ssq := rfl
@[simp] theorem State.advance_axt (t : Nat) (s : State) : (s.advance t).axt = s.axt := rfl
@[simp] theorem State.advance_vsg (t : Nat) (s : State) : (s.advance t).vsg = s.vsg := rfl
@[simp] theorem State.advance_nodes (t : Nat) (s : State) : (s.advance t).nodes = s.nodes := rfl
@[simp] theorem State.advance_channels (t : Nat) (s : State) : (s.advance t).channels = s.channels := rfl
@[simp] theorem State.advance_units (t : Nat) (s : State) : (s.advance t).units = s.units := rfl
@[simp] theorem State.advance_evu (t : Nat) (s : State) : (s.advance t).evu = s.evu := rfl
@[simp] theorem State.advance_tsu (t : Nat) (s : State) : (s.advance t).tsu = s.tsu := rfl
@[simp] theorem State.advance_rps (t : Nat) (s : State) : (s.advance t).rps = s.rps := rfl
@[simp] theorem State.advance_atq (t : Nat) (s : State) : (s.advance t).atq = s.atq := rfl
@[simp] theorem State.advance_mpc (t : Nat) (s : State) : (s.advance t).mpc = s.mpc := rfl
@[simp] theorem State.advance_pending (t : Nat) (s : State) : (s.advance t).pending = s.pending := rfl

@[simp] theorem State.modSsq_now (s : State) (f : Ssq → Ssq) : (s.modSsq f).now = s.now := rfl
@[simp] theorem State.modSsq_ssq (s : State) (f : Ssq → Ssq) : (s.modSsq f).ssq = f s.ssq := rfl
@[simp] theorem State.modSsq_axt (s : State) (f : Ssq → Ssq) : (s.modSsq f).axt = s.axt := rfl
@[simp] theorem State.modSsq_vsg (s : State) (f : Ssq → Ssq) : (s.modSsq f).vsg = s.vsg := rfl
@[simp] theorem State.modSsq_nodes (s : State) (f : Ssq → Ssq) : (s.modSsq f).nodes = s.nodes := rfl
@[simp] theorem State.modSsq_channels (s : State) (f : Ssq → Ssq) : (s.modSsq f).channels = s.channels := rfl
@[simp] theorem State.modSsq_units (s : State) (f : Ssq → Ssq) : (s.modSsq f).units = s.units := rfl
@[simp] theorem State.modSsq_evu (s : State) (f : Ssq → Ssq) : (s.modSsq f).evu = s.evu := rfl
@[simp] theorem State.modSsq_tsu (s : State) (f : Ssq → Ssq) : (s.modSsq f).tsu = s.tsu := rfl
@[simp] theorem State.modSsq_rps (s : State) (f : Ssq → Ssq) : (s.modSsq f).rps = s.rps := rfl
@[simp] theorem State.modSsq_atq (s : State) (f : Ssq → Ssq) : (s.modSsq f).atq = s.atq := rfl
@[simp] theorem State.modSsq_mpc (s : State) (f : Ssq → Ssq) : (s.modSsq f).mpc = s.mpc := rfl
@[simp] theorem State.modSsq_pending (s : State) (f : Ssq → Ssq) : (s.modSsq f).pending = s.pending := rfl

@[simp] theorem State.modAxt_now (s : State) (f : Axt → Axt) : (s.modAxt f).now = s.now := rfl
@[simp] theorem State.modAxt_ssq (s : State) (f : Axt → Axt) : (s.modAxt f).ssq = s.ssq := rfl
@[simp] theorem State.modAxt_axt (s : State) (f : Axt → Axt) : (s.modAxt f).axt = f s.axt := rfl
@[simp] theorem State.modAxt_vsg (s : State) (f : Axt → Axt) : (s.modAxt f).vsg = s.vsg := rfl
@[simp] theorem State.modAxt_nodes (s : State) (f : Axt → Axt) : (s.modAxt f).nodes = s.nodes := rfl
@[simp] theorem State.modAxt_channels (s : State) (f : Axt → Axt) : (s.modAxt f).channels = s.channels := rfl
@[simp] theorem State.modAxt_units (s : State) (f : Axt → Axt) : (s.modAxt f).units = s.units := rfl
@[simp] theorem State.modAxt_evu (s : State) (f : Axt → Axt) : (s.modAxt f).evu = s.evu := rfl
@[simp] theorem State.modAxt_tsu (s : State) (f : Axt → Axt) : (s.modAxt f).tsu = s.tsu := rfl
@[simp] theorem State.modAxt_rps (s : State) (f : Axt → Axt) : (s.modAxt f).rps = s.rps := rfl
@[simp] theorem State.modAxt_atq (s : State) (f : Axt → Axt) : (s.modAxt f).atq = s.atq := rfl
@[simp] theorem State.modAxt_mpc (s : State) (f : Axt → Axt) : (s.modAxt f).mpc = s.mpc := rfl
@[simp] theorem State.modAxt_pending (s : State) (f : Axt → Axt) : (s.modAxt f).pending = s.pending := rfl

@[simp] theorem State.modVsg_now (s : State) (f : Vsg → Vsg) : (s.modVsg f).now = s.now := rfl
@[simp] theorem State.modVsg_ssq (s : State) (f : Vsg → Vsg) : (s.modVsg f).ssq = s.ssq := rfl
@[simp] theorem State.modVsg_axt (s : State) (f : Vsg → Vsg) : (s.modVsg f).axt = s.axt := rfl
@[simp] theorem State.modVsg_vsg (s : State) (f : Vsg → Vsg) : (s.modVsg f).vsg = f s.vsg := rfl
@[simp] theorem State.modVsg_nodes (s : State) (f : Vsg → Vsg) : (s.modVsg f).nodes = s.nodes := rfl
@[simp] theorem State.modVsg_channels (s : State) (f : Vsg → Vsg) : (s.modVsg f).channels = s.channels := rfl
@[simp] theorem State.modVsg_units (s : State) (f : Vsg → Vsg) : (s.modVsg f).units = s.units := rfl
@[simp] theorem State.modVsg_evu (s : State) (f : Vsg → Vsg) : (s.modVsg f).evu = s.evu := rfl
@[simp] theorem State.modVsg_tsu (s : State) (f : Vsg → Vsg) : (s.modVsg f).tsu = s.tsu := rfl
@[simp] theorem State.modVsg_rps (s : State) (f : Vsg → Vsg) : (s.modVsg f).rps = s.rps := rfl
@[simp] theorem State.modVsg_atq (s : State) (f : Vsg → Vsg) : (s.modVsg f).atq = s.atq := rfl
@[simp] theorem State.modVsg_mpc (s : State) (f : Vsg → Vsg) : (s.modVsg f).mpc = s.mpc := rfl
@[simp] theorem State.modVsg_pending (s : State) (f : Vsg → Vsg) : (s.modVsg f).pending = s.pending := rfl

@[simp] theorem State.modEvu_now (s : State) (f : Evu → Evu) : (s.modEvu f).now = s.now := rfl
@[simp] theorem State.modEvu_ssq (s : State) (f : Evu → Evu) : (s.modEvu f).ssq = s.ssq := rfl
@[simp] theorem State.modEvu_axt (s : State) (f : Evu → Evu) : (s.modEvu f).axt = s.axt := rfl
@[simp] theorem State.modEvu_vsg (s : State) (f : Evu → Evu) : (s.modEvu f).vsg = s.vsg := rfl
@[simp] theorem State.modEvu_nodes (s : State) (f : Evu → Evu) : (s.modEvu f).nodes = s.nodes := rfl
@[simp] theorem State.modEvu_channels (s : State) (f : Evu → Evu) : (s.modEvu f).channels = s.channels := rfl
@[simp] theorem State.modEvu_units (s : State) (f : Evu → Evu) : (s.modEvu f).units = s.units := rfl
@[simp] theorem State.modEvu_evu (s : State) (f : Evu → Evu) : (s.modEvu f).evu = f s.evu := rfl
@[simp] theorem State.modEvu_tsu (s : State) (f : Evu → Evu) : (s.modEvu f).tsu = s.tsu := rfl
@[simp] theorem State.modEvu_rps (s : State) (f : Evu → Evu) : (s.modEvu f).rps = s.rps := rfl
@[simp] theorem State.modEvu_atq (s : State) (f : Evu → Evu) : (s.modEvu f).atq = s.atq := rfl
@[simp] theorem State.modEvu_mpc (s : State) (f : Evu → Evu) : (s.modEvu f).mpc = s.mpc := rfl
@[simp] theorem State.modEvu_pending (s : State) (f : Evu → Evu) : (s.modEvu f).pending = s.pending := rfl

@[simp] theorem State.modTsu_now (s : State) (f : Tsu → Tsu) : (s.modTsu f).now = s.now := rfl
@[simp] theorem State.modTsu_ssq (s : State) (f : Tsu → Tsu) : (s.modTsu f).ssq = s.ssq := rfl
@[simp] theorem State.modTsu_axt (s : State) (f : Tsu → Tsu) : (s.modTsu f).axt = s.axt := rfl
@[simp] theorem State.modTsu_vsg (s : State) (f : Tsu → Tsu) : (s.modTsu f).vsg = s.vsg := rfl
@[simp] theorem State.modTsu_nodes (s : State) (f : Tsu → Tsu) : (s.modTsu f).nodes = s.nodes := rfl
@[simp] theorem State.modTsu_channels (s : State) (f : Tsu → Tsu) : (s.modTsu f).channels = s.channels := rfl
@[simp] theorem State.modTsu_units (s : State) (f : Tsu → Tsu) : (s.modTsu f).units = s.units := rfl
@[simp] theorem State.modTsu_evu (s : State) (f : Tsu → Tsu) : (s.modTsu f).evu = s.evu := rfl
@[simp] theorem State.modTsu_tsu (s : State) (f : Tsu → Tsu) : (s.modTsu f).tsu = f s.tsu := rfl
@[simp] theorem State.modTsu_rps (s : State) (f : Tsu → Tsu) : (s.modTsu f).rps = s.rps := rfl
@[simp] theorem State.modTsu_atq (s : State) (f : Tsu → Tsu) : (s.modTsu f).atq = s.atq := rfl
@[simp] theorem State.modTsu_mpc (s : State) (f : Tsu → Tsu) : (s.modTsu f).mpc = s.mpc := rfl
@[simp] theorem State.modTsu_pending (s : State) (f : Tsu → Tsu) : (s.modTsu f).pending = s.pending := rfl

@[simp] theorem State.modRps_now (s : State) (f : Rps → Rps) : (s.modRps f).now = s.now := rfl
@[simp] theorem State.modRps_ssq (s : State) (f : Rps → Rps) : (s.modRps f).ssq = s.ssq := rfl
@[simp] theorem State.modRps_axt (s : State) (f : Rps → Rps) : (s.modRps f).axt = s.axt := rfl
@[simp] theorem State.modRps_vsg (s : State) (f : Rps → Rps) : (s.modRps f).vsg = s.vsg := rfl
@[simp] theorem State.modRps_nodes (s : State) (f : Rps → Rps) : (s.modRps f).nodes = s.nodes := rfl
@[simp] theorem State.modRps_channels (s : State) (f : Rps → Rps) : (s.modRps f).channels = s.channels := rfl
@[simp] theorem State.modRps_units (s : State) (f : Rps → Rps) : (s.modRps f).units = s.units := rfl
@[simp] theorem State.modRps_evu (s : State) (f : Rps → Rps) : (s.modRps f).evu = s.evu := rfl
@[simp] theorem State.modRps_tsu (s : State) (f : Rps → Rps) : (s.modRps f).tsu = s.tsu := rfl
@[simp] theorem State.modRps_rps (s : State) (f : Rps → Rps) : (s.modRps f).rps = f s.rps := rfl
@[simp] theorem State.modRps_atq (s : State) (f : Rps → Rps) : (s.modRps f).atq = s.atq := rfl
@[simp] theorem State.modRps_mpc (s : State) (f : Rps → Rps) : (s.modRps f).mpc = s.mpc := rfl
@[simp] theorem State.modRps_pending (s : State) (f : Rps → Rps) : (s.modRps f).pending = s.pending := rfl

@[simp] theorem State.modAtq_now (s : State) (f : Atq → Atq) : (s.modAtq f).now = s.now := rfl
@[simp] theorem State.modAtq_ssq (s : State) (f : Atq → Atq) : (s.modAtq f).ssq = s.ssq := rfl
@[simp] theorem State.modAtq_axt (s : State) (f : Atq → Atq) : (s.modAtq f).axt = s.axt := rfl
@[simp] theorem State.modAtq_vsg (s : State) (f : Atq → Atq) : (s.modAtq f).vsg = s.vsg := rfl
@[simp] theorem State.modAtq_nodes (s : State) (f : Atq → Atq) : (s.modAtq f).nodes = s.nodes := rfl
@[simp] theorem State.modAtq_channels (s : State) (f : Atq → Atq) : (s.modAtq f).channels = s.channels := rfl
@[simp] theorem State.modAtq_units (s : State) (f : Atq → Atq) : (s.modAtq f).units = s.units := rfl
@[simp] theorem State.modAtq_evu (s : State) (f : Atq → Atq) : (s.modAtq f).evu = s.evu := rfl
@[simp] theorem State.modAtq_tsu (s : State) (f : Atq → Atq) : (s.modAtq f).tsu = s.tsu := rfl
@[simp] theorem State.modAtq_rps (s : State) (f : Atq → Atq) : (s.modAtq f).rps = s.rps := rfl
@[simp] theorem State.modAtq_atq (s : State) (f : Atq → Atq) : (s.modAtq f).atq = f s.atq := rfl
@[simp] theorem State.modAtq_mpc (s : State) (f : Atq → Atq) : (s.modAtq f).mpc = s.mpc := rfl
@[simp] theorem State.modAtq_pending (s : State) (f : Atq → Atq) : (s.modAtq f).pending = s.pending := rfl

@[simp] theorem State.modMpc_now (s : State) (f : Mpc → Mpc) : (s.modMpc f).now = s.now := rfl
@[simp] theorem State.modMpc_ssq (s : State) (f : Mpc → Mpc) : (s.modMpc f).ssq = s.ssq := rfl
@[simp] theorem State.modMpc_axt (s : State) (f : Mpc → Mpc) : (s.modMpc f).axt = s.axt := rfl
@[simp] theorem State.modMpc_vsg (s : State) (f : Mpc → Mpc) : (s.modMpc f).vsg = s.vsg := rfl
@[simp] theorem State.modMpc_nodes (s : State) (f : Mpc → Mpc) : (s.modMpc f).nodes = s.nodes := rfl
@[simp] theorem State.modMpc_channels (s : State) (f : Mpc → Mpc) : (s.modMpc f).channels = s.channels := rfl
@[simp] theorem State.modMpc_units (s : State) (f : Mpc → Mpc) : (s.modMpc f).units = s.units := rfl
@[simp] theorem State.modMpc_evu (s : State) (f : Mpc → Mpc) : (s.modMpc f).evu = s.evu := rfl
@[simp] theorem State.modMpc_tsu (s : State) (f : Mpc → Mpc) : (s.modMpc f).tsu = s.tsu := rfl
@[simp] theorem State.modMpc_rps (s : State) (f : Mpc → Mpc) : (s.modMpc f).rps = s.rps := rfl
@[simp] theorem State.modMpc_atq (s : State) (f : Mpc → Mpc) : (s.modMpc f).atq = s.atq := rfl
@[simp] theorem State.modMpc_mpc (s : State) (f : Mpc → Mpc) : (s.modMpc f).mpc = f s.mpc := rfl
@[simp] theorem State.modMpc_pending (s : State) (f : Mpc → Mpc) : (s.modMpc f).pending = s.pending := rfl

@[simp] theorem State.modNode_now (s : State) (g : Fin 4) (f : GaugeNode → GaugeNode) : (s.modNode g f).now = s.now := rfl
@[simp] theorem State.modNode_ssq (s : State) (g : Fin 4) (f : GaugeNode → GaugeNode) : (s.modNode g f).ssq = s.ssq := rfl
@[simp] theorem State.modNode_axt (s : State) (g : Fin 4) (f : GaugeNode → GaugeNode) : (s.modNode g f).axt = s.axt := rfl
@[simp] theorem State.modNode_vsg (s : State) (g : Fin 4) (f : GaugeNode → GaugeNode) : (s.modNode g f).vsg = s.vsg := rfl
@[simp] theorem State.modNode_nodes (s : State) (g : Fin 4) (f : GaugeNode → GaugeNode) : (s.modNode g f).nodes = vupd s.nodes g f := rfl
@[simp] theorem State.modNode_channels (s : State) (g : Fin 4) (f : GaugeNode → GaugeNode) : (s.modNode g f).channels = s.channels := rfl
@[simp] theorem State.modNode_units (s : State) (g : Fin 4) (f : GaugeNode → GaugeNode) : (s.modNode g f).units = s.units := rfl
@[simp] theorem State.modNode_evu (s : State) (g : Fin 4) (f : GaugeNode → GaugeNode) : (s.modNode g f).evu = s.evu := rfl
@[simp] theorem State.modNode_tsu (s : State) (g : Fin 4) (f : GaugeNode → GaugeNode) : (s.modNode g f).tsu = s.tsu := rfl
@[simp] theorem State.modNode_rps (s : State) (g : Fin 4) (f : GaugeNode → GaugeNode) : (s.modNode g f).rps = s.rps := rfl
@[simp] theorem State.modNode_atq (s : State) (g : Fin 4) (f : GaugeNode → GaugeNode) : (s.modNode g f).atq = s.atq := rfl
@[simp] theorem State.modNode_mpc (s : State) (g : Fin 4) (f : GaugeNode → GaugeNode) : (s.modNode g f).mpc = s.mpc := rfl
@[simp] theorem State.modNode_pending (s : State) (g : Fin 4) (f : GaugeNode → GaugeNode) : (s.modNode g f).pending = s.pending := rfl

@[simp] theorem State.modChannel_now (s : State) (k : Fin 16) (f : Channel → Channel) : (s.modChannel k f).now = s.now := rfl
@[simp] theorem State.modChannel_ssq (s : State) (k : Fin 16) (f : Channel → Channel) : (s.modChannel k f).ssq = s.ssq := rfl
@[simp] theorem State.modChannel_axt (s : State) (k : Fin 16) (f : Channel → Channel) : (s.modChannel k f).axt = s.axt := rfl
@[simp] theorem State.modChannel_vsg (s : State) (k : Fin 16) (f : Channel → Channel) : (s.modChannel k f).vsg = s.vsg := rfl
@[simp] theorem State.modChannel_nodes (s : State) (k : Fin 16) (f : Channel → Channel) : (s.modChannel k f).nodes = s.nodes := rfl
@[simp] theorem State.modChannel_channels (s : State) (k : Fin 16) (f : Channel → Channel) : (s.modChannel k f).channels = vupd s.channels k f := rfl
@[simp] theorem State.modChannel_units (s : State) (k : Fin 16) (f : Channel → Channel) : (s.modChannel k f).units = s.units := rfl
@[simp] theorem State.modChannel_evu (s : State) (k : Fin 16) (f : Channel → Channel) : (s.modChannel k f).evu = s.evu := rfl
@[simp] theorem State.modChannel_tsu (s : State) (k : Fin 16) (f : Channel → Channel) : (s.modChannel k f).tsu = s.tsu := rfl
@[simp] theorem State.modChannel_rps (s : State) (k : Fin 16) (f : Channel → Channel) : (s.modChannel k f).rps = s.rps := rfl
@[simp] theorem State.modChannel_atq (s : State) (k : Fin 16) (f : Channel → Channel) : (s.modChannel k f).atq = s.atq := rfl
@[simp] theorem State.modChannel_mpc (s : State) (k : Fin 16) (f : Channel → Channel) : (s.modChannel k f).mpc = s.mpc := rfl
@[simp] theorem State.modChannel_pending (s : State) (k : Fin 16) (f : Channel → Channel) : (s.modChannel k f).pending = s.pending := rfl

@[simp] theorem State.modUnit_now (s : State) (k : Fin 16) (f : CaptureUnit → CaptureUnit) : (s.modUnit k f).now = s.now := rfl
@[simp] theorem State.modUnit_ssq (s : State) (k : Fin 16) (f : CaptureUnit → CaptureUnit) : (s.modUnit k f).ssq = s.ssq := rfl
@[simp] theorem State.modUnit_axt (s : State) (k : Fin 16) (f : CaptureUnit → CaptureUnit) : (s.modUnit k f).axt = s.axt := rfl
@[simp] theorem State.modUnit_vsg (s : State) (k : Fin 16) (f : CaptureUnit → CaptureUnit) : (s.modUnit k f).vsg = s.vsg := rfl
@[simp] theorem State.modUnit_nodes (s : State) (k : Fin 16) (f : CaptureUnit → CaptureUnit) : (s.modUnit k f).nodes = s.nodes := rfl
@[simp] theorem State.modUnit_channels (s : State) (k : Fin 16) (f : CaptureUnit → CaptureUnit) : (s.modUnit k f).channels = s.channels := rfl
@[simp] theorem State.modUnit_units (s : State) (k : Fin 16) (f : CaptureUnit → CaptureUnit) : (s.modUnit k f).units = vupd s.units k f := rfl
@[simp] theorem State.modUnit_evu (s : State) (k : Fin 16) (f : CaptureUnit → CaptureUnit) : (s.modUnit k f).evu = s.evu := rfl
@[simp] theorem State.modUnit_tsu (s : State) (k : Fin 16) (f : CaptureUnit → CaptureUnit) : (s.modUnit k f).tsu = s.tsu := rfl
@[simp] theorem State.modUnit_rps (s : State) (k : Fin 16) (f : CaptureUnit → CaptureUnit) : (s.modUnit k f).rps = s.rps := rfl
@[simp] theorem State.modUnit_atq (s : State) (k : Fin 16) (f : CaptureUnit → CaptureUnit) : (s.modUnit k f).atq = s.atq := rfl
@[simp] theorem State.modUnit_mpc (s : State) (k : Fin 16) (f : CaptureUnit → CaptureUnit) : (s.modUnit k f).mpc = s.mpc := rfl
@[simp] theorem State.modUnit_pending (s : State) (k : Fin 16) (f : CaptureUnit → CaptureUnit) : (s.modUnit k f).pending = s.pending := rfl

@[simp] theorem State.modPort_now (s : State) (p : Port) (f : PortMachine → PortMachine) : (s.modPort p f).now = s.now := rfl
@[simp] theorem State.modPort_ssq (s : State) (p : Port) (f : PortMachine → PortMachine) : (s.modPort p f).ssq = s.ssq := rfl
@[simp] theorem State.modPort_axt (s : State) (p : Port) (f : PortMachine → PortMachine) : (s.modPort p f).axt = s.axt := rfl
@[simp] theorem State.modPort_vsg (s : State) (p : Port) (f : PortMachine → PortMachine) : (s.modPort p f).vsg = s.vsg := rfl
@[simp] theorem State.modPort_nodes (s : State) (p : Port) (f : PortMachine → PortMachine) : (s.modPort p f).nodes = s.nodes := rfl
@[simp] theorem State.modPort_channels (s : State) (p : Port) (f : PortMachine → PortMachine) : (s.modPort p f).channels = s.channels := rfl
@[simp] theorem State.modPort_units (s : State) (p : Port) (f : PortMachine → PortMachine) : (s.modPort p f).units = s.units := rfl
@[simp] theorem State.modPort_evu (s : State) (p : Port) (f : PortMachine → PortMachine) : (s.modPort p f).evu = s.evu := rfl
@[simp] theorem State.modPort_tsu (s : State) (p : Port) (f : PortMachine → PortMachine) : (s.modPort p f).tsu = s.tsu := rfl
@[simp] theorem State.modPort_rps (s : State) (p : Port) (f : PortMachine → PortMachine) : (s.modPort p f).rps = s.rps := rfl
@[simp] theorem State.modPort_atq (s : State) (p : Port) (f : PortMachine → PortMachine) : (s.modPort p f).atq = s.atq := rfl
@[simp] theorem State.modPort_mpc (s : State) (p : Port) (f : PortMachine → PortMachine) : (s.modPort p f).mpc = { s.mpc with ports := s.mpc.ports.upd p f } := rfl
@[simp] theorem State.modPort_pending (s : State) (p : Port) (f : PortMachine → PortMachine) : (s.modPort p f).pending = s.pending := rfl

@[simp] theorem State.modTrain_axt (f : OpenTrain → OpenTrain) (s : State) :
    (s.modTrain f).axt = { s.axt with train := s.axt.train.map f } := rfl
@[simp] theorem State.modTrain_now (f : OpenTrain → OpenTrain) (s : State) : (s.modTrain f).now = s.now := rfl
@[simp] theorem State.modTrain_ssq (f : OpenTrain → OpenTrain) (s : State) : (s.modTrain f).ssq = s.ssq := rfl
@[simp] theorem State.modTrain_vsg (f : OpenTrain → OpenTrain) (s : State) : (s.modTrain f).vsg = s.vsg := rfl
@[simp] theorem State.modTrain_nodes (f : OpenTrain → OpenTrain) (s : State) : (s.modTrain f).nodes = s.nodes := rfl
@[simp] theorem State.modTrain_channels (f : OpenTrain → OpenTrain) (s : State) : (s.modTrain f).channels = s.channels := rfl
@[simp] theorem State.modTrain_units (f : OpenTrain → OpenTrain) (s : State) : (s.modTrain f).units = s.units := rfl
@[simp] theorem State.modTrain_evu (f : OpenTrain → OpenTrain) (s : State) : (s.modTrain f).evu = s.evu := rfl
@[simp] theorem State.modTrain_tsu (f : OpenTrain → OpenTrain) (s : State) : (s.modTrain f).tsu = s.tsu := rfl
@[simp] theorem State.modTrain_rps (f : OpenTrain → OpenTrain) (s : State) : (s.modTrain f).rps = s.rps := rfl
@[simp] theorem State.modTrain_atq (f : OpenTrain → OpenTrain) (s : State) : (s.modTrain f).atq = s.atq := rfl
@[simp] theorem State.modTrain_mpc (f : OpenTrain → OpenTrain) (s : State) : (s.modTrain f).mpc = s.mpc := rfl
@[simp] theorem State.modTrain_pending (f : OpenTrain → OpenTrain) (s : State) : (s.modTrain f).pending = s.pending := rfl

end Sys2Proof.Machine
end

