-- ==== Sys2Proof/Laws/Frames.lean ====
section
/-! SUPPORT. The frame of every shared operation: the blocks it leaves as they were, one theorem per operation. An
operation that makes frames for the ports touches `mpc.ports` alone, so the configuration is named beside the
untouched blocks. -/

namespace Sys2Proof.Machine

@[simp] theorem State.noticeTo_frame (p : Port) (kind : Byte) (payload : List Byte) (s : State) :
    (s.noticeTo p kind payload).now = s.now ∧
      (s.noticeTo p kind payload).ssq = s.ssq ∧
      (s.noticeTo p kind payload).axt = s.axt ∧
      (s.noticeTo p kind payload).vsg = s.vsg ∧
      (s.noticeTo p kind payload).nodes = s.nodes ∧
      (s.noticeTo p kind payload).channels = s.channels ∧
      (s.noticeTo p kind payload).units = s.units ∧
      (s.noticeTo p kind payload).evu = s.evu ∧
      (s.noticeTo p kind payload).tsu = s.tsu ∧
      (s.noticeTo p kind payload).rps = s.rps ∧
      (s.noticeTo p kind payload).atq = s.atq ∧
      (s.noticeTo p kind payload).mpc.active = s.mpc.active ∧
      (s.noticeTo p kind payload).mpc.pendingCfg = s.mpc.pendingCfg ∧
      (s.noticeTo p kind payload).pending = s.pending := by
  simp [State.noticeTo]

@[simp] theorem State.noticeBoth_frame (kind : Byte) (payload : List Byte) (s : State) :
    (s.noticeBoth kind payload).now = s.now ∧
      (s.noticeBoth kind payload).ssq = s.ssq ∧
      (s.noticeBoth kind payload).axt = s.axt ∧
      (s.noticeBoth kind payload).vsg = s.vsg ∧
      (s.noticeBoth kind payload).nodes = s.nodes ∧
      (s.noticeBoth kind payload).channels = s.channels ∧
      (s.noticeBoth kind payload).units = s.units ∧
      (s.noticeBoth kind payload).evu = s.evu ∧
      (s.noticeBoth kind payload).tsu = s.tsu ∧
      (s.noticeBoth kind payload).rps = s.rps ∧
      (s.noticeBoth kind payload).atq = s.atq ∧
      (s.noticeBoth kind payload).mpc.active = s.mpc.active ∧
      (s.noticeBoth kind payload).mpc.pendingCfg = s.mpc.pendingCfg ∧
      (s.noticeBoth kind payload).pending = s.pending := by
  simp [State.noticeBoth]

@[simp] theorem State.pendingNotice_frame (p : Port) (l : AlertLevel) (s : State) :
    (s.pendingNotice p l).now = s.now ∧
      (s.pendingNotice p l).ssq = s.ssq ∧
      (s.pendingNotice p l).axt = s.axt ∧
      (s.pendingNotice p l).vsg = s.vsg ∧
      (s.pendingNotice p l).nodes = s.nodes ∧
      (s.pendingNotice p l).channels = s.channels ∧
      (s.pendingNotice p l).units = s.units ∧
      (s.pendingNotice p l).evu = s.evu ∧
      (s.pendingNotice p l).tsu = s.tsu ∧
      (s.pendingNotice p l).rps = s.rps ∧
      (s.pendingNotice p l).atq = s.atq ∧
      (s.pendingNotice p l).mpc.active = s.mpc.active ∧
      (s.pendingNotice p l).mpc.pendingCfg = s.mpc.pendingCfg ∧
      (s.pendingNotice p l).pending = s.pending := by
  simp [State.pendingNotice]

@[simp] theorem State.pendingNoticeIfMasked_frame (p : Port) (l : AlertLevel) (s : State) :
    (s.pendingNoticeIfMasked p l).now = s.now ∧
      (s.pendingNoticeIfMasked p l).ssq = s.ssq ∧
      (s.pendingNoticeIfMasked p l).axt = s.axt ∧
      (s.pendingNoticeIfMasked p l).vsg = s.vsg ∧
      (s.pendingNoticeIfMasked p l).nodes = s.nodes ∧
      (s.pendingNoticeIfMasked p l).channels = s.channels ∧
      (s.pendingNoticeIfMasked p l).units = s.units ∧
      (s.pendingNoticeIfMasked p l).evu = s.evu ∧
      (s.pendingNoticeIfMasked p l).tsu = s.tsu ∧
      (s.pendingNoticeIfMasked p l).rps = s.rps ∧
      (s.pendingNoticeIfMasked p l).atq = s.atq ∧
      (s.pendingNoticeIfMasked p l).mpc.active = s.mpc.active ∧
      (s.pendingNoticeIfMasked p l).mpc.pendingCfg = s.mpc.pendingCfg ∧
      (s.pendingNoticeIfMasked p l).pending = s.pending := by
  unfold State.pendingNoticeIfMasked; split <;> simp

@[simp] theorem State.post_frame (d : AlertDraft) (s : State) :
    (s.post d).now = s.now ∧
      (s.post d).ssq = s.ssq ∧
      (s.post d).axt = s.axt ∧
      (s.post d).vsg = s.vsg ∧
      (s.post d).nodes = s.nodes ∧
      (s.post d).channels = s.channels ∧
      (s.post d).units = s.units ∧
      (s.post d).evu = s.evu ∧
      (s.post d).tsu = s.tsu ∧
      (s.post d).rps = s.rps ∧
      (s.post d).mpc.active = s.mpc.active ∧
      (s.post d).mpc.pendingCfg = s.mpc.pendingCfg ∧
      (s.post d).pending = s.pending := by
  unfold State.post; split <;> simp

@[simp] theorem State.postAll_frame (ds : List AlertDraft) (s : State) :
    (s.postAll ds).now = s.now ∧
      (s.postAll ds).ssq = s.ssq ∧
      (s.postAll ds).axt = s.axt ∧
      (s.postAll ds).vsg = s.vsg ∧
      (s.postAll ds).nodes = s.nodes ∧
      (s.postAll ds).channels = s.channels ∧
      (s.postAll ds).units = s.units ∧
      (s.postAll ds).evu = s.evu ∧
      (s.postAll ds).tsu = s.tsu ∧
      (s.postAll ds).rps = s.rps ∧
      (s.postAll ds).mpc.active = s.mpc.active ∧
      (s.postAll ds).mpc.pendingCfg = s.mpc.pendingCfg ∧
      (s.postAll ds).pending = s.pending := by
  induction ds generalizing s with
  | nil => simp [State.postAll]
  | cons d ds ih => simpa [State.postAll] using ih (s.post d)

@[simp] theorem State.write_frame (k : Fin 4) (number : Nat) (f : Report → Report) (s : State) :
    (s.write k number f).now = s.now ∧
      (s.write k number f).ssq = s.ssq ∧
      (s.write k number f).axt = s.axt ∧
      (s.write k number f).vsg = s.vsg ∧
      (s.write k number f).nodes = s.nodes ∧
      (s.write k number f).channels = s.channels ∧
      (s.write k number f).units = s.units ∧
      (s.write k number f).evu = s.evu ∧
      (s.write k number f).tsu = s.tsu ∧
      (s.write k number f).atq = s.atq ∧
      (s.write k number f).mpc = s.mpc ∧
      (s.write k number f).pending = s.pending := by
  unfold State.write; split <;> (try split) <;> simp

@[simp] theorem State.writeTrain_frame (f : Report → Report) (s : State) :
    (s.writeTrain f).now = s.now ∧
      (s.writeTrain f).ssq = s.ssq ∧
      (s.writeTrain f).axt = s.axt ∧
      (s.writeTrain f).vsg = s.vsg ∧
      (s.writeTrain f).nodes = s.nodes ∧
      (s.writeTrain f).channels = s.channels ∧
      (s.writeTrain f).units = s.units ∧
      (s.writeTrain f).evu = s.evu ∧
      (s.writeTrain f).tsu = s.tsu ∧
      (s.writeTrain f).atq = s.atq ∧
      (s.writeTrain f).mpc = s.mpc ∧
      (s.writeTrain f).pending = s.pending := by
  unfold State.writeTrain; split <;> simp

@[simp] theorem State.markChanged_frame (l : Lane) (k : Fin 4) (number target : Nat) (s : State) :
    (s.markChanged l k number target).now = s.now ∧
      (s.markChanged l k number target).ssq = s.ssq ∧
      (s.markChanged l k number target).axt = s.axt ∧
      (s.markChanged l k number target).vsg = s.vsg ∧
      (s.markChanged l k number target).nodes = s.nodes ∧
      (s.markChanged l k number target).channels = s.channels ∧
      (s.markChanged l k number target).units = s.units ∧
      (s.markChanged l k number target).tsu = s.tsu ∧
      (s.markChanged l k number target).rps = s.rps ∧
      (s.markChanged l k number target).atq = s.atq ∧
      (s.markChanged l k number target).mpc = s.mpc ∧
      (s.markChanged l k number target).pending = s.pending := by
  simp [State.markChanged]

@[simp] theorem State.markRemoved_frame (k : Fin 4) (number target : Nat) (s : State) :
    (s.markRemoved k number target).now = s.now ∧
      (s.markRemoved k number target).ssq = s.ssq ∧
      (s.markRemoved k number target).axt = s.axt ∧
      (s.markRemoved k number target).vsg = s.vsg ∧
      (s.markRemoved k number target).nodes = s.nodes ∧
      (s.markRemoved k number target).channels = s.channels ∧
      (s.markRemoved k number target).units = s.units ∧
      (s.markRemoved k number target).tsu = s.tsu ∧
      (s.markRemoved k number target).rps = s.rps ∧
      (s.markRemoved k number target).atq = s.atq ∧
      (s.markRemoved k number target).mpc = s.mpc ∧
      (s.markRemoved k number target).pending = s.pending := by
  simp [State.markRemoved]

@[simp] theorem State.purgeLane_frame (l : Lane) (s : State) :
    (s.purgeLane l).now = s.now ∧
      (s.purgeLane l).ssq = s.ssq ∧
      (s.purgeLane l).axt = s.axt ∧
      (s.purgeLane l).vsg = s.vsg ∧
      (s.purgeLane l).nodes = s.nodes ∧
      (s.purgeLane l).channels = s.channels ∧
      (s.purgeLane l).units = s.units ∧
      (s.purgeLane l).tsu = s.tsu ∧
      (s.purgeLane l).rps = s.rps ∧
      (s.purgeLane l).atq = s.atq ∧
      (s.purgeLane l).mpc = s.mpc ∧
      (s.purgeLane l).pending = s.pending := by
  simp [State.purgeLane]

@[simp] theorem State.purge_frame (s : State) :
    (s.purge).now = s.now ∧
      (s.purge).ssq = s.ssq ∧
      (s.purge).axt = s.axt ∧
      (s.purge).vsg = s.vsg ∧
      (s.purge).nodes = s.nodes ∧
      (s.purge).channels = s.channels ∧
      (s.purge).units = s.units ∧
      (s.purge).tsu = s.tsu ∧
      (s.purge).rps = s.rps ∧
      (s.purge).atq = s.atq ∧
      (s.purge).mpc = s.mpc ∧
      (s.purge).pending = s.pending := by
  simp [State.purge]

@[simp] theorem State.grant_frame (e : Fin 2) (l : Lane) (r : Request) (s : State) :
    (s.grant e l r).now = s.now ∧
      (s.grant e l r).ssq = s.ssq ∧
      (s.grant e l r).axt = s.axt ∧
      (s.grant e l r).vsg = s.vsg ∧
      (s.grant e l r).nodes = s.nodes ∧
      (s.grant e l r).channels = s.channels ∧
      (s.grant e l r).units = s.units ∧
      (s.grant e l r).tsu = s.tsu ∧
      (s.grant e l r).rps = s.rps ∧
      (s.grant e l r).atq = s.atq ∧
      (s.grant e l r).mpc = s.mpc ∧
      (s.grant e l r).pending = s.pending := by
  simp [State.grant]

@[simp] theorem State.arbitrateOnce_frame (s : State) :
    (s.arbitrateOnce).now = s.now ∧
      (s.arbitrateOnce).ssq = s.ssq ∧
      (s.arbitrateOnce).axt = s.axt ∧
      (s.arbitrateOnce).vsg = s.vsg ∧
      (s.arbitrateOnce).nodes = s.nodes ∧
      (s.arbitrateOnce).channels = s.channels ∧
      (s.arbitrateOnce).units = s.units ∧
      (s.arbitrateOnce).tsu = s.tsu ∧
      (s.arbitrateOnce).rps = s.rps ∧
      (s.arbitrateOnce).atq = s.atq ∧
      (s.arbitrateOnce).mpc = s.mpc ∧
      (s.arbitrateOnce).pending = s.pending := by
  unfold State.arbitrateOnce; dsimp only; split <;> (try split) <;> simp

@[simp] theorem State.arbitrate_frame (s : State) :
    (s.arbitrate).now = s.now ∧
      (s.arbitrate).ssq = s.ssq ∧
      (s.arbitrate).axt = s.axt ∧
      (s.arbitrate).vsg = s.vsg ∧
      (s.arbitrate).nodes = s.nodes ∧
      (s.arbitrate).channels = s.channels ∧
      (s.arbitrate).units = s.units ∧
      (s.arbitrate).tsu = s.tsu ∧
      (s.arbitrate).rps = s.rps ∧
      (s.arbitrate).atq = s.atq ∧
      (s.arbitrate).mpc = s.mpc ∧
      (s.arbitrate).pending = s.pending := by
  simp [State.arbitrate]

@[simp] theorem State.dropRequest_frame (r : Request) (s : State) :
    (s.dropRequest r).now = s.now ∧
      (s.dropRequest r).ssq = s.ssq ∧
      (s.dropRequest r).axt = s.axt ∧
      (s.dropRequest r).vsg = s.vsg ∧
      (s.dropRequest r).nodes = s.nodes ∧
      (s.dropRequest r).channels = s.channels ∧
      (s.dropRequest r).units = s.units ∧
      (s.dropRequest r).tsu = s.tsu ∧
      (s.dropRequest r).atq = s.atq ∧
      (s.dropRequest r).mpc = s.mpc ∧
      (s.dropRequest r).pending = s.pending := by
  simp [State.dropRequest]

@[simp] theorem State.lodge_frame (r : Request) (s : State) :
    (s.lodge r).now = s.now ∧
      (s.lodge r).ssq = s.ssq ∧
      (s.lodge r).axt = s.axt ∧
      (s.lodge r).vsg = s.vsg ∧
      (s.lodge r).nodes = s.nodes ∧
      (s.lodge r).channels = s.channels ∧
      (s.lodge r).units = s.units ∧
      (s.lodge r).tsu = s.tsu ∧
      (s.lodge r).atq = s.atq ∧
      (s.lodge r).mpc = s.mpc ∧
      (s.lodge r).pending = s.pending := by
  unfold State.lodge; dsimp only; split <;> (try split) <;> simp

@[simp] theorem State.submit_frame (r : Request) (s : State) :
    (s.submit r).now = s.now ∧
      (s.submit r).ssq = s.ssq ∧
      (s.submit r).axt = s.axt ∧
      (s.submit r).vsg = s.vsg ∧
      (s.submit r).nodes = s.nodes ∧
      (s.submit r).channels = s.channels ∧
      (s.submit r).units = s.units ∧
      (s.submit r).tsu = s.tsu ∧
      (s.submit r).atq = s.atq ∧
      (s.submit r).mpc = s.mpc ∧
      (s.submit r).pending = s.pending := by
  unfold State.submit; split <;> simp

@[simp] theorem State.moveSweep_frame (pos : SweepPos) (s : State) :
    (s.moveSweep pos).now = s.now ∧
      (s.moveSweep pos).ssq = s.ssq ∧
      (s.moveSweep pos).axt = s.axt ∧
      (s.moveSweep pos).vsg = s.vsg ∧
      (s.moveSweep pos).nodes = s.nodes ∧
      (s.moveSweep pos).channels = s.channels ∧
      (s.moveSweep pos).units = s.units ∧
      (s.moveSweep pos).tsu = s.tsu ∧
      (s.moveSweep pos).rps = s.rps ∧
      (s.moveSweep pos).atq = s.atq ∧
      (s.moveSweep pos).mpc = s.mpc ∧
      (s.moveSweep pos).pending = s.pending := by
  simp [State.moveSweep]

@[simp] theorem State.sweepVisit_frame (k : Fin 4) (r : Report) (pos : SweepPos) (s : State) :
    (s.sweepVisit k r pos).now = s.now ∧
      (s.sweepVisit k r pos).ssq = s.ssq ∧
      (s.sweepVisit k r pos).axt = s.axt ∧
      (s.sweepVisit k r pos).vsg = s.vsg ∧
      (s.sweepVisit k r pos).nodes = s.nodes ∧
      (s.sweepVisit k r pos).channels = s.channels ∧
      (s.sweepVisit k r pos).units = s.units ∧
      (s.sweepVisit k r pos).tsu = s.tsu ∧
      (s.sweepVisit k r pos).atq = s.atq ∧
      (s.sweepVisit k r pos).mpc = s.mpc ∧
      (s.sweepVisit k r pos).pending = s.pending := by
  unfold State.sweepVisit; dsimp only; split <;> (try split) <;> simp

@[simp] theorem State.retrySweep_frame (s : State) :
    (s.retrySweep).now = s.now ∧
      (s.retrySweep).ssq = s.ssq ∧
      (s.retrySweep).axt = s.axt ∧
      (s.retrySweep).vsg = s.vsg ∧
      (s.retrySweep).nodes = s.nodes ∧
      (s.retrySweep).channels = s.channels ∧
      (s.retrySweep).units = s.units ∧
      (s.retrySweep).tsu = s.tsu ∧
      (s.retrySweep).atq = s.atq ∧
      (s.retrySweep).mpc = s.mpc ∧
      (s.retrySweep).pending = s.pending := by
  unfold State.retrySweep; split <;> (try split) <;> simp

@[simp] theorem State.serveLanes_frame (s : State) :
    (s.serveLanes).now = s.now ∧
      (s.serveLanes).ssq = s.ssq ∧
      (s.serveLanes).axt = s.axt ∧
      (s.serveLanes).vsg = s.vsg ∧
      (s.serveLanes).nodes = s.nodes ∧
      (s.serveLanes).channels = s.channels ∧
      (s.serveLanes).units = s.units ∧
      (s.serveLanes).tsu = s.tsu ∧
      (s.serveLanes).atq = s.atq ∧
      (s.serveLanes).mpc = s.mpc ∧
      (s.serveLanes).pending = s.pending := by
  unfold State.serveLanes; dsimp only; split <;> simp

@[simp] theorem State.file_frame (r : Request) (s : State) :
    (s.file r).now = s.now ∧
      (s.file r).ssq = s.ssq ∧
      (s.file r).axt = s.axt ∧
      (s.file r).vsg = s.vsg ∧
      (s.file r).nodes = s.nodes ∧
      (s.file r).channels = s.channels ∧
      (s.file r).units = s.units ∧
      (s.file r).tsu = s.tsu ∧
      (s.file r).atq = s.atq ∧
      (s.file r).mpc = s.mpc ∧
      (s.file r).pending = s.pending := by
  unfold State.file; split <;> simp

@[simp] theorem State.request_frame (r : Request) (s : State) :
    (s.request r).now = s.now ∧
      (s.request r).ssq = s.ssq ∧
      (s.request r).axt = s.axt ∧
      (s.request r).vsg = s.vsg ∧
      (s.request r).nodes = s.nodes ∧
      (s.request r).channels = s.channels ∧
      (s.request r).units = s.units ∧
      (s.request r).tsu = s.tsu ∧
      (s.request r).atq = s.atq ∧
      (s.request r).mpc = s.mpc ∧
      (s.request r).pending = s.pending := by
  unfold State.request; split <;> simp

@[simp] theorem State.callCalibration_frame (s : State) :
    (s.callCalibration).now = s.now ∧
      (s.callCalibration).ssq = s.ssq ∧
      (s.callCalibration).axt = s.axt ∧
      (s.callCalibration).vsg = s.vsg ∧
      (s.callCalibration).nodes = s.nodes ∧
      (s.callCalibration).channels = s.channels ∧
      (s.callCalibration).units = s.units ∧
      (s.callCalibration).evu = s.evu ∧
      (s.callCalibration).rps = s.rps ∧
      (s.callCalibration).atq = s.atq ∧
      (s.callCalibration).mpc = s.mpc ∧
      (s.callCalibration).pending = s.pending := by
  unfold State.callCalibration; split <;> simp

@[simp] theorem State.withdrawCalibration_frame (s : State) :
    (s.withdrawCalibration).now = s.now ∧
      (s.withdrawCalibration).ssq = s.ssq ∧
      (s.withdrawCalibration).axt = s.axt ∧
      (s.withdrawCalibration).vsg = s.vsg ∧
      (s.withdrawCalibration).nodes = s.nodes ∧
      (s.withdrawCalibration).channels = s.channels ∧
      (s.withdrawCalibration).units = s.units ∧
      (s.withdrawCalibration).evu = s.evu ∧
      (s.withdrawCalibration).rps = s.rps ∧
      (s.withdrawCalibration).atq = s.atq ∧
      (s.withdrawCalibration).mpc = s.mpc ∧
      (s.withdrawCalibration).pending = s.pending := by
  simp [State.withdrawCalibration]

@[simp] theorem State.leaveSite_frame (s : State) :
    (s.leaveSite).now = s.now ∧
      (s.leaveSite).axt = s.axt ∧
      (s.leaveSite).vsg = s.vsg ∧
      (s.leaveSite).nodes = s.nodes ∧
      (s.leaveSite).channels = s.channels ∧
      (s.leaveSite).units = s.units ∧
      (s.leaveSite).evu = s.evu ∧
      (s.leaveSite).rps = s.rps ∧
      (s.leaveSite).atq = s.atq ∧
      (s.leaveSite).mpc = s.mpc ∧
      (s.leaveSite).pending = s.pending := by
  unfold State.leaveSite; dsimp only; split <;> simp

@[simp] theorem State.followStreams_frame (s : State) :
    (s.followStreams).now = s.now ∧
      (s.followStreams).axt = s.axt ∧
      (s.followStreams).vsg = s.vsg ∧
      (s.followStreams).channels = s.channels ∧
      (s.followStreams).units = s.units ∧
      (s.followStreams).evu = s.evu ∧
      (s.followStreams).rps = s.rps ∧
      (s.followStreams).atq = s.atq ∧
      (s.followStreams).mpc = s.mpc ∧
      (s.followStreams).pending = s.pending := by
  unfold State.followStreams; split <;> (try split) <;> simp [State.streamOn, State.streamOff]

@[simp] theorem State.entryActions_frame (s : State) :
    (s.entryActions).now = s.now ∧
      (s.entryActions).vsg = s.vsg ∧
      (s.entryActions).nodes = s.nodes ∧
      (s.entryActions).channels = s.channels ∧
      (s.entryActions).units = s.units ∧
      (s.entryActions).evu = s.evu ∧
      (s.entryActions).rps = s.rps ∧
      (s.entryActions).atq = s.atq ∧
      (s.entryActions).mpc = s.mpc ∧
      (s.entryActions).pending = s.pending ∧
      s.entryActions.axt.train = s.axt.train ∧
      s.entryActions.ssq.site = s.ssq.site := by
  unfold State.entryActions; split <;> (try split) <;> simp

@[simp] theorem State.changeSite_frame (new : SiteState) (cause : Cause) (s : State) :
    (s.changeSite new cause).now = s.now ∧
      (s.changeSite new cause).vsg = s.vsg ∧
      (s.changeSite new cause).channels = s.channels ∧
      (s.changeSite new cause).units = s.units ∧
      (s.changeSite new cause).evu = s.evu ∧
      (s.changeSite new cause).rps = s.rps ∧
      (s.changeSite new cause).atq = s.atq ∧
      (s.changeSite new cause).mpc.active = s.mpc.active ∧
      (s.changeSite new cause).mpc.pendingCfg = s.mpc.pendingCfg ∧
      (s.changeSite new cause).pending = s.pending ∧
      (s.changeSite new cause).axt.train = s.axt.train := by
  simp [State.changeSite]

@[simp] theorem State.arm_frame (s : State) :
    (s.arm).now = s.now ∧
      (s.arm).vsg = s.vsg ∧
      (s.arm).channels = s.channels ∧
      (s.arm).units = s.units ∧
      (s.arm).evu = s.evu ∧
      (s.arm).rps = s.rps ∧
      (s.arm).atq = s.atq ∧
      (s.arm).mpc.active = s.mpc.active ∧
      (s.arm).mpc.pendingCfg = s.mpc.pendingCfg ∧
      (s.arm).pending = s.pending ∧
      s.arm.axt.train = s.axt.train := by
  simp [State.arm]

@[simp] theorem State.levelCarry_frame (s : State) :
    (s.levelCarry).now = s.now ∧
      (s.levelCarry).vsg = s.vsg ∧
      (s.levelCarry).channels = s.channels ∧
      (s.levelCarry).units = s.units ∧
      (s.levelCarry).evu = s.evu ∧
      (s.levelCarry).rps = s.rps ∧
      (s.levelCarry).atq = s.atq ∧
      (s.levelCarry).mpc.active = s.mpc.active ∧
      (s.levelCarry).mpc.pendingCfg = s.mpc.pendingCfg ∧
      (s.levelCarry).pending = s.pending ∧
      s.levelCarry.axt.train = s.axt.train := by
  unfold State.levelCarry; split <;> (try split) <;> simp

@[simp] theorem State.applyPending_frame (s : State) :
    (s.applyPending).now = s.now ∧
      (s.applyPending).ssq = s.ssq ∧
      (s.applyPending).axt = s.axt ∧
      (s.applyPending).vsg = s.vsg ∧
      (s.applyPending).nodes = s.nodes ∧
      (s.applyPending).units = s.units ∧
      (s.applyPending).evu = s.evu ∧
      (s.applyPending).tsu = s.tsu ∧
      (s.applyPending).rps = s.rps ∧
      (s.applyPending).atq = s.atq ∧
      (s.applyPending).pending = s.pending ∧
      s.applyPending.mpc.ports = s.mpc.ports := by
  simp [State.applyPending]

@[simp] theorem State.settleIfBegun_frame (heldBefore : Bool) (s : State) :
    (s.settleIfBegun heldBefore).now = s.now ∧
      (s.settleIfBegun heldBefore).ssq = s.ssq ∧
      (s.settleIfBegun heldBefore).axt = s.axt ∧
      (s.settleIfBegun heldBefore).vsg = s.vsg ∧
      (s.settleIfBegun heldBefore).nodes = s.nodes ∧
      (s.settleIfBegun heldBefore).units = s.units ∧
      (s.settleIfBegun heldBefore).evu = s.evu ∧
      (s.settleIfBegun heldBefore).tsu = s.tsu ∧
      (s.settleIfBegun heldBefore).rps = s.rps ∧
      (s.settleIfBegun heldBefore).atq = s.atq ∧
      (s.settleIfBegun heldBefore).pending = s.pending ∧
      (s.settleIfBegun heldBefore).mpc.ports = s.mpc.ports := by
  unfold State.settleIfBegun; split <;> simp

@[simp] theorem State.enter_frame (new : SiteState) (cause : Cause) (s : State) :
    (s.enter new cause).now = s.now ∧
      (s.enter new cause).vsg = s.vsg ∧
      (s.enter new cause).units = s.units ∧
      (s.enter new cause).evu = s.evu ∧
      (s.enter new cause).rps = s.rps ∧
      (s.enter new cause).atq = s.atq ∧
      (s.enter new cause).pending = s.pending ∧
      (s.enter new cause).axt.train = s.axt.train := by
  simp [State.enter]

@[simp] theorem State.siteClosure_frame (s : State) :
    (s.siteClosure).now = s.now ∧
      (s.siteClosure).vsg = s.vsg ∧
      (s.siteClosure).units = s.units ∧
      (s.siteClosure).evu = s.evu ∧
      (s.siteClosure).rps = s.rps ∧
      (s.siteClosure).atq = s.atq ∧
      (s.siteClosure).pending = s.pending ∧
      (s.siteClosure).axt.train = s.axt.train := by
  unfold State.siteClosure; split <;> (try dsimp only) <;> (try split) <;> (try split) <;> (try split) <;> simp

@[simp] theorem State.reportEdge_frame (s : State) :
    (s.reportEdge).now = s.now ∧
      (s.reportEdge).vsg = s.vsg ∧
      (s.reportEdge).units = s.units ∧
      (s.reportEdge).evu = s.evu ∧
      (s.reportEdge).rps = s.rps ∧
      (s.reportEdge).atq = s.atq ∧
      (s.reportEdge).pending = s.pending ∧
      (s.reportEdge).axt.train = s.axt.train := by
  unfold State.reportEdge; split <;> (try split) <;> simp

@[simp] theorem State.falseApproach_frame (cause : Cause) (s : State) :
    (s.falseApproach cause).now = s.now ∧
      (s.falseApproach cause).vsg = s.vsg ∧
      (s.falseApproach cause).units = s.units ∧
      (s.falseApproach cause).evu = s.evu ∧
      (s.falseApproach cause).rps = s.rps ∧
      (s.falseApproach cause).atq = s.atq ∧
      (s.falseApproach cause).pending = s.pending ∧
      (s.falseApproach cause).axt.train = s.axt.train := by
  simp [State.falseApproach]

@[simp] theorem State.enableSite_frame (s : State) :
    (s.enableSite).now = s.now ∧
      (s.enableSite).vsg = s.vsg ∧
      (s.enableSite).units = s.units ∧
      (s.enableSite).evu = s.evu ∧
      (s.enableSite).rps = s.rps ∧
      (s.enableSite).atq = s.atq ∧
      (s.enableSite).pending = s.pending ∧
      (s.enableSite).axt.train = s.axt.train := by
  unfold State.enableSite; split <;> simp

@[simp] theorem State.disableSite_frame (s : State) :
    (s.disableSite).now = s.now ∧
      (s.disableSite).vsg = s.vsg ∧
      (s.disableSite).units = s.units ∧
      (s.disableSite).evu = s.evu ∧
      (s.disableSite).rps = s.rps ∧
      (s.disableSite).atq = s.atq ∧
      (s.disableSite).pending = s.pending ∧
      (s.disableSite).axt.train = s.axt.train := by
  unfold State.disableSite; split <;> simp

@[simp] theorem State.dormancyOnSite_frame (s : State) :
    (s.dormancyOnSite).now = s.now ∧
      (s.dormancyOnSite).vsg = s.vsg ∧
      (s.dormancyOnSite).units = s.units ∧
      (s.dormancyOnSite).evu = s.evu ∧
      (s.dormancyOnSite).rps = s.rps ∧
      (s.dormancyOnSite).atq = s.atq ∧
      (s.dormancyOnSite).pending = s.pending ∧
      (s.dormancyOnSite).axt.train = s.axt.train := by
  unfold State.dormancyOnSite; dsimp only; split <;> simp

@[simp] theorem State.dormancyOffSite_frame (s : State) :
    (s.dormancyOffSite).now = s.now ∧
      (s.dormancyOffSite).vsg = s.vsg ∧
      (s.dormancyOffSite).units = s.units ∧
      (s.dormancyOffSite).evu = s.evu ∧
      (s.dormancyOffSite).rps = s.rps ∧
      (s.dormancyOffSite).atq = s.atq ∧
      (s.dormancyOffSite).pending = s.pending ∧
      (s.dormancyOffSite).axt.train = s.axt.train := by
  unfold State.dormancyOffSite; dsimp only; split <;> simp

@[simp] theorem State.modScanner_frame (x : Side) (f : Scanner → Scanner) (s : State) :
    (s.modScanner x f).now = s.now ∧
      (s.modScanner x f).ssq = s.ssq ∧
      (s.modScanner x f).axt = s.axt ∧
      (s.modScanner x f).vsg = s.vsg ∧
      (s.modScanner x f).nodes = s.nodes ∧
      (s.modScanner x f).channels = s.channels ∧
      (s.modScanner x f).units = s.units ∧
      (s.modScanner x f).evu = s.evu ∧
      (s.modScanner x f).rps = s.rps ∧
      (s.modScanner x f).atq = s.atq ∧
      (s.modScanner x f).mpc = s.mpc ∧
      (s.modScanner x f).pending = s.pending := by
  simp [State.modScanner]

@[simp] theorem State.modGate_frame (x : Side) (f : Gate → Gate) (s : State) :
    (s.modGate x f).now = s.now ∧
      (s.modGate x f).ssq = s.ssq ∧
      (s.modGate x f).axt = s.axt ∧
      (s.modGate x f).vsg = s.vsg ∧
      (s.modGate x f).nodes = s.nodes ∧
      (s.modGate x f).channels = s.channels ∧
      (s.modGate x f).units = s.units ∧
      (s.modGate x f).evu = s.evu ∧
      (s.modGate x f).rps = s.rps ∧
      (s.modGate x f).atq = s.atq ∧
      (s.modGate x f).mpc = s.mpc ∧
      (s.modGate x f).pending = s.pending := by
  simp [State.modGate]

@[simp] theorem State.writeGateRecord_frame (t : OpenTrain) (axle : Nat) (x : Side) (r : GateRecord) (s : State) :
    (s.writeGateRecord t axle x r).now = s.now ∧
      (s.writeGateRecord t axle x r).ssq = s.ssq ∧
      (s.writeGateRecord t axle x r).axt = s.axt ∧
      (s.writeGateRecord t axle x r).vsg = s.vsg ∧
      (s.writeGateRecord t axle x r).nodes = s.nodes ∧
      (s.writeGateRecord t axle x r).channels = s.channels ∧
      (s.writeGateRecord t axle x r).units = s.units ∧
      (s.writeGateRecord t axle x r).tsu = s.tsu ∧
      (s.writeGateRecord t axle x r).atq = s.atq ∧
      (s.writeGateRecord t axle x r).mpc = s.mpc ∧
      (s.writeGateRecord t axle x r).pending = s.pending := by
  simp [State.writeGateRecord]

@[simp] theorem State.disposeGate_frame (t : OpenTrain) (p : GatePair) (x : Side) (r : GateRecord) (s : State) :
    (s.disposeGate t p x r).now = s.now ∧
      (s.disposeGate t p x r).ssq = s.ssq ∧
      (s.disposeGate t p x r).axt = s.axt ∧
      (s.disposeGate t p x r).vsg = s.vsg ∧
      (s.disposeGate t p x r).nodes = s.nodes ∧
      (s.disposeGate t p x r).channels = s.channels ∧
      (s.disposeGate t p x r).units = s.units ∧
      (s.disposeGate t p x r).atq = s.atq ∧
      (s.disposeGate t p x r).mpc = s.mpc ∧
      (s.disposeGate t p x r).pending = s.pending := by
  unfold State.disposeGate; split <;> (try split) <;> (try split) <;> simp

@[simp] theorem State.finishPair_frame (t : OpenTrain) (s : State) :
    (s.finishPair t).now = s.now ∧
      (s.finishPair t).ssq = s.ssq ∧
      (s.finishPair t).axt = s.axt ∧
      (s.finishPair t).vsg = s.vsg ∧
      (s.finishPair t).nodes = s.nodes ∧
      (s.finishPair t).channels = s.channels ∧
      (s.finishPair t).units = s.units ∧
      (s.finishPair t).atq = s.atq ∧
      (s.finishPair t).mpc = s.mpc ∧
      (s.finishPair t).pending = s.pending := by
  unfold State.finishPair; split <;> (try split) <;> (try dsimp only) <;> (try split) <;> (try split) <;> simp

@[simp] theorem State.closeGate_frame (x : Side) (gapped truncated : Bool) (s : State) :
    (s.closeGate x gapped truncated).now = s.now ∧
      (s.closeGate x gapped truncated).ssq = s.ssq ∧
      (s.closeGate x gapped truncated).axt = s.axt ∧
      (s.closeGate x gapped truncated).vsg = s.vsg ∧
      (s.closeGate x gapped truncated).nodes = s.nodes ∧
      (s.closeGate x gapped truncated).channels = s.channels ∧
      (s.closeGate x gapped truncated).units = s.units ∧
      (s.closeGate x gapped truncated).atq = s.atq ∧
      (s.closeGate x gapped truncated).mpc = s.mpc ∧
      (s.closeGate x gapped truncated).pending = s.pending := by
  unfold State.closeGate; split <;> (try split) <;> simp

@[simp] theorem State.closeGates_frame (truncated : Bool) (s : State) :
    (s.closeGates truncated).now = s.now ∧
      (s.closeGates truncated).ssq = s.ssq ∧
      (s.closeGates truncated).axt = s.axt ∧
      (s.closeGates truncated).vsg = s.vsg ∧
      (s.closeGates truncated).nodes = s.nodes ∧
      (s.closeGates truncated).channels = s.channels ∧
      (s.closeGates truncated).units = s.units ∧
      (s.closeGates truncated).atq = s.atq ∧
      (s.closeGates truncated).mpc = s.mpc ∧
      (s.closeGates truncated).pending = s.pending := by
  simp [State.closeGates]

@[simp] theorem State.gateEdge_frame (t : OpenTrain) (s : State) :
    (s.gateEdge t).now = s.now ∧
      (s.gateEdge t).ssq = s.ssq ∧
      (s.gateEdge t).axt = s.axt ∧
      (s.gateEdge t).vsg = s.vsg ∧
      (s.gateEdge t).nodes = s.nodes ∧
      (s.gateEdge t).channels = s.channels ∧
      (s.gateEdge t).units = s.units ∧
      (s.gateEdge t).atq = s.atq ∧
      (s.gateEdge t).mpc = s.mpc ∧
      (s.gateEdge t).pending = s.pending := by
  simp [State.gateEdge]

@[simp] theorem State.holdGates_frame (s : State) :
    (s.holdGates).now = s.now ∧
      (s.holdGates).ssq = s.ssq ∧
      (s.holdGates).axt = s.axt ∧
      (s.holdGates).vsg = s.vsg ∧
      (s.holdGates).nodes = s.nodes ∧
      (s.holdGates).channels = s.channels ∧
      (s.holdGates).units = s.units ∧
      (s.holdGates).evu = s.evu ∧
      (s.holdGates).rps = s.rps ∧
      (s.holdGates).atq = s.atq ∧
      (s.holdGates).mpc = s.mpc ∧
      (s.holdGates).pending = s.pending := by
  simp [State.holdGates]

@[simp] theorem State.resumeGates_frame (s : State) :
    (s.resumeGates).now = s.now ∧
      (s.resumeGates).ssq = s.ssq ∧
      (s.resumeGates).axt = s.axt ∧
      (s.resumeGates).vsg = s.vsg ∧
      (s.resumeGates).nodes = s.nodes ∧
      (s.resumeGates).channels = s.channels ∧
      (s.resumeGates).units = s.units ∧
      (s.resumeGates).evu = s.evu ∧
      (s.resumeGates).rps = s.rps ∧
      (s.resumeGates).atq = s.atq ∧
      (s.resumeGates).mpc = s.mpc ∧
      (s.resumeGates).pending = s.pending := by
  simp [State.resumeGates]

@[simp] theorem State.failCalibration_frame (x : Side) (s : State) :
    (s.failCalibration x).now = s.now ∧
      (s.failCalibration x).ssq = s.ssq ∧
      (s.failCalibration x).axt = s.axt ∧
      (s.failCalibration x).vsg = s.vsg ∧
      (s.failCalibration x).nodes = s.nodes ∧
      (s.failCalibration x).channels = s.channels ∧
      (s.failCalibration x).units = s.units ∧
      (s.failCalibration x).evu = s.evu ∧
      (s.failCalibration x).rps = s.rps ∧
      (s.failCalibration x).mpc.active = s.mpc.active ∧
      (s.failCalibration x).mpc.pendingCfg = s.mpc.pendingCfg ∧
      (s.failCalibration x).pending = s.pending := by
  simp [State.failCalibration]

@[simp] theorem State.accumulate_frame (x : Side) (f : ScannerFrame) (s : State) :
    (s.accumulate x f).now = s.now ∧
      (s.accumulate x f).ssq = s.ssq ∧
      (s.accumulate x f).axt = s.axt ∧
      (s.accumulate x f).vsg = s.vsg ∧
      (s.accumulate x f).nodes = s.nodes ∧
      (s.accumulate x f).channels = s.channels ∧
      (s.accumulate x f).units = s.units ∧
      (s.accumulate x f).evu = s.evu ∧
      (s.accumulate x f).rps = s.rps ∧
      (s.accumulate x f).atq = s.atq ∧
      (s.accumulate x f).mpc = s.mpc ∧
      (s.accumulate x f).pending = s.pending := by
  simp [State.accumulate]

@[simp] theorem State.calibrationFrame_frame (x : Side) (f : ScannerFrame) (s : State) :
    (s.calibrationFrame x f).now = s.now ∧
      (s.calibrationFrame x f).ssq = s.ssq ∧
      (s.calibrationFrame x f).axt = s.axt ∧
      (s.calibrationFrame x f).vsg = s.vsg ∧
      (s.calibrationFrame x f).nodes = s.nodes ∧
      (s.calibrationFrame x f).channels = s.channels ∧
      (s.calibrationFrame x f).units = s.units ∧
      (s.calibrationFrame x f).evu = s.evu ∧
      (s.calibrationFrame x f).rps = s.rps ∧
      (s.calibrationFrame x f).mpc.active = s.mpc.active ∧
      (s.calibrationFrame x f).mpc.pendingCfg = s.mpc.pendingCfg ∧
      (s.calibrationFrame x f).pending = s.pending := by
  unfold State.calibrationFrame; split <;> simp

@[simp] theorem State.gateFrame_frame (x : Side) (f : ScannerFrame) (t : Option Int) (s : State) :
    (s.gateFrame x f t).now = s.now ∧
      (s.gateFrame x f t).ssq = s.ssq ∧
      (s.gateFrame x f t).axt = s.axt ∧
      (s.gateFrame x f t).vsg = s.vsg ∧
      (s.gateFrame x f t).nodes = s.nodes ∧
      (s.gateFrame x f t).channels = s.channels ∧
      (s.gateFrame x f t).units = s.units ∧
      (s.gateFrame x f t).evu = s.evu ∧
      (s.gateFrame x f t).rps = s.rps ∧
      (s.gateFrame x f t).atq = s.atq ∧
      (s.gateFrame x f t).mpc = s.mpc ∧
      (s.gateFrame x f t).pending = s.pending := by
  unfold State.gateFrame; split <;> simp

@[simp] theorem State.ambientFrame_frame (x : Side) (f : ScannerFrame) (t : Option Int) (s : State) :
    (s.ambientFrame x f t).now = s.now ∧
      (s.ambientFrame x f t).ssq = s.ssq ∧
      (s.ambientFrame x f t).axt = s.axt ∧
      (s.ambientFrame x f t).vsg = s.vsg ∧
      (s.ambientFrame x f t).nodes = s.nodes ∧
      (s.ambientFrame x f t).channels = s.channels ∧
      (s.ambientFrame x f t).units = s.units ∧
      (s.ambientFrame x f t).evu = s.evu ∧
      (s.ambientFrame x f t).rps = s.rps ∧
      (s.ambientFrame x f t).atq = s.atq ∧
      (s.ambientFrame x f t).mpc = s.mpc ∧
      (s.ambientFrame x f t).pending = s.pending := by
  unfold State.ambientFrame; split <;> (try split) <;> simp

@[simp] theorem State.acceptScannerFrame_frame (x : Side) (f : ScannerFrame) (s : State) :
    (s.acceptScannerFrame x f).now = s.now ∧
      (s.acceptScannerFrame x f).ssq = s.ssq ∧
      (s.acceptScannerFrame x f).axt = s.axt ∧
      (s.acceptScannerFrame x f).vsg = s.vsg ∧
      (s.acceptScannerFrame x f).nodes = s.nodes ∧
      (s.acceptScannerFrame x f).channels = s.channels ∧
      (s.acceptScannerFrame x f).units = s.units ∧
      (s.acceptScannerFrame x f).evu = s.evu ∧
      (s.acceptScannerFrame x f).rps = s.rps ∧
      (s.acceptScannerFrame x f).mpc.active = s.mpc.active ∧
      (s.acceptScannerFrame x f).mpc.pendingCfg = s.mpc.pendingCfg ∧
      (s.acceptScannerFrame x f).pending = s.pending := by
  simp [State.acceptScannerFrame]

@[simp] theorem State.scannerJump_frame (x : Side) (missing : Nat) (s : State) :
    (s.scannerJump x missing).now = s.now ∧
      (s.scannerJump x missing).ssq = s.ssq ∧
      (s.scannerJump x missing).axt = s.axt ∧
      (s.scannerJump x missing).vsg = s.vsg ∧
      (s.scannerJump x missing).nodes = s.nodes ∧
      (s.scannerJump x missing).channels = s.channels ∧
      (s.scannerJump x missing).units = s.units ∧
      (s.scannerJump x missing).evu = s.evu ∧
      (s.scannerJump x missing).rps = s.rps ∧
      (s.scannerJump x missing).atq = s.atq ∧
      (s.scannerJump x missing).mpc = s.mpc ∧
      (s.scannerJump x missing).pending = s.pending := by
  simp [State.scannerJump]

@[simp] theorem State.presentScannerFrame_frame (x : Side) (f : ScannerFrame) (s : State) :
    (s.presentScannerFrame x f).now = s.now ∧
      (s.presentScannerFrame x f).ssq = s.ssq ∧
      (s.presentScannerFrame x f).axt = s.axt ∧
      (s.presentScannerFrame x f).vsg = s.vsg ∧
      (s.presentScannerFrame x f).nodes = s.nodes ∧
      (s.presentScannerFrame x f).channels = s.channels ∧
      (s.presentScannerFrame x f).units = s.units ∧
      (s.presentScannerFrame x f).evu = s.evu ∧
      (s.presentScannerFrame x f).rps = s.rps ∧
      (s.presentScannerFrame x f).mpc.active = s.mpc.active ∧
      (s.presentScannerFrame x f).mpc.pendingCfg = s.mpc.pendingCfg ∧
      (s.presentScannerFrame x f).pending = s.pending := by
  unfold State.presentScannerFrame; split <;> simp

@[simp] theorem State.loseScanner_frame (x : Side) (s : State) :
    (s.loseScanner x).now = s.now ∧
      (s.loseScanner x).ssq = s.ssq ∧
      (s.loseScanner x).axt = s.axt ∧
      (s.loseScanner x).vsg = s.vsg ∧
      (s.loseScanner x).nodes = s.nodes ∧
      (s.loseScanner x).channels = s.channels ∧
      (s.loseScanner x).units = s.units ∧
      (s.loseScanner x).mpc.active = s.mpc.active ∧
      (s.loseScanner x).mpc.pendingCfg = s.mpc.pendingCfg ∧
      (s.loseScanner x).pending = s.pending := by
  unfold State.loseScanner; dsimp only; split <;> simp

@[simp] theorem State.openCapture_frame (t : OpenTrain) (k : Fin 16) (y : Nat) (ovr : Bool) (s : State) :
    (s.openCapture t k y ovr).now = s.now ∧
      (s.openCapture t k y ovr).ssq = s.ssq ∧
      (s.openCapture t k y ovr).axt = s.axt ∧
      (s.openCapture t k y ovr).vsg = s.vsg ∧
      (s.openCapture t k y ovr).nodes = s.nodes ∧
      (s.openCapture t k y ovr).channels = s.channels ∧
      (s.openCapture t k y ovr).evu = s.evu ∧
      (s.openCapture t k y ovr).tsu = s.tsu ∧
      (s.openCapture t k y ovr).rps = s.rps ∧
      (s.openCapture t k y ovr).atq = s.atq ∧
      (s.openCapture t k y ovr).mpc = s.mpc ∧
      (s.openCapture t k y ovr).pending = s.pending := by
  simp [State.openCapture]

@[simp] theorem State.writeCribRecord_frame (t : OpenTrain) (slot : Fin 4) (k : Fin 16) (a : Nat) (r : CribRecord) (s : State) :
    (s.writeCribRecord t slot k a r).now = s.now ∧
      (s.writeCribRecord t slot k a r).ssq = s.ssq ∧
      (s.writeCribRecord t slot k a r).axt = s.axt ∧
      (s.writeCribRecord t slot k a r).vsg = s.vsg ∧
      (s.writeCribRecord t slot k a r).nodes = s.nodes ∧
      (s.writeCribRecord t slot k a r).channels = s.channels ∧
      (s.writeCribRecord t slot k a r).units = s.units ∧
      (s.writeCribRecord t slot k a r).tsu = s.tsu ∧
      (s.writeCribRecord t slot k a r).atq = s.atq ∧
      (s.writeCribRecord t slot k a r).mpc = s.mpc ∧
      (s.writeCribRecord t slot k a r).pending = s.pending := by
  unfold State.writeCribRecord; dsimp only; split <;> simp

@[simp] theorem State.disposeCapture_frame (t : OpenTrain) (k : Fin 16) (kind : CloseKind) (c : Capture) (s : State) :
    (s.disposeCapture t k kind c).now = s.now ∧
      (s.disposeCapture t k kind c).ssq = s.ssq ∧
      (s.disposeCapture t k kind c).axt = s.axt ∧
      (s.disposeCapture t k kind c).vsg = s.vsg ∧
      (s.disposeCapture t k kind c).nodes = s.nodes ∧
      (s.disposeCapture t k kind c).channels = s.channels ∧
      (s.disposeCapture t k kind c).tsu = s.tsu ∧
      (s.disposeCapture t k kind c).atq = s.atq ∧
      (s.disposeCapture t k kind c).mpc = s.mpc ∧
      (s.disposeCapture t k kind c).pending = s.pending := by
  unfold State.disposeCapture; split <;> (try dsimp only) <;> (try split) <;> (try split) <;> (try split) <;> simp

@[simp] theorem State.closeCapture_frame (t : OpenTrain) (k : Fin 16) (kind : CloseKind) (c : Capture) (s : State) :
    (s.closeCapture t k kind c).now = s.now ∧
      (s.closeCapture t k kind c).ssq = s.ssq ∧
      (s.closeCapture t k kind c).axt = s.axt ∧
      (s.closeCapture t k kind c).vsg = s.vsg ∧
      (s.closeCapture t k kind c).nodes = s.nodes ∧
      (s.closeCapture t k kind c).tsu = s.tsu ∧
      (s.closeCapture t k kind c).atq = s.atq ∧
      (s.closeCapture t k kind c).mpc = s.mpc ∧
      (s.closeCapture t k kind c).pending = s.pending := by
  simp [State.closeCapture]

@[simp] theorem State.followCapture_frame (t : OpenTrain) (k : Fin 16) (y : Nat) (ovr : Bool) (c : Capture) (s : State) :
    (s.followCapture t k y ovr c).now = s.now ∧
      (s.followCapture t k y ovr c).ssq = s.ssq ∧
      (s.followCapture t k y ovr c).axt = s.axt ∧
      (s.followCapture t k y ovr c).vsg = s.vsg ∧
      (s.followCapture t k y ovr c).nodes = s.nodes ∧
      (s.followCapture t k y ovr c).tsu = s.tsu ∧
      (s.followCapture t k y ovr c).atq = s.atq ∧
      (s.followCapture t k y ovr c).mpc = s.mpc ∧
      (s.followCapture t k y ovr c).pending = s.pending := by
  unfold State.followCapture; dsimp only; split <;> (try split) <;> (try split) <;> simp

@[simp] theorem State.suspendedSample_frame (k : Fin 16) (ovr : Bool) (c : Capture) (s : State) :
    (s.suspendedSample k ovr c).now = s.now ∧
      (s.suspendedSample k ovr c).ssq = s.ssq ∧
      (s.suspendedSample k ovr c).axt = s.axt ∧
      (s.suspendedSample k ovr c).vsg = s.vsg ∧
      (s.suspendedSample k ovr c).nodes = s.nodes ∧
      (s.suspendedSample k ovr c).channels = s.channels ∧
      (s.suspendedSample k ovr c).evu = s.evu ∧
      (s.suspendedSample k ovr c).tsu = s.tsu ∧
      (s.suspendedSample k ovr c).rps = s.rps ∧
      (s.suspendedSample k ovr c).atq = s.atq ∧
      (s.suspendedSample k ovr c).mpc = s.mpc ∧
      (s.suspendedSample k ovr c).pending = s.pending := by
  simp [State.suspendedSample]

@[simp] theorem State.captureSample_frame (k : Fin 16) (y : Nat) (ovr : Bool) (s : State) :
    (s.captureSample k y ovr).now = s.now ∧
      (s.captureSample k y ovr).ssq = s.ssq ∧
      (s.captureSample k y ovr).axt = s.axt ∧
      (s.captureSample k y ovr).vsg = s.vsg ∧
      (s.captureSample k y ovr).nodes = s.nodes ∧
      (s.captureSample k y ovr).tsu = s.tsu ∧
      (s.captureSample k y ovr).atq = s.atq ∧
      (s.captureSample k y ovr).mpc = s.mpc ∧
      (s.captureSample k y ovr).pending = s.pending := by
  unfold State.captureSample; split <;> (try split) <;> (try split) <;> (try split) <;> simp

@[simp] theorem State.captureGap_frame (k : Fin 16) (missing : Nat) (s : State) :
    (s.captureGap k missing).now = s.now ∧
      (s.captureGap k missing).ssq = s.ssq ∧
      (s.captureGap k missing).axt = s.axt ∧
      (s.captureGap k missing).vsg = s.vsg ∧
      (s.captureGap k missing).nodes = s.nodes ∧
      (s.captureGap k missing).channels = s.channels ∧
      (s.captureGap k missing).evu = s.evu ∧
      (s.captureGap k missing).tsu = s.tsu ∧
      (s.captureGap k missing).rps = s.rps ∧
      (s.captureGap k missing).atq = s.atq ∧
      (s.captureGap k missing).mpc = s.mpc ∧
      (s.captureGap k missing).pending = s.pending := by
  simp [State.captureGap]

@[simp] theorem State.closeIfOpen_frame (k : Fin 16) (kind : Capture → CloseKind) (s : State) :
    (s.closeIfOpen k kind).now = s.now ∧
      (s.closeIfOpen k kind).ssq = s.ssq ∧
      (s.closeIfOpen k kind).axt = s.axt ∧
      (s.closeIfOpen k kind).vsg = s.vsg ∧
      (s.closeIfOpen k kind).nodes = s.nodes ∧
      (s.closeIfOpen k kind).tsu = s.tsu ∧
      (s.closeIfOpen k kind).atq = s.atq ∧
      (s.closeIfOpen k kind).mpc = s.mpc ∧
      (s.closeIfOpen k kind).pending = s.pending := by
  unfold State.closeIfOpen; split <;> simp

@[simp] theorem State.captureNodeLost_frame (k : Fin 16) (s : State) :
    (s.captureNodeLost k).now = s.now ∧
      (s.captureNodeLost k).ssq = s.ssq ∧
      (s.captureNodeLost k).axt = s.axt ∧
      (s.captureNodeLost k).vsg = s.vsg ∧
      (s.captureNodeLost k).nodes = s.nodes ∧
      (s.captureNodeLost k).tsu = s.tsu ∧
      (s.captureNodeLost k).atq = s.atq ∧
      (s.captureNodeLost k).mpc = s.mpc ∧
      (s.captureNodeLost k).pending = s.pending := by
  simp [State.captureNodeLost]

@[simp] theorem State.closeAllCaptures_frame (s : State) :
    (s.closeAllCaptures).now = s.now ∧
      (s.closeAllCaptures).ssq = s.ssq ∧
      (s.closeAllCaptures).axt = s.axt ∧
      (s.closeAllCaptures).vsg = s.vsg ∧
      (s.closeAllCaptures).nodes = s.nodes ∧
      (s.closeAllCaptures).tsu = s.tsu ∧
      (s.closeAllCaptures).atq = s.atq ∧
      (s.closeAllCaptures).mpc = s.mpc ∧
      (s.closeAllCaptures).pending = s.pending := by
  simp [State.closeAllCaptures, allChannels]

@[simp] theorem State.reverseCaptures_frame (s : State) :
    (s.reverseCaptures).now = s.now ∧
      (s.reverseCaptures).ssq = s.ssq ∧
      (s.reverseCaptures).axt = s.axt ∧
      (s.reverseCaptures).vsg = s.vsg ∧
      (s.reverseCaptures).nodes = s.nodes ∧
      (s.reverseCaptures).channels = s.channels ∧
      (s.reverseCaptures).evu = s.evu ∧
      (s.reverseCaptures).tsu = s.tsu ∧
      (s.reverseCaptures).rps = s.rps ∧
      (s.reverseCaptures).atq = s.atq ∧
      (s.reverseCaptures).mpc = s.mpc ∧
      (s.reverseCaptures).pending = s.pending := by
  simp [State.reverseCaptures]

@[simp] theorem State.resetCapturePointers_frame (s : State) :
    (s.resetCapturePointers).now = s.now ∧
      (s.resetCapturePointers).ssq = s.ssq ∧
      (s.resetCapturePointers).axt = s.axt ∧
      (s.resetCapturePointers).vsg = s.vsg ∧
      (s.resetCapturePointers).nodes = s.nodes ∧
      (s.resetCapturePointers).channels = s.channels ∧
      (s.resetCapturePointers).evu = s.evu ∧
      (s.resetCapturePointers).tsu = s.tsu ∧
      (s.resetCapturePointers).rps = s.rps ∧
      (s.resetCapturePointers).atq = s.atq ∧
      (s.resetCapturePointers).mpc = s.mpc ∧
      (s.resetCapturePointers).pending = s.pending := by
  simp [State.resetCapturePointers]

@[simp] theorem State.trackBaseline_frame (k : Fin 16) (x : Int) (ovr : Bool) (s : State) :
    (s.trackBaseline k x ovr).now = s.now ∧
      (s.trackBaseline k x ovr).ssq = s.ssq ∧
      (s.trackBaseline k x ovr).axt = s.axt ∧
      (s.trackBaseline k x ovr).vsg = s.vsg ∧
      (s.trackBaseline k x ovr).nodes = s.nodes ∧
      (s.trackBaseline k x ovr).units = s.units ∧
      (s.trackBaseline k x ovr).evu = s.evu ∧
      (s.trackBaseline k x ovr).tsu = s.tsu ∧
      (s.trackBaseline k x ovr).rps = s.rps ∧
      (s.trackBaseline k x ovr).atq = s.atq ∧
      (s.trackBaseline k x ovr).mpc = s.mpc ∧
      (s.trackBaseline k x ovr).pending = s.pending := by
  unfold State.trackBaseline; split <;> simp

@[simp] theorem State.channelSample_frame (k : Fin 16) (x : Int) (ovr : Bool) (s : State) :
    (s.channelSample k x ovr).now = s.now ∧
      (s.channelSample k x ovr).ssq = s.ssq ∧
      (s.channelSample k x ovr).axt = s.axt ∧
      (s.channelSample k x ovr).vsg = s.vsg ∧
      (s.channelSample k x ovr).nodes = s.nodes ∧
      (s.channelSample k x ovr).tsu = s.tsu ∧
      (s.channelSample k x ovr).atq = s.atq ∧
      (s.channelSample k x ovr).mpc = s.mpc ∧
      (s.channelSample k x ovr).pending = s.pending := by
  simp [State.channelSample]

@[simp] theorem State.deliver_frame (g : Fin 4) (f : GaugeFrame) (s : State) :
    (s.deliver g f).now = s.now ∧
      (s.deliver g f).ssq = s.ssq ∧
      (s.deliver g f).axt = s.axt ∧
      (s.deliver g f).vsg = s.vsg ∧
      (s.deliver g f).nodes = s.nodes ∧
      (s.deliver g f).tsu = s.tsu ∧
      (s.deliver g f).atq = s.atq ∧
      (s.deliver g f).mpc = s.mpc ∧
      (s.deliver g f).pending = s.pending := by
  simp [State.deliver, nodeChannels]

@[simp] theorem State.gaugeGap_frame (g : Fin 4) (missing : Nat) (s : State) :
    (s.gaugeGap g missing).now = s.now ∧
      (s.gaugeGap g missing).ssq = s.ssq ∧
      (s.gaugeGap g missing).axt = s.axt ∧
      (s.gaugeGap g missing).vsg = s.vsg ∧
      (s.gaugeGap g missing).nodes = s.nodes ∧
      (s.gaugeGap g missing).channels = s.channels ∧
      (s.gaugeGap g missing).evu = s.evu ∧
      (s.gaugeGap g missing).tsu = s.tsu ∧
      (s.gaugeGap g missing).rps = s.rps ∧
      (s.gaugeGap g missing).atq = s.atq ∧
      (s.gaugeGap g missing).mpc = s.mpc ∧
      (s.gaugeGap g missing).pending = s.pending := by
  simp [State.gaugeGap, nodeChannels]

@[simp] theorem State.acceptGaugeSeq_frame (g : Fin 4) (f : GaugeFrame) (s : State) :
    (s.acceptGaugeSeq g f).now = s.now ∧
      (s.acceptGaugeSeq g f).ssq = s.ssq ∧
      (s.acceptGaugeSeq g f).axt = s.axt ∧
      (s.acceptGaugeSeq g f).vsg = s.vsg ∧
      (s.acceptGaugeSeq g f).channels = s.channels ∧
      (s.acceptGaugeSeq g f).units = s.units ∧
      (s.acceptGaugeSeq g f).evu = s.evu ∧
      (s.acceptGaugeSeq g f).tsu = s.tsu ∧
      (s.acceptGaugeSeq g f).rps = s.rps ∧
      (s.acceptGaugeSeq g f).atq = s.atq ∧
      (s.acceptGaugeSeq g f).mpc = s.mpc ∧
      (s.acceptGaugeSeq g f).pending = s.pending := by
  simp [State.acceptGaugeSeq]

@[simp] theorem State.gaugeDuplicate_frame (g : Fin 4) (s : State) :
    (s.gaugeDuplicate g).now = s.now ∧
      (s.gaugeDuplicate g).ssq = s.ssq ∧
      (s.gaugeDuplicate g).axt = s.axt ∧
      (s.gaugeDuplicate g).vsg = s.vsg ∧
      (s.gaugeDuplicate g).channels = s.channels ∧
      (s.gaugeDuplicate g).units = s.units ∧
      (s.gaugeDuplicate g).evu = s.evu ∧
      (s.gaugeDuplicate g).tsu = s.tsu ∧
      (s.gaugeDuplicate g).rps = s.rps ∧
      (s.gaugeDuplicate g).atq = s.atq ∧
      (s.gaugeDuplicate g).mpc = s.mpc ∧
      (s.gaugeDuplicate g).pending = s.pending := by
  simp [State.gaugeDuplicate]

@[simp] theorem State.gaugeMissing_frame (g : Fin 4) (missing : Nat) (s : State) :
    (s.gaugeMissing g missing).now = s.now ∧
      (s.gaugeMissing g missing).ssq = s.ssq ∧
      (s.gaugeMissing g missing).axt = s.axt ∧
      (s.gaugeMissing g missing).vsg = s.vsg ∧
      (s.gaugeMissing g missing).channels = s.channels ∧
      (s.gaugeMissing g missing).units = s.units ∧
      (s.gaugeMissing g missing).evu = s.evu ∧
      (s.gaugeMissing g missing).tsu = s.tsu ∧
      (s.gaugeMissing g missing).rps = s.rps ∧
      (s.gaugeMissing g missing).atq = s.atq ∧
      (s.gaugeMissing g missing).mpc = s.mpc ∧
      (s.gaugeMissing g missing).pending = s.pending := by
  simp [State.gaugeMissing]

@[simp] theorem State.badGaugeFrame_frame (g : Fin 4) (s : State) :
    (s.badGaugeFrame g).now = s.now ∧
      (s.badGaugeFrame g).ssq = s.ssq ∧
      (s.badGaugeFrame g).axt = s.axt ∧
      (s.badGaugeFrame g).vsg = s.vsg ∧
      (s.badGaugeFrame g).channels = s.channels ∧
      (s.badGaugeFrame g).units = s.units ∧
      (s.badGaugeFrame g).evu = s.evu ∧
      (s.badGaugeFrame g).tsu = s.tsu ∧
      (s.badGaugeFrame g).rps = s.rps ∧
      (s.badGaugeFrame g).atq = s.atq ∧
      (s.badGaugeFrame g).mpc = s.mpc ∧
      (s.badGaugeFrame g).pending = s.pending := by
  simp [State.badGaugeFrame]

@[simp] theorem State.settlingFrame_frame (g : Fin 4) (f : GaugeFrame) (s : State) :
    (s.settlingFrame g f).now = s.now ∧
      (s.settlingFrame g f).ssq = s.ssq ∧
      (s.settlingFrame g f).axt = s.axt ∧
      (s.settlingFrame g f).vsg = s.vsg ∧
      (s.settlingFrame g f).channels = s.channels ∧
      (s.settlingFrame g f).units = s.units ∧
      (s.settlingFrame g f).evu = s.evu ∧
      (s.settlingFrame g f).tsu = s.tsu ∧
      (s.settlingFrame g f).rps = s.rps ∧
      (s.settlingFrame g f).atq = s.atq ∧
      (s.settlingFrame g f).mpc = s.mpc ∧
      (s.settlingFrame g f).pending = s.pending := by
  unfold State.settlingFrame; split <;> simp

@[simp] theorem State.presentFrame_frame (g : Fin 4) (f : GaugeFrame) (s : State) :
    (s.presentFrame g f).now = s.now ∧
      (s.presentFrame g f).ssq = s.ssq ∧
      (s.presentFrame g f).axt = s.axt ∧
      (s.presentFrame g f).vsg = s.vsg ∧
      (s.presentFrame g f).tsu = s.tsu ∧
      (s.presentFrame g f).atq = s.atq ∧
      (s.presentFrame g f).mpc = s.mpc ∧
      (s.presentFrame g f).pending = s.pending := by
  unfold State.presentFrame; split <;> simp

@[simp] theorem State.resyncFrame_frame (g : Fin 4) (f : GaugeFrame) (s : State) :
    (s.resyncFrame g f).now = s.now ∧
      (s.resyncFrame g f).ssq = s.ssq ∧
      (s.resyncFrame g f).axt = s.axt ∧
      (s.resyncFrame g f).vsg = s.vsg ∧
      (s.resyncFrame g f).tsu = s.tsu ∧
      (s.resyncFrame g f).atq = s.atq ∧
      (s.resyncFrame g f).mpc = s.mpc ∧
      (s.resyncFrame g f).pending = s.pending := by
  unfold State.resyncFrame; dsimp only; split <;> simp

@[simp] theorem State.loseGauge_frame (g : Fin 4) (s : State) :
    (s.loseGauge g).now = s.now ∧
      (s.loseGauge g).ssq = s.ssq ∧
      (s.loseGauge g).axt = s.axt ∧
      (s.loseGauge g).vsg = s.vsg ∧
      (s.loseGauge g).tsu = s.tsu ∧
      (s.loseGauge g).mpc.active = s.mpc.active ∧
      (s.loseGauge g).mpc.pendingCfg = s.mpc.pendingCfg ∧
      (s.loseGauge g).pending = s.pending := by
  simp [State.loseGauge, nodeChannels]

@[simp] theorem State.segStart_frame (s : State) :
    (s.segStart).now = s.now ∧
      (s.segStart).ssq = s.ssq ∧
      (s.segStart).axt = s.axt ∧
      (s.segStart).nodes = s.nodes ∧
      (s.segStart).channels = s.channels ∧
      (s.segStart).units = s.units ∧
      (s.segStart).evu = s.evu ∧
      (s.segStart).tsu = s.tsu ∧
      (s.segStart).atq = s.atq ∧
      (s.segStart).mpc = s.mpc ∧
      (s.segStart).pending = s.pending := by
  simp [State.segStart]

@[simp] theorem State.segClose_frame (t : OpenTrain) (upto : Nat) (s : State) :
    (s.segClose t upto).now = s.now ∧
      (s.segClose t upto).ssq = s.ssq ∧
      (s.segClose t upto).axt = s.axt ∧
      (s.segClose t upto).vsg = s.vsg ∧
      (s.segClose t upto).nodes = s.nodes ∧
      (s.segClose t upto).channels = s.channels ∧
      (s.segClose t upto).units = s.units ∧
      (s.segClose t upto).tsu = s.tsu ∧
      (s.segClose t upto).atq = s.atq ∧
      (s.segClose t upto).mpc = s.mpc ∧
      (s.segClose t upto).pending = s.pending := by
  unfold State.segClose; split <;> (try dsimp only) <;> (try split) <;> (try split) <;> simp

@[simp] theorem State.segCount_frame (t : OpenTrain) (n : Nat) (s : State) :
    (s.segCount t n).now = s.now ∧
      (s.segCount t n).ssq = s.ssq ∧
      (s.segCount t n).axt = s.axt ∧
      (s.segCount t n).vsg = s.vsg ∧
      (s.segCount t n).nodes = s.nodes ∧
      (s.segCount t n).channels = s.channels ∧
      (s.segCount t n).units = s.units ∧
      (s.segCount t n).tsu = s.tsu ∧
      (s.segCount t n).atq = s.atq ∧
      (s.segCount t n).mpc = s.mpc ∧
      (s.segCount t n).pending = s.pending := by
  unfold State.segCount; split <;> (try dsimp only) <;> (try split) <;> (try split) <;> simp

@[simp] theorem State.segMid_frame (t : OpenTrain) (a : Nat) (s : State) :
    (s.segMid t a).now = s.now ∧
      (s.segMid t a).ssq = s.ssq ∧
      (s.segMid t a).axt = s.axt ∧
      (s.segMid t a).nodes = s.nodes ∧
      (s.segMid t a).channels = s.channels ∧
      (s.segMid t a).units = s.units ∧
      (s.segMid t a).tsu = s.tsu ∧
      (s.segMid t a).atq = s.atq ∧
      (s.segMid t a).mpc = s.mpc ∧
      (s.segMid t a).pending = s.pending := by
  simp [State.segMid]

@[simp] theorem State.segPush_frame (t : OpenTrain) (a : Nat) (spacing : Option (Nat × SpacingClass)) (s : State) :
    (s.segPush t a spacing).now = s.now ∧
      (s.segPush t a spacing).ssq = s.ssq ∧
      (s.segPush t a spacing).axt = s.axt ∧
      (s.segPush t a spacing).nodes = s.nodes ∧
      (s.segPush t a spacing).channels = s.channels ∧
      (s.segPush t a spacing).units = s.units ∧
      (s.segPush t a spacing).tsu = s.tsu ∧
      (s.segPush t a spacing).atq = s.atq ∧
      (s.segPush t a spacing).mpc = s.mpc ∧
      (s.segPush t a spacing).pending = s.pending := by
  unfold State.segPush; split <;> simp

@[simp] theorem State.segForward_frame (t : OpenTrain) (a v time : Nat) (spacing : Option (Nat × SpacingClass)) (s : State) :
    (s.segForward t a v time spacing).now = s.now ∧
      (s.segForward t a v time spacing).ssq = s.ssq ∧
      (s.segForward t a v time spacing).axt = s.axt ∧
      (s.segForward t a v time spacing).nodes = s.nodes ∧
      (s.segForward t a v time spacing).channels = s.channels ∧
      (s.segForward t a v time spacing).units = s.units ∧
      (s.segForward t a v time spacing).tsu = s.tsu ∧
      (s.segForward t a v time spacing).atq = s.atq ∧
      (s.segForward t a v time spacing).mpc = s.mpc ∧
      (s.segForward t a v time spacing).pending = s.pending := by
  simp [State.segForward]

@[simp] theorem State.segRemove_frame (t : OpenTrain) (s : State) :
    (s.segRemove t).now = s.now ∧
      (s.segRemove t).ssq = s.ssq ∧
      (s.segRemove t).axt = s.axt ∧
      (s.segRemove t).nodes = s.nodes ∧
      (s.segRemove t).channels = s.channels ∧
      (s.segRemove t).units = s.units ∧
      (s.segRemove t).tsu = s.tsu ∧
      (s.segRemove t).atq = s.atq ∧
      (s.segRemove t).mpc = s.mpc ∧
      (s.segRemove t).pending = s.pending := by
  unfold State.segRemove; dsimp only; split <;> split <;> simp

@[simp] theorem State.segReverse_frame (t : OpenTrain) (n : Nat) (s : State) :
    (s.segReverse t n).now = s.now ∧
      (s.segReverse t n).ssq = s.ssq ∧
      (s.segReverse t n).axt = s.axt ∧
      (s.segReverse t n).nodes = s.nodes ∧
      (s.segReverse t n).channels = s.channels ∧
      (s.segReverse t n).units = s.units ∧
      (s.segReverse t n).tsu = s.tsu ∧
      (s.segReverse t n).atq = s.atq ∧
      (s.segReverse t n).mpc = s.mpc ∧
      (s.segReverse t n).pending = s.pending := by
  unfold State.segReverse; dsimp only; split <;> split <;> simp

@[simp] theorem State.segInterrupt_frame (s : State) :
    (s.segInterrupt).now = s.now ∧
      (s.segInterrupt).ssq = s.ssq ∧
      (s.segInterrupt).axt = s.axt ∧
      (s.segInterrupt).nodes = s.nodes ∧
      (s.segInterrupt).channels = s.channels ∧
      (s.segInterrupt).units = s.units ∧
      (s.segInterrupt).evu = s.evu ∧
      (s.segInterrupt).tsu = s.tsu ∧
      (s.segInterrupt).rps = s.rps ∧
      (s.segInterrupt).atq = s.atq ∧
      (s.segInterrupt).mpc = s.mpc ∧
      (s.segInterrupt).pending = s.pending := by
  simp [State.segInterrupt]

@[simp] theorem State.endStreamsOf_frame (k : Fin 4) (s : State) :
    (s.endStreamsOf k).now = s.now ∧
      (s.endStreamsOf k).ssq = s.ssq ∧
      (s.endStreamsOf k).axt = s.axt ∧
      (s.endStreamsOf k).vsg = s.vsg ∧
      (s.endStreamsOf k).nodes = s.nodes ∧
      (s.endStreamsOf k).channels = s.channels ∧
      (s.endStreamsOf k).units = s.units ∧
      (s.endStreamsOf k).evu = s.evu ∧
      (s.endStreamsOf k).tsu = s.tsu ∧
      (s.endStreamsOf k).rps = s.rps ∧
      (s.endStreamsOf k).atq = s.atq ∧
      (s.endStreamsOf k).mpc.active = s.mpc.active ∧
      (s.endStreamsOf k).mpc.pendingCfg = s.mpc.pendingCfg ∧
      (s.endStreamsOf k).pending = s.pending := by
  simp [State.endStreamsOf]

@[simp] theorem State.allocate_frame (k : Fin 4) (d0 : Direction) (entry : Pair) (flags : HeaderFlags) (s : State) :
    (s.allocate k d0 entry flags).now = s.now ∧
      (s.allocate k d0 entry flags).ssq = s.ssq ∧
      (s.allocate k d0 entry flags).axt = s.axt ∧
      (s.allocate k d0 entry flags).vsg = s.vsg ∧
      (s.allocate k d0 entry flags).nodes = s.nodes ∧
      (s.allocate k d0 entry flags).channels = s.channels ∧
      (s.allocate k d0 entry flags).units = s.units ∧
      (s.allocate k d0 entry flags).tsu = s.tsu ∧
      (s.allocate k d0 entry flags).mpc.active = s.mpc.active ∧
      (s.allocate k d0 entry flags).mpc.pendingCfg = s.mpc.pendingCfg ∧
      (s.allocate k d0 entry flags).pending = s.pending := by
  simp [State.allocate]

@[simp] theorem State.setSlotState_frame (k : Fin 4) (st : SlotState) (s : State) :
    (s.setSlotState k st).now = s.now ∧
      (s.setSlotState k st).ssq = s.ssq ∧
      (s.setSlotState k st).axt = s.axt ∧
      (s.setSlotState k st).vsg = s.vsg ∧
      (s.setSlotState k st).nodes = s.nodes ∧
      (s.setSlotState k st).channels = s.channels ∧
      (s.setSlotState k st).units = s.units ∧
      (s.setSlotState k st).evu = s.evu ∧
      (s.setSlotState k st).tsu = s.tsu ∧
      (s.setSlotState k st).atq = s.atq ∧
      (s.setSlotState k st).mpc = s.mpc ∧
      (s.setSlotState k st).pending = s.pending := by
  simp [State.setSlotState]

@[simp] theorem State.noticeComplete_frame (k : Fin 4) (s : State) :
    (s.noticeComplete k).now = s.now ∧
      (s.noticeComplete k).ssq = s.ssq ∧
      (s.noticeComplete k).axt = s.axt ∧
      (s.noticeComplete k).vsg = s.vsg ∧
      (s.noticeComplete k).nodes = s.nodes ∧
      (s.noticeComplete k).channels = s.channels ∧
      (s.noticeComplete k).units = s.units ∧
      (s.noticeComplete k).evu = s.evu ∧
      (s.noticeComplete k).tsu = s.tsu ∧
      (s.noticeComplete k).rps = s.rps ∧
      (s.noticeComplete k).atq = s.atq ∧
      (s.noticeComplete k).mpc.active = s.mpc.active ∧
      (s.noticeComplete k).mpc.pendingCfg = s.mpc.pendingCfg ∧
      (s.noticeComplete k).pending = s.pending := by
  unfold State.noticeComplete; split <;> simp

@[simp] theorem State.completeSlot_frame (k : Fin 4) (s : State) :
    (s.completeSlot k).now = s.now ∧
      (s.completeSlot k).vsg = s.vsg ∧
      (s.completeSlot k).units = s.units ∧
      (s.completeSlot k).atq = s.atq ∧
      (s.completeSlot k).pending = s.pending ∧
      (s.completeSlot k).axt.train = s.axt.train := by
  simp [State.completeSlot]

@[simp] theorem State.abortSlot_frame (k : Fin 4) (s : State) :
    (s.abortSlot k).now = s.now ∧
      (s.abortSlot k).ssq = s.ssq ∧
      (s.abortSlot k).axt = s.axt ∧
      (s.abortSlot k).vsg = s.vsg ∧
      (s.abortSlot k).nodes = s.nodes ∧
      (s.abortSlot k).channels = s.channels ∧
      (s.abortSlot k).units = s.units ∧
      (s.abortSlot k).evu = s.evu ∧
      (s.abortSlot k).tsu = s.tsu ∧
      (s.abortSlot k).atq = s.atq ∧
      (s.abortSlot k).mpc.active = s.mpc.active ∧
      (s.abortSlot k).mpc.pendingCfg = s.mpc.pendingCfg ∧
      (s.abortSlot k).pending = s.pending := by
  simp [State.abortSlot]

@[simp] theorem State.abortSlots_frame (s : State) :
    (s.abortSlots).now = s.now ∧
      (s.abortSlots).ssq = s.ssq ∧
      (s.abortSlots).axt = s.axt ∧
      (s.abortSlots).vsg = s.vsg ∧
      (s.abortSlots).nodes = s.nodes ∧
      (s.abortSlots).channels = s.channels ∧
      (s.abortSlots).units = s.units ∧
      (s.abortSlots).evu = s.evu ∧
      (s.abortSlots).tsu = s.tsu ∧
      (s.abortSlots).atq = s.atq ∧
      (s.abortSlots).mpc.active = s.mpc.active ∧
      (s.abortSlots).mpc.pendingCfg = s.mpc.pendingCfg ∧
      (s.abortSlots).pending = s.pending := by
  unfold State.abortSlots
  dsimp only
  generalize List.filter s.slotClosing s.evu.sweepQueue ++ List.filter (s.slotIs .filling) [0, 1, 2, 3] = ks
  induction ks generalizing s with
  | nil => simp
  | cons k ks ih => simpa using ih (s.abortSlot k)

@[simp] theorem State.modPair_frame (pr : Pair) (f : PairMachine → PairMachine) (s : State) :
    (s.modPair pr f).now = s.now ∧
      (s.modPair pr f).ssq = s.ssq ∧
      (s.modPair pr f).vsg = s.vsg ∧
      (s.modPair pr f).nodes = s.nodes ∧
      (s.modPair pr f).channels = s.channels ∧
      (s.modPair pr f).units = s.units ∧
      (s.modPair pr f).evu = s.evu ∧
      (s.modPair pr f).tsu = s.tsu ∧
      (s.modPair pr f).rps = s.rps ∧
      (s.modPair pr f).atq = s.atq ∧
      (s.modPair pr f).mpc = s.mpc ∧
      (s.modPair pr f).pending = s.pending ∧
      (s.modPair pr f).axt.train = s.axt.train := by
  simp [State.modPair]

@[simp] theorem State.setSpeed_frame (v : Nat) (s : State) :
    (s.setSpeed v).now = s.now ∧
      (s.setSpeed v).ssq = s.ssq ∧
      (s.setSpeed v).vsg = s.vsg ∧
      (s.setSpeed v).nodes = s.nodes ∧
      (s.setSpeed v).channels = s.channels ∧
      (s.setSpeed v).units = s.units ∧
      (s.setSpeed v).evu = s.evu ∧
      (s.setSpeed v).tsu = s.tsu ∧
      (s.setSpeed v).atq = s.atq ∧
      (s.setSpeed v).mpc = s.mpc ∧
      (s.setSpeed v).pending = s.pending := by
  simp [State.setSpeed]

@[simp] theorem State.reversal_frame (s : State) :
    (s.reversal).now = s.now ∧
      (s.reversal).ssq = s.ssq ∧
      (s.reversal).axt = s.axt ∧
      (s.reversal).nodes = s.nodes ∧
      (s.reversal).channels = s.channels ∧
      (s.reversal).atq = s.atq ∧
      (s.reversal).mpc = s.mpc ∧
      (s.reversal).pending = s.pending := by
  simp [State.reversal]

@[simp] theorem State.setMotion_frame (t : OpenTrain) (pr : Pair) (travel : Direction) (v : Nat) (s : State) :
    (s.setMotion t pr travel v).now = s.now ∧
      (s.setMotion t pr travel v).ssq = s.ssq ∧
      (s.setMotion t pr travel v).nodes = s.nodes ∧
      (s.setMotion t pr travel v).channels = s.channels ∧
      (s.setMotion t pr travel v).atq = s.atq ∧
      (s.setMotion t pr travel v).mpc = s.mpc ∧
      (s.setMotion t pr travel v).pending = s.pending := by
  unfold State.setMotion; dsimp only; split <;> split <;> simp

@[simp] theorem State.newAxle_frame (a v : Nat) (spacing : Option (Nat × SpacingClass)) (s : State) :
    (s.newAxle a v spacing).now = s.now ∧
      (s.newAxle a v spacing).ssq = s.ssq ∧
      (s.newAxle a v spacing).axt = s.axt ∧
      (s.newAxle a v spacing).vsg = s.vsg ∧
      (s.newAxle a v spacing).nodes = s.nodes ∧
      (s.newAxle a v spacing).channels = s.channels ∧
      (s.newAxle a v spacing).units = s.units ∧
      (s.newAxle a v spacing).evu = s.evu ∧
      (s.newAxle a v spacing).tsu = s.tsu ∧
      (s.newAxle a v spacing).atq = s.atq ∧
      (s.newAxle a v spacing).mpc = s.mpc ∧
      (s.newAxle a v spacing).pending = s.pending := by
  unfold State.newAxle; split <;> simp

@[simp] theorem State.rePass_frame (a : Nat) (s : State) :
    (s.rePass a).now = s.now ∧
      (s.rePass a).ssq = s.ssq ∧
      (s.rePass a).axt = s.axt ∧
      (s.rePass a).vsg = s.vsg ∧
      (s.rePass a).nodes = s.nodes ∧
      (s.rePass a).channels = s.channels ∧
      (s.rePass a).units = s.units ∧
      (s.rePass a).evu = s.evu ∧
      (s.rePass a).tsu = s.tsu ∧
      (s.rePass a).atq = s.atq ∧
      (s.rePass a).mpc = s.mpc ∧
      (s.rePass a).pending = s.pending := by
  unfold State.rePass; split <;> simp

@[simp] theorem State.flagCountConflict_frame (s : State) :
    (s.flagCountConflict).now = s.now ∧
      (s.flagCountConflict).ssq = s.ssq ∧
      (s.flagCountConflict).axt = s.axt ∧
      (s.flagCountConflict).vsg = s.vsg ∧
      (s.flagCountConflict).nodes = s.nodes ∧
      (s.flagCountConflict).channels = s.channels ∧
      (s.flagCountConflict).units = s.units ∧
      (s.flagCountConflict).evu = s.evu ∧
      (s.flagCountConflict).tsu = s.tsu ∧
      (s.flagCountConflict).atq = s.atq ∧
      (s.flagCountConflict).mpc = s.mpc ∧
      (s.flagCountConflict).pending = s.pending := by
  simp [State.flagCountConflict]

@[simp] theorem State.forwardEntry_frame (t : OpenTrain) (v : Nat) (s : State) :
    (s.forwardEntry t v).now = s.now ∧
      (s.forwardEntry t v).ssq = s.ssq ∧
      (s.forwardEntry t v).nodes = s.nodes ∧
      (s.forwardEntry t v).channels = s.channels ∧
      (s.forwardEntry t v).units = s.units ∧
      (s.forwardEntry t v).tsu = s.tsu ∧
      (s.forwardEntry t v).atq = s.atq ∧
      (s.forwardEntry t v).mpc = s.mpc ∧
      (s.forwardEntry t v).pending = s.pending := by
  unfold State.forwardEntry; dsimp only; split <;> (try split) <;> simp

@[simp] theorem State.clampPointers_frame (n : Nat) (s : State) :
    (s.clampPointers n).now = s.now ∧
      (s.clampPointers n).ssq = s.ssq ∧
      (s.clampPointers n).vsg = s.vsg ∧
      (s.clampPointers n).nodes = s.nodes ∧
      (s.clampPointers n).channels = s.channels ∧
      (s.clampPointers n).evu = s.evu ∧
      (s.clampPointers n).rps = s.rps ∧
      (s.clampPointers n).atq = s.atq ∧
      (s.clampPointers n).mpc = s.mpc ∧
      (s.clampPointers n).pending = s.pending ∧
      (s.clampPointers n).axt.train = s.axt.train := by
  simp [State.clampPointers]

@[simp] theorem State.reverseEntry_frame (t : OpenTrain) (s : State) :
    (s.reverseEntry t).now = s.now ∧
      (s.reverseEntry t).ssq = s.ssq ∧
      (s.reverseEntry t).nodes = s.nodes ∧
      (s.reverseEntry t).channels = s.channels ∧
      (s.reverseEntry t).mpc.active = s.mpc.active ∧
      (s.reverseEntry t).mpc.pendingCfg = s.mpc.pendingCfg ∧
      (s.reverseEntry t).pending = s.pending := by
  unfold State.reverseEntry; split <;> simp

@[simp] theorem State.forwardExit_frame (t : OpenTrain) (s : State) :
    (s.forwardExit t).now = s.now ∧
      (s.forwardExit t).ssq = s.ssq ∧
      (s.forwardExit t).vsg = s.vsg ∧
      (s.forwardExit t).nodes = s.nodes ∧
      (s.forwardExit t).channels = s.channels ∧
      (s.forwardExit t).units = s.units ∧
      (s.forwardExit t).evu = s.evu ∧
      (s.forwardExit t).tsu = s.tsu ∧
      (s.forwardExit t).rps = s.rps ∧
      (s.forwardExit t).atq = s.atq ∧
      (s.forwardExit t).mpc = s.mpc ∧
      (s.forwardExit t).pending = s.pending := by
  unfold State.forwardExit; split <;> simp

@[simp] theorem State.reverseExit_frame (s : State) :
    (s.reverseExit).now = s.now ∧
      (s.reverseExit).ssq = s.ssq ∧
      (s.reverseExit).vsg = s.vsg ∧
      (s.reverseExit).nodes = s.nodes ∧
      (s.reverseExit).channels = s.channels ∧
      (s.reverseExit).units = s.units ∧
      (s.reverseExit).evu = s.evu ∧
      (s.reverseExit).tsu = s.tsu ∧
      (s.reverseExit).rps = s.rps ∧
      (s.reverseExit).atq = s.atq ∧
      (s.reverseExit).mpc = s.mpc ∧
      (s.reverseExit).pending = s.pending := by
  simp [State.reverseExit]

@[simp] theorem State.countCrossing_frame (t : OpenTrain) (pr : Pair) (inward : Bool) (v : Nat) (s : State) :
    (s.countCrossing t pr inward v).now = s.now ∧
      (s.countCrossing t pr inward v).ssq = s.ssq ∧
      (s.countCrossing t pr inward v).nodes = s.nodes ∧
      (s.countCrossing t pr inward v).channels = s.channels ∧
      (s.countCrossing t pr inward v).mpc.active = s.mpc.active ∧
      (s.countCrossing t pr inward v).mpc.pendingCfg = s.mpc.pendingCfg ∧
      (s.countCrossing t pr inward v).pending = s.pending := by
  unfold State.countCrossing; split <;> split <;> simp

@[simp] theorem State.openCrossing_frame (pr : Pair) (inward : Bool) (v : Nat) (s : State) :
    (s.openCrossing pr inward v).now = s.now ∧
      (s.openCrossing pr inward v).ssq = s.ssq ∧
      (s.openCrossing pr inward v).nodes = s.nodes ∧
      (s.openCrossing pr inward v).channels = s.channels ∧
      (s.openCrossing pr inward v).mpc.active = s.mpc.active ∧
      (s.openCrossing pr inward v).mpc.pendingCfg = s.mpc.pendingCfg ∧
      (s.openCrossing pr inward v).pending = s.pending := by
  unfold State.openCrossing; split <;> simp

@[simp] theorem State.startTrainIn_frame (k : Fin 4) (pr : Pair) (s : State) :
    (s.startTrainIn k pr).now = s.now ∧
      (s.startTrainIn k pr).pending = s.pending := by
  unfold State.startTrainIn; dsimp only; split <;> simp

@[simp] theorem State.trainStart_frame (pr : Pair) (v : Nat) (s : State) :
    (s.trainStart pr v).now = s.now ∧
      (s.trainStart pr v).pending = s.pending := by
  unfold State.trainStart; split <;> simp

@[simp] theorem State.recordStale_frame (t : OpenTrain) (s : State) :
    (s.recordStale t).now = s.now ∧
      (s.recordStale t).ssq = s.ssq ∧
      (s.recordStale t).axt = s.axt ∧
      (s.recordStale t).vsg = s.vsg ∧
      (s.recordStale t).nodes = s.nodes ∧
      (s.recordStale t).channels = s.channels ∧
      (s.recordStale t).units = s.units ∧
      (s.recordStale t).evu = s.evu ∧
      (s.recordStale t).tsu = s.tsu ∧
      (s.recordStale t).mpc.active = s.mpc.active ∧
      (s.recordStale t).mpc.pendingCfg = s.mpc.pendingCfg ∧
      (s.recordStale t).pending = s.pending := by
  simp [State.recordStale]

@[simp] theorem State.closeTrain_frame (t : OpenTrain) (kind : ClosureKind) (s : State) :
    (s.closeTrain t kind).now = s.now ∧
      (s.closeTrain t kind).vsg = s.vsg ∧
      (s.closeTrain t kind).pending = s.pending ∧
      (s.closeTrain t kind).axt.train = none := by
  simp [State.closeTrain, Axt.closed]

@[simp] theorem State.restartClear_frame (s : State) :
    (s.restartClear).now = s.now ∧
      (s.restartClear).ssq = s.ssq ∧
      (s.restartClear).vsg = s.vsg ∧
      (s.restartClear).nodes = s.nodes ∧
      (s.restartClear).channels = s.channels ∧
      (s.restartClear).units = s.units ∧
      (s.restartClear).evu = s.evu ∧
      (s.restartClear).tsu = s.tsu ∧
      (s.restartClear).rps = s.rps ∧
      (s.restartClear).atq = s.atq ∧
      (s.restartClear).mpc = s.mpc ∧
      (s.restartClear).pending = s.pending := by
  simp [State.restartClear]

@[simp] theorem State.restartHalt_frame (s : State) :
    (s.restartHalt).now = s.now ∧
      (s.restartHalt).ssq = s.ssq ∧
      (s.restartHalt).vsg = s.vsg ∧
      (s.restartHalt).nodes = s.nodes ∧
      (s.restartHalt).channels = s.channels ∧
      (s.restartHalt).units = s.units ∧
      (s.restartHalt).evu = s.evu ∧
      (s.restartHalt).tsu = s.tsu ∧
      (s.restartHalt).rps = s.rps ∧
      (s.restartHalt).atq = s.atq ∧
      (s.restartHalt).mpc = s.mpc ∧
      (s.restartHalt).pending = s.pending := by
  simp [State.restartHalt]

@[simp] theorem State.idleCrossing_frame (pr : Pair) (c : Option (Bool × Nat)) (s : State) :
    (s.idleCrossing pr c).now = s.now ∧
      (s.idleCrossing pr c).pending = s.pending := by
  unfold State.idleCrossing; split <;> simp

@[simp] theorem State.passageCrossing_frame (pr : Pair) (c : Option (Bool × Nat)) (s : State) :
    (s.passageCrossing pr c).now = s.now ∧
      (s.passageCrossing pr c).ssq = s.ssq ∧
      (s.passageCrossing pr c).nodes = s.nodes ∧
      (s.passageCrossing pr c).channels = s.channels ∧
      (s.passageCrossing pr c).mpc.active = s.mpc.active ∧
      (s.passageCrossing pr c).mpc.pendingCfg = s.mpc.pendingCfg ∧
      (s.passageCrossing pr c).pending = s.pending := by
  unfold State.passageCrossing; split <;> simp

@[simp] theorem State.pairEdge_frame (pr : Pair) (outer : Bool) (s : State) :
    (s.pairEdge pr outer).now = s.now ∧
      (s.pairEdge pr outer).pending = s.pending := by
  unfold State.pairEdge; dsimp only; split <;> split <;> simp

@[simp] theorem State.declareHalt_frame (t : OpenTrain) (s : State) :
    (s.declareHalt t).now = s.now ∧
      (s.declareHalt t).ssq = s.ssq ∧
      (s.declareHalt t).nodes = s.nodes ∧
      (s.declareHalt t).channels = s.channels ∧
      (s.declareHalt t).units = s.units ∧
      (s.declareHalt t).evu = s.evu ∧
      (s.declareHalt t).atq = s.atq ∧
      (s.declareHalt t).mpc = s.mpc ∧
      (s.declareHalt t).pending = s.pending := by
  unfold State.declareHalt; dsimp only; split <;> simp

@[simp] theorem State.clearTest_frame (t : OpenTrain) (s : State) :
    (s.clearTest t).now = s.now ∧
      (s.clearTest t).vsg = s.vsg ∧
      (s.clearTest t).pending = s.pending := by
  unfold State.clearTest; split <;> (try split) <;> simp

@[simp] theorem State.completionTest_frame (k : Fin 4) (s : State) :
    (s.completionTest k).now = s.now ∧
      (s.completionTest k).vsg = s.vsg ∧
      (s.completionTest k).units = s.units ∧
      (s.completionTest k).atq = s.atq ∧
      (s.completionTest k).pending = s.pending ∧
      (s.completionTest k).axt.train = s.axt.train := by
  unfold State.completionTest; split <;> simp

@[simp] theorem State.settleDirty_frame (e : Evaluation) (s : State) :
    (s.settleDirty e).now = s.now ∧
      (s.settleDirty e).ssq = s.ssq ∧
      (s.settleDirty e).axt = s.axt ∧
      (s.settleDirty e).vsg = s.vsg ∧
      (s.settleDirty e).nodes = s.nodes ∧
      (s.settleDirty e).channels = s.channels ∧
      (s.settleDirty e).units = s.units ∧
      (s.settleDirty e).tsu = s.tsu ∧
      (s.settleDirty e).atq = s.atq ∧
      (s.settleDirty e).mpc = s.mpc ∧
      (s.settleDirty e).pending = s.pending := by
  unfold State.settleDirty; dsimp only; split <;> (try split) <;> (try split) <;> (try split) <;> simp

@[simp] theorem State.markCovering_frame (q : Request) (s : State) :
    (s.markCovering q).now = s.now ∧
      (s.markCovering q).ssq = s.ssq ∧
      (s.markCovering q).axt = s.axt ∧
      (s.markCovering q).vsg = s.vsg ∧
      (s.markCovering q).nodes = s.nodes ∧
      (s.markCovering q).channels = s.channels ∧
      (s.markCovering q).units = s.units ∧
      (s.markCovering q).tsu = s.tsu ∧
      (s.markCovering q).atq = s.atq ∧
      (s.markCovering q).mpc = s.mpc ∧
      (s.markCovering q).pending = s.pending := by
  unfold State.markCovering; split <;> (try dsimp only) <;> (try split) <;> simp

@[simp] theorem State.followOn_frame (e : Evaluation) (before : Report) (s : State) :
    (s.followOn e before).now = s.now ∧
      (s.followOn e before).ssq = s.ssq ∧
      (s.followOn e before).axt = s.axt ∧
      (s.followOn e before).vsg = s.vsg ∧
      (s.followOn e before).nodes = s.nodes ∧
      (s.followOn e before).channels = s.channels ∧
      (s.followOn e before).units = s.units ∧
      (s.followOn e before).tsu = s.tsu ∧
      (s.followOn e before).atq = s.atq ∧
      (s.followOn e before).mpc = s.mpc ∧
      (s.followOn e before).pending = s.pending := by
  unfold State.followOn; split <;> simp

@[simp] theorem State.completeLive_frame (e : Evaluation) (r : Report) (s : State) :
    (s.completeLive e r).now = s.now ∧
      (s.completeLive e r).ssq = s.ssq ∧
      (s.completeLive e r).axt = s.axt ∧
      (s.completeLive e r).vsg = s.vsg ∧
      (s.completeLive e r).nodes = s.nodes ∧
      (s.completeLive e r).channels = s.channels ∧
      (s.completeLive e r).units = s.units ∧
      (s.completeLive e r).tsu = s.tsu ∧
      (s.completeLive e r).mpc.active = s.mpc.active ∧
      (s.completeLive e r).mpc.pendingCfg = s.mpc.pendingCfg ∧
      (s.completeLive e r).pending = s.pending := by
  unfold State.completeLive; dsimp only; split <;> simp

@[simp] theorem State.completeGone_frame (e : Evaluation) (s : State) :
    (s.completeGone e).now = s.now ∧
      (s.completeGone e).ssq = s.ssq ∧
      (s.completeGone e).axt = s.axt ∧
      (s.completeGone e).vsg = s.vsg ∧
      (s.completeGone e).nodes = s.nodes ∧
      (s.completeGone e).channels = s.channels ∧
      (s.completeGone e).units = s.units ∧
      (s.completeGone e).evu = s.evu ∧
      (s.completeGone e).tsu = s.tsu ∧
      (s.completeGone e).atq = s.atq ∧
      (s.completeGone e).mpc = s.mpc ∧
      (s.completeGone e).pending = s.pending := by
  unfold State.completeGone; split <;> simp

@[simp] theorem State.release_frame (e : Fin 2) (s : State) :
    (s.release e).now = s.now ∧
      (s.release e).ssq = s.ssq ∧
      (s.release e).axt = s.axt ∧
      (s.release e).vsg = s.vsg ∧
      (s.release e).nodes = s.nodes ∧
      (s.release e).channels = s.channels ∧
      (s.release e).units = s.units ∧
      (s.release e).tsu = s.tsu ∧
      (s.release e).rps = s.rps ∧
      (s.release e).atq = s.atq ∧
      (s.release e).mpc = s.mpc ∧
      (s.release e).pending = s.pending := by
  simp [State.release]

@[simp] theorem State.endPass_frame (k : Fin 4) (s : State) :
    (s.endPass k).now = s.now ∧
      (s.endPass k).vsg = s.vsg ∧
      (s.endPass k).units = s.units ∧
      (s.endPass k).atq = s.atq ∧
      (s.endPass k).pending = s.pending ∧
      (s.endPass k).axt.train = s.axt.train := by
  unfold State.endPass; split <;> simp

@[simp] theorem State.sweepAt_frame (k : Fin 4) (r : Report) (pos : SweepPos) (s : State) :
    (s.sweepAt k r pos).now = s.now ∧
      (s.sweepAt k r pos).vsg = s.vsg ∧
      (s.sweepAt k r pos).units = s.units ∧
      (s.sweepAt k r pos).atq = s.atq ∧
      (s.sweepAt k r pos).pending = s.pending ∧
      (s.sweepAt k r pos).axt.train = s.axt.train := by
  unfold State.sweepAt; dsimp only; split <;> simp

@[simp] theorem State.answer_frame (p : Port) (r : QueuedRequest) (a : Reply) (s : State) :
    (s.answer p r a).now = s.now ∧
      (s.answer p r a).ssq = s.ssq ∧
      (s.answer p r a).axt = s.axt ∧
      (s.answer p r a).vsg = s.vsg ∧
      (s.answer p r a).nodes = s.nodes ∧
      (s.answer p r a).channels = s.channels ∧
      (s.answer p r a).units = s.units ∧
      (s.answer p r a).evu = s.evu ∧
      (s.answer p r a).tsu = s.tsu ∧
      (s.answer p r a).rps = s.rps ∧
      (s.answer p r a).atq = s.atq ∧
      (s.answer p r a).mpc.active = s.mpc.active ∧
      (s.answer p r a).mpc.pendingCfg = s.mpc.pendingCfg ∧
      (s.answer p r a).pending = s.pending := by
  simp [State.answer]

@[simp] theorem State.loadClock_frame (v : Nat) (s : State) :
    (s.loadClock v).now = s.now ∧
      (s.loadClock v).axt = s.axt ∧
      (s.loadClock v).vsg = s.vsg ∧
      (s.loadClock v).nodes = s.nodes ∧
      (s.loadClock v).channels = s.channels ∧
      (s.loadClock v).units = s.units ∧
      (s.loadClock v).evu = s.evu ∧
      (s.loadClock v).tsu = s.tsu ∧
      (s.loadClock v).rps = s.rps ∧
      (s.loadClock v).atq = s.atq ∧
      (s.loadClock v).mpc = s.mpc ∧
      (s.loadClock v).pending = s.pending := by
  simp [State.loadClock]

@[simp] theorem State.maskNotices_frame (p : Port) (old : Nat) (s : State) :
    (s.maskNotices p old).now = s.now ∧
      (s.maskNotices p old).ssq = s.ssq ∧
      (s.maskNotices p old).axt = s.axt ∧
      (s.maskNotices p old).vsg = s.vsg ∧
      (s.maskNotices p old).nodes = s.nodes ∧
      (s.maskNotices p old).channels = s.channels ∧
      (s.maskNotices p old).units = s.units ∧
      (s.maskNotices p old).evu = s.evu ∧
      (s.maskNotices p old).tsu = s.tsu ∧
      (s.maskNotices p old).rps = s.rps ∧
      (s.maskNotices p old).atq = s.atq ∧
      (s.maskNotices p old).mpc.active = s.mpc.active ∧
      (s.maskNotices p old).mpc.pendingCfg = s.mpc.pendingCfg ∧
      (s.maskNotices p old).pending = s.pending := by
  have h : ∀ (l : AlertLevel) (s : State), s.addedLevel p old l = s ∨ s.addedLevel p old l = s.pendingNotice p l := by
    intro l s
    unfold State.addedLevel
    split <;> simp
  have step : ∀ (ls : List AlertLevel) (s : State), ∃ ports, ls.foldl (State.addedLevel p old) s =
      { s with mpc := { s.mpc with ports := ports } } := by
    intro ls
    induction ls with
    | nil => exact fun s => ⟨s.mpc.ports, rfl⟩
    | cons l ls ih =>
      intro s
      obtain ⟨q, hq⟩ := ih (s.addedLevel p old l)
      rcases h l s with e | e
      · exact ⟨q, by rw [List.foldl_cons, hq, e]⟩
      · exact ⟨q, by rw [List.foldl_cons, hq, e]; rfl⟩
  obtain ⟨q, hq⟩ := step [.critical, .alert, .watch, .notice] s
  simp [State.maskNotices, hq]

@[simp] theorem State.setActive_frame (it : Item) (v : Nat) (s : State) :
    (s.setActive it v).now = s.now ∧
      (s.setActive it v).ssq = s.ssq ∧
      (s.setActive it v).axt = s.axt ∧
      (s.setActive it v).vsg = s.vsg ∧
      (s.setActive it v).nodes = s.nodes ∧
      (s.setActive it v).channels = s.channels ∧
      (s.setActive it v).units = s.units ∧
      (s.setActive it v).evu = s.evu ∧
      (s.setActive it v).tsu = s.tsu ∧
      (s.setActive it v).rps = s.rps ∧
      (s.setActive it v).atq = s.atq ∧
      (s.setActive it v).pending = s.pending := by
  simp [State.setActive]

@[simp] theorem State.setPending_frame (it : Item) (v : Nat) (s : State) :
    (s.setPending it v).now = s.now ∧
      (s.setPending it v).ssq = s.ssq ∧
      (s.setPending it v).axt = s.axt ∧
      (s.setPending it v).vsg = s.vsg ∧
      (s.setPending it v).nodes = s.nodes ∧
      (s.setPending it v).channels = s.channels ∧
      (s.setPending it v).units = s.units ∧
      (s.setPending it v).evu = s.evu ∧
      (s.setPending it v).tsu = s.tsu ∧
      (s.setPending it v).rps = s.rps ∧
      (s.setPending it v).atq = s.atq ∧
      (s.setPending it v).pending = s.pending := by
  simp [State.setPending]

@[simp] theorem State.afterActive_frame (it : Item) (old : Nat) (s : State) :
    (s.afterActive it old).now = s.now ∧
      (s.afterActive it old).vsg = s.vsg ∧
      (s.afterActive it old).channels = s.channels ∧
      (s.afterActive it old).units = s.units ∧
      (s.afterActive it old).evu = s.evu ∧
      (s.afterActive it old).rps = s.rps ∧
      (s.afterActive it old).atq = s.atq ∧
      (s.afterActive it old).mpc.active = s.mpc.active ∧
      (s.afterActive it old).mpc.pendingCfg = s.mpc.pendingCfg ∧
      (s.afterActive it old).pending = s.pending ∧
      (s.afterActive it old).axt.train = s.axt.train := by
  unfold State.afterActive; split <;> (try split) <;> simp

@[simp] theorem State.applyConfig_frame (it : Item) (v : Nat) (o : ReplyOutcome) (s : State) :
    (s.applyConfig it v o).now = s.now ∧
      (s.applyConfig it v o).vsg = s.vsg ∧
      (s.applyConfig it v o).channels = s.channels ∧
      (s.applyConfig it v o).units = s.units ∧
      (s.applyConfig it v o).evu = s.evu ∧
      (s.applyConfig it v o).rps = s.rps ∧
      (s.applyConfig it v o).atq = s.atq ∧
      (s.applyConfig it v o).pending = s.pending ∧
      (s.applyConfig it v o).axt.train = s.axt.train := by
  unfold State.applyConfig; split <;> simp

@[simp] theorem State.serveConfigSet_frame (p : Port) (r : QueuedRequest) (s : State) :
    (s.serveConfigSet p r).now = s.now ∧
      (s.serveConfigSet p r).vsg = s.vsg ∧
      (s.serveConfigSet p r).channels = s.channels ∧
      (s.serveConfigSet p r).units = s.units ∧
      (s.serveConfigSet p r).evu = s.evu ∧
      (s.serveConfigSet p r).rps = s.rps ∧
      (s.serveConfigSet p r).atq = s.atq ∧
      (s.serveConfigSet p r).pending = s.pending ∧
      (s.serveConfigSet p r).axt.train = s.axt.train := by
  unfold State.serveConfigSet; split <;> (try dsimp only) <;> (try split) <;> simp

@[simp] theorem State.applyCal_frame (k : Fin 16) (c : CalRecord) (o : ReplyOutcome) (s : State) :
    (s.applyCal k c o).now = s.now ∧
      (s.applyCal k c o).ssq = s.ssq ∧
      (s.applyCal k c o).axt = s.axt ∧
      (s.applyCal k c o).vsg = s.vsg ∧
      (s.applyCal k c o).nodes = s.nodes ∧
      (s.applyCal k c o).units = s.units ∧
      (s.applyCal k c o).evu = s.evu ∧
      (s.applyCal k c o).tsu = s.tsu ∧
      (s.applyCal k c o).rps = s.rps ∧
      (s.applyCal k c o).atq = s.atq ∧
      (s.applyCal k c o).mpc = s.mpc ∧
      (s.applyCal k c o).pending = s.pending := by
  unfold State.applyCal; split <;> simp

@[simp] theorem State.serveCalSet_frame (p : Port) (r : QueuedRequest) (s : State) :
    (s.serveCalSet p r).now = s.now ∧
      (s.serveCalSet p r).ssq = s.ssq ∧
      (s.serveCalSet p r).axt = s.axt ∧
      (s.serveCalSet p r).vsg = s.vsg ∧
      (s.serveCalSet p r).nodes = s.nodes ∧
      (s.serveCalSet p r).units = s.units ∧
      (s.serveCalSet p r).evu = s.evu ∧
      (s.serveCalSet p r).tsu = s.tsu ∧
      (s.serveCalSet p r).rps = s.rps ∧
      (s.serveCalSet p r).atq = s.atq ∧
      (s.serveCalSet p r).mpc.active = s.mpc.active ∧
      (s.serveCalSet p r).mpc.pendingCfg = s.mpc.pendingCfg ∧
      (s.serveCalSet p r).pending = s.pending := by
  unfold State.serveCalSet; split <;> simp

@[simp] theorem State.startStream_frame (p : Port) (k : Fin 4) (r : QueuedRequest) (s : State) :
    (s.startStream p k r).now = s.now ∧
      (s.startStream p k r).ssq = s.ssq ∧
      (s.startStream p k r).axt = s.axt ∧
      (s.startStream p k r).vsg = s.vsg ∧
      (s.startStream p k r).nodes = s.nodes ∧
      (s.startStream p k r).channels = s.channels ∧
      (s.startStream p k r).units = s.units ∧
      (s.startStream p k r).evu = s.evu ∧
      (s.startStream p k r).tsu = s.tsu ∧
      (s.startStream p k r).rps = s.rps ∧
      (s.startStream p k r).atq = s.atq ∧
      (s.startStream p k r).mpc.active = s.mpc.active ∧
      (s.startStream p k r).mpc.pendingCfg = s.mpc.pendingCfg ∧
      (s.startStream p k r).pending = s.pending := by
  unfold State.startStream; split <;> (try split) <;> simp

@[simp] theorem State.interruptStream_frame (p : Port) (s : State) :
    (s.interruptStream p).now = s.now ∧
      (s.interruptStream p).ssq = s.ssq ∧
      (s.interruptStream p).axt = s.axt ∧
      (s.interruptStream p).vsg = s.vsg ∧
      (s.interruptStream p).nodes = s.nodes ∧
      (s.interruptStream p).channels = s.channels ∧
      (s.interruptStream p).units = s.units ∧
      (s.interruptStream p).evu = s.evu ∧
      (s.interruptStream p).tsu = s.tsu ∧
      (s.interruptStream p).rps = s.rps ∧
      (s.interruptStream p).atq = s.atq ∧
      (s.interruptStream p).mpc.active = s.mpc.active ∧
      (s.interruptStream p).mpc.pendingCfg = s.mpc.pendingCfg ∧
      (s.interruptStream p).pending = s.pending := by
  simp [State.interruptStream]

@[simp] theorem State.serveStream_frame (p : Port) (r : QueuedRequest) (s : State) :
    (s.serveStream p r).now = s.now ∧
      (s.serveStream p r).ssq = s.ssq ∧
      (s.serveStream p r).axt = s.axt ∧
      (s.serveStream p r).vsg = s.vsg ∧
      (s.serveStream p r).nodes = s.nodes ∧
      (s.serveStream p r).channels = s.channels ∧
      (s.serveStream p r).units = s.units ∧
      (s.serveStream p r).evu = s.evu ∧
      (s.serveStream p r).tsu = s.tsu ∧
      (s.serveStream p r).rps = s.rps ∧
      (s.serveStream p r).atq = s.atq ∧
      (s.serveStream p r).mpc.active = s.mpc.active ∧
      (s.serveStream p r).mpc.pendingCfg = s.mpc.pendingCfg ∧
      (s.serveStream p r).pending = s.pending := by
  unfold State.serveStream; split <;> (try split) <;> simp

@[simp] theorem State.serveRelease_frame (p : Port) (r : QueuedRequest) (s : State) :
    (s.serveRelease p r).now = s.now ∧
      (s.serveRelease p r).ssq = s.ssq ∧
      (s.serveRelease p r).axt = s.axt ∧
      (s.serveRelease p r).vsg = s.vsg ∧
      (s.serveRelease p r).nodes = s.nodes ∧
      (s.serveRelease p r).channels = s.channels ∧
      (s.serveRelease p r).units = s.units ∧
      (s.serveRelease p r).evu = s.evu ∧
      (s.serveRelease p r).tsu = s.tsu ∧
      (s.serveRelease p r).atq = s.atq ∧
      (s.serveRelease p r).mpc.active = s.mpc.active ∧
      (s.serveRelease p r).mpc.pendingCfg = s.mpc.pendingCfg ∧
      (s.serveRelease p r).pending = s.pending := by
  unfold State.serveRelease; split <;> (try split) <;> (try split) <;> (try split) <;> simp

@[simp] theorem State.serveTake_frame (p : Port) (r : QueuedRequest) (s : State) :
    (s.serveTake p r).now = s.now ∧
      (s.serveTake p r).ssq = s.ssq ∧
      (s.serveTake p r).axt = s.axt ∧
      (s.serveTake p r).vsg = s.vsg ∧
      (s.serveTake p r).nodes = s.nodes ∧
      (s.serveTake p r).channels = s.channels ∧
      (s.serveTake p r).units = s.units ∧
      (s.serveTake p r).evu = s.evu ∧
      (s.serveTake p r).tsu = s.tsu ∧
      (s.serveTake p r).rps = s.rps ∧
      (s.serveTake p r).mpc.active = s.mpc.active ∧
      (s.serveTake p r).mpc.pendingCfg = s.mpc.pendingCfg ∧
      (s.serveTake p r).pending = s.pending := by
  unfold State.serveTake; split <;> (try split) <;> (try split) <;> simp

@[simp] theorem State.serveRead_frame (p : Port) (kind : Nat) (reply : State → List Byte → Reply) (s : State) :
    (s.serveRead p kind reply).now = s.now ∧
      (s.serveRead p kind reply).ssq = s.ssq ∧
      (s.serveRead p kind reply).axt = s.axt ∧
      (s.serveRead p kind reply).vsg = s.vsg ∧
      (s.serveRead p kind reply).nodes = s.nodes ∧
      (s.serveRead p kind reply).channels = s.channels ∧
      (s.serveRead p kind reply).units = s.units ∧
      (s.serveRead p kind reply).evu = s.evu ∧
      (s.serveRead p kind reply).tsu = s.tsu ∧
      (s.serveRead p kind reply).rps = s.rps ∧
      (s.serveRead p kind reply).atq = s.atq ∧
      (s.serveRead p kind reply).mpc.active = s.mpc.active ∧
      (s.serveRead p kind reply).mpc.pendingCfg = s.mpc.pendingCfg ∧
      (s.serveRead p kind reply).pending = s.pending := by
  unfold State.serveRead State.serve; split <;> (try split) <;> simp

@[simp] theorem State.clearMeasuring_frame (s : State) :
    (s.clearMeasuring).now = s.now ∧
      (s.clearMeasuring).ssq = s.ssq ∧
      (s.clearMeasuring).nodes = s.nodes ∧
      (s.clearMeasuring).rps = s.rps ∧
      (s.clearMeasuring).atq = s.atq ∧
      (s.clearMeasuring).mpc = s.mpc ∧
      (s.clearMeasuring).pending = s.pending := by
  simp [State.clearMeasuring]

@[simp] theorem State.quietSite_frame (s : State) :
    (s.quietSite).now = s.now ∧
      (s.quietSite).axt = s.axt ∧
      (s.quietSite).vsg = s.vsg ∧
      (s.quietSite).nodes = s.nodes ∧
      (s.quietSite).channels = s.channels ∧
      (s.quietSite).units = s.units ∧
      (s.quietSite).evu = s.evu ∧
      (s.quietSite).rps = s.rps ∧
      (s.quietSite).atq = s.atq ∧
      (s.quietSite).mpc = s.mpc ∧
      (s.quietSite).pending = s.pending := by
  simp [State.quietSite]

@[simp] theorem State.restartSite_frame (s : State) :
    (s.restartSite).now = s.now ∧
      (s.restartSite).atq = s.atq ∧
      (s.restartSite).pending = s.pending ∧
      s.restartSite.axt.train = none := by
  simp [State.restartSite, State.clearMeasuring, Axt.reset]

end Sys2Proof.Machine
end

