-- ==== Sys2Proof/Laws/Ports.lean ====
section
/-! SUPPORT. What the operations of the message ports can do, said once each: frames joining the output queue,
notices, replies, and the receiver. -/

namespace Sys2Proof.Machine

/-! ## Output queue -/

@[simp] theorem PortMachine.outbox_sends (fs : List OutFrame) (pm : PortMachine) :
    (pm.sends fs).outbox = pm.outbox ++ fs := by
  unfold PortMachine.sends PortMachine.outbox
  generalize pm.leaving.toList ++ pm.waiting ++ fs = xs
  cases xs <;> rfl

theorem PortMachine.orderly_sends (fs : List OutFrame) (pm : PortMachine) : (pm.sends fs).Orderly := by
  unfold PortMachine.sends PortMachine.Orderly
  generalize pm.outbox ++ fs = xs
  cases xs <;> simp

theorem PortMachine.sends_sends (a b : List OutFrame) (pm : PortMachine) :
    (pm.sends a).sends b = pm.sends (a ++ b) := by
  have h := PortMachine.outbox_sends a pm
  simp only [PortMachine.sends] at h ⊢
  simp only [h, List.append_assoc]

theorem PortMachine.sends_nil {pm : PortMachine} (h : pm.Orderly) : pm.sends [] = pm := by
  rcases pm with ⟨_, _, l, w⟩
  unfold PortMachine.Orderly at h
  cases l with
  | none => cases h rfl; rfl
  | some f => simp [PortMachine.sends, PortMachine.outbox]

theorem PortMachine.push_eq_sends {pm : PortMachine} (h : pm.Orderly) (f : OutFrame) : pm.push f = pm.sends [f] := by
  rcases pm with ⟨_, _, l, w⟩
  unfold PortMachine.Orderly at h
  cases l with
  | none => cases h rfl; rfl
  | some g => rfl

theorem PortMachine.foldl_push {pm : PortMachine} (h : pm.Orderly) (fs : List OutFrame) :
    fs.foldl (fun m f => m.push f) pm = pm.sends fs := by
  induction fs generalizing pm with
  | nil => exact (PortMachine.sends_nil h).symm
  | cons f fs ih =>
    rw [List.foldl_cons, PortMachine.push_eq_sends h, ih (PortMachine.orderly_sends _ _), PortMachine.sends_sends]
    rfl

/-- A reply answers the oldest unserved request with its frames (R172). -/
theorem PortMachine.reply_eq_answered {pm : PortMachine} (h : pm.Orderly) (fs : List OutFrame) :
    pm.reply fs = pm.answered fs := by
  unfold PortMachine.reply
  rw [PortMachine.foldl_push (by exact h)]
  rfl

/-- A notice that finds room waits behind what the port sends (R173). -/
theorem PortMachine.notice_eq_sends {pm : PortMachine} {n : Nat} (h : pm.Room (n + 1)) (kind : Byte)
    (payload : List Byte) : pm.notice kind payload = pm.sends [noticeFrame kind payload] := by
  have h1 := h.room
  unfold PortMachine.notice
  rw [h.unbroken, if_neg (by simp only [Bool.false_or, decide_eq_true_eq]; omega), PortMachine.push_eq_sends h.orderly]
  rfl

theorem PortMachine.waitingNotices_sends_le (fs : List OutFrame) (pm : PortMachine) (h : pm.Orderly) :
    (pm.sends fs).waitingNotices ≤ pm.waitingNotices + fs.length := by
  rcases pm with ⟨_, _, l, w⟩
  unfold PortMachine.Orderly at h
  cases l with
  | none =>
    cases h rfl
    simp only [PortMachine.waitingNotices, PortMachine.sends, PortMachine.outbox]
    refine le_trans List.countP_le_length ?_
    simp
  | some f =>
    simp only [PortMachine.waitingNotices, PortMachine.sends, PortMachine.outbox, Option.toList_some, List.cons_append,
      List.nil_append, List.tail_cons, List.countP_append]
    have := List.countP_le_length (p := fun f : OutFrame => f.cls == .notice) (l := fs)
    omega

/-- A notice sent leaves room for one less. -/
theorem PortMachine.Room.sends {pm : PortMachine} {n : Nat} (h : pm.Room (n + 1)) (f : OutFrame) :
    (pm.sends [f]).Room n where
  unbroken := h.unbroken
  orderly := PortMachine.orderly_sends _ _
  room := by
    have h1 := h.room
    have := PortMachine.waitingNotices_sends_le [f] pm h.orderly
    simp only [List.length_singleton] at this
    omega

/-- A notice to both ports that finds room at both (R173). -/
theorem State.noticeBoth_eq {s : State} {n : Nat} (h : s.Room (n + 1)) (kind : Byte) (payload : List Byte) :
    s.noticeBoth kind payload = { s with mpc := { s.mpc with ports :=
      { s := (s.mpc.ports.s).sends [noticeFrame kind payload], m := (s.mpc.ports.m).sends [noticeFrame kind payload] } } } := by
  simp only [State.noticeBoth, State.noticeTo, State.modPort, PerPort.upd]
  rw [PortMachine.notice_eq_sends h.1, PortMachine.notice_eq_sends h.2]

/-! ## Service -/

/-- The reply to a request whose port holds it as the oldest unserved one. -/
theorem State.answer_eq {s : State} {p : Port} (h : (s.mpc.ports.get p).Orderly) (r : QueuedRequest) (a : Reply) :
    s.answer p r a = s.withPort p ((s.mpc.ports.get p).answered (replyFrames (r.kind + 0x80) r.tag a.outcome a.bodies)) := by
  cases p <;> simp only [State.answer, State.withPort, State.modPort, PerPort.upd, PerPort.get] at h ⊢ <;>
    rw [PortMachine.reply_eq_answered h]

/-- The reply of one frame. -/
theorem State.answer_one {s : State} {p : Port} (h : (s.mpc.ports.get p).Orderly) (r : QueuedRequest)
    (o : ReplyOutcome) (body : List Byte) :
    s.answer p r (.one o body)
      = s.withPort p ((s.mpc.ports.get p).answered [replyFrame r (BitVec.ofNat 8 o.code) body]) := by
  rw [State.answer_eq h]
  rfl

/-- A row serves the oldest unserved request of its port if it is of the row's kind. -/
theorem State.serve_eq {s : State} {p : Port} {r : QueuedRequest} (h : (s.mpc.ports.get p).head = some r)
    (serves : QueuedRequest → Bool) (effect : QueuedRequest → State → State) :
    s.serve p serves effect = if serves r then effect r s else s := by
  simp only [State.serve, h]

theorem State.Asks.hasKind {s : State} {p : Port} {r : QueuedRequest} {kind : Byte} {payload : List Byte}
    (h : s.Asks p r kind payload) (n : Nat) (hn : kind.toNat = n) : r.hasKind n = true := by
  simp [QueuedRequest.hasKind, h.kind, hn]

/-- A read request that its row serves (11.3). -/
theorem State.serveRead_eq {s : State} {p : Port} {r : QueuedRequest} {kind : Byte} {payload : List Byte}
    (h : s.Asks p r kind payload) {n : Nat} (hn : kind.toNat = n) (reply : State → List Byte → Reply) :
    s.serveRead p n reply = s.answer p r (reply s payload) := by
  rw [State.serveRead, State.serve_eq h.head, if_pos (h.hasKind n hn), h.payload]

end Sys2Proof.Machine
end

