-- ==== Sys2Proof/Laws/SiteFrames.lean ====
section
/-! SUPPORT. What the operations that change the Site Sequencer or the Axle Tracker leave alone inside them: the
site clock, the dormancy setting and the approach pin; whether a train is open. -/

namespace Sys2Proof.Machine

@[simp] theorem State.leaveSite_ssq (s : State) :
    s.leaveSite.ssq.clock = s.ssq.clock ∧
      s.leaveSite.ssq.clockDue = s.ssq.clockDue ∧
      s.leaveSite.ssq.dormancy = s.ssq.dormancy ∧
      s.leaveSite.ssq.approachInput = s.ssq.approachInput := by
  unfold State.leaveSite; dsimp only; split <;> simp

@[simp] theorem State.followStreams_ssq (s : State) :
    s.followStreams.ssq.clock = s.ssq.clock ∧
      s.followStreams.ssq.clockDue = s.ssq.clockDue ∧
      s.followStreams.ssq.dormancy = s.ssq.dormancy ∧
      s.followStreams.ssq.approachInput = s.ssq.approachInput := by
  unfold State.followStreams; split <;> (try split) <;> simp [State.streamOn, State.streamOff]

@[simp] theorem State.entryActions_ssq (s : State) :
    s.entryActions.ssq.clock = s.ssq.clock ∧
      s.entryActions.ssq.clockDue = s.ssq.clockDue ∧
      s.entryActions.ssq.dormancy = s.ssq.dormancy ∧
      s.entryActions.ssq.approachInput = s.ssq.approachInput := by
  unfold State.entryActions; split <;> (try split) <;> simp

@[simp] theorem State.changeSite_ssq (new : SiteState) (cause : Cause) (s : State) :
    (s.changeSite new cause).ssq.clock = s.ssq.clock ∧
      (s.changeSite new cause).ssq.clockDue = s.ssq.clockDue ∧
      (s.changeSite new cause).ssq.dormancy = s.ssq.dormancy ∧
      (s.changeSite new cause).ssq.approachInput = s.ssq.approachInput := by
  simp [State.changeSite]

@[simp] theorem State.arm_ssq (s : State) :
    s.arm.ssq.clock = s.ssq.clock ∧
      s.arm.ssq.clockDue = s.ssq.clockDue ∧
      s.arm.ssq.dormancy = s.ssq.dormancy ∧
      s.arm.ssq.approachInput = s.ssq.approachInput := by
  simp [State.arm]

@[simp] theorem State.levelCarry_ssq (s : State) :
    s.levelCarry.ssq.clock = s.ssq.clock ∧
      s.levelCarry.ssq.clockDue = s.ssq.clockDue ∧
      s.levelCarry.ssq.dormancy = s.ssq.dormancy ∧
      s.levelCarry.ssq.approachInput = s.ssq.approachInput := by
  unfold State.levelCarry; split <;> (try split) <;> simp

@[simp] theorem State.enter_ssq (new : SiteState) (cause : Cause) (s : State) :
    (s.enter new cause).ssq.clock = s.ssq.clock ∧
      (s.enter new cause).ssq.clockDue = s.ssq.clockDue ∧
      (s.enter new cause).ssq.dormancy = s.ssq.dormancy ∧
      (s.enter new cause).ssq.approachInput = s.ssq.approachInput := by
  simp [State.enter]

@[simp] theorem State.siteClosure_ssq (s : State) :
    s.siteClosure.ssq.clock = s.ssq.clock ∧
      s.siteClosure.ssq.clockDue = s.ssq.clockDue ∧
      s.siteClosure.ssq.dormancy = s.ssq.dormancy ∧
      s.siteClosure.ssq.approachInput = s.ssq.approachInput := by
  unfold State.siteClosure; split <;> (try dsimp only) <;> (try split) <;> (try split) <;> (try split) <;> simp

@[simp] theorem State.reportEdge_ssq (s : State) :
    s.reportEdge.ssq.clock = s.ssq.clock ∧
      s.reportEdge.ssq.clockDue = s.ssq.clockDue ∧
      s.reportEdge.ssq.dormancy = s.ssq.dormancy ∧
      s.reportEdge.ssq.approachInput = s.ssq.approachInput := by
  unfold State.reportEdge; split <;> (try split) <;> simp

@[simp] theorem State.falseApproach_ssq (cause : Cause) (s : State) :
    (s.falseApproach cause).ssq.clock = s.ssq.clock ∧
      (s.falseApproach cause).ssq.clockDue = s.ssq.clockDue ∧
      (s.falseApproach cause).ssq.dormancy = s.ssq.dormancy ∧
      (s.falseApproach cause).ssq.approachInput = s.ssq.approachInput := by
  simp [State.falseApproach]

@[simp] theorem State.enableSite_ssq (s : State) :
    s.enableSite.ssq.clock = s.ssq.clock ∧
      s.enableSite.ssq.clockDue = s.ssq.clockDue ∧
      s.enableSite.ssq.dormancy = s.ssq.dormancy ∧
      s.enableSite.ssq.approachInput = s.ssq.approachInput := by
  unfold State.enableSite; split <;> simp

@[simp] theorem State.disableSite_ssq (s : State) :
    s.disableSite.ssq.clock = s.ssq.clock ∧
      s.disableSite.ssq.clockDue = s.ssq.clockDue ∧
      s.disableSite.ssq.dormancy = s.ssq.dormancy ∧
      s.disableSite.ssq.approachInput = s.ssq.approachInput := by
  unfold State.disableSite; split <;> simp

@[simp] theorem State.dormancyOnSite_ssq (s : State) :
    s.dormancyOnSite.ssq.clock = s.ssq.clock ∧
      s.dormancyOnSite.ssq.clockDue = s.ssq.clockDue ∧
      s.dormancyOnSite.ssq.approachInput = s.ssq.approachInput := by
  unfold State.dormancyOnSite; dsimp only; split <;> simp

@[simp] theorem State.dormancyOffSite_ssq (s : State) :
    s.dormancyOffSite.ssq.clock = s.ssq.clock ∧
      s.dormancyOffSite.ssq.clockDue = s.ssq.clockDue ∧
      s.dormancyOffSite.ssq.approachInput = s.ssq.approachInput := by
  unfold State.dormancyOffSite; dsimp only; split <;> simp

@[simp] theorem State.completeSlot_ssq (k : Fin 4) (s : State) :
    (s.completeSlot k).ssq.clock = s.ssq.clock ∧
      (s.completeSlot k).ssq.clockDue = s.ssq.clockDue ∧
      (s.completeSlot k).ssq.dormancy = s.ssq.dormancy ∧
      (s.completeSlot k).ssq.approachInput = s.ssq.approachInput := by
  simp [State.completeSlot]

@[simp] theorem State.setSpeed_open (v : Nat) (s : State) :
    (s.setSpeed v).axt.train.isSome = s.axt.train.isSome := by
  simp [State.setSpeed]

@[simp] theorem State.setMotion_open (t : OpenTrain) (pr : Pair) (travel : Direction) (v : Nat) (s : State) :
    (s.setMotion t pr travel v).axt.train.isSome = s.axt.train.isSome := by
  unfold State.setMotion; dsimp only; split <;> split <;> simp

@[simp] theorem State.forwardEntry_open (t : OpenTrain) (v : Nat) (s : State) :
    (s.forwardEntry t v).axt.train.isSome = s.axt.train.isSome := by
  unfold State.forwardEntry; dsimp only; split <;> (try split) <;> simp

@[simp] theorem State.reverseEntry_open (t : OpenTrain) (s : State) :
    (s.reverseEntry t).axt.train.isSome = s.axt.train.isSome := by
  unfold State.reverseEntry; split <;> simp

@[simp] theorem State.forwardExit_open (t : OpenTrain) (s : State) :
    (s.forwardExit t).axt.train.isSome = s.axt.train.isSome := by
  unfold State.forwardExit; split <;> simp

@[simp] theorem State.reverseExit_open (s : State) :
    s.reverseExit.axt.train.isSome = s.axt.train.isSome := by
  simp [State.reverseExit]

@[simp] theorem State.countCrossing_open (t : OpenTrain) (pr : Pair) (inward : Bool) (v : Nat) (s : State) :
    (s.countCrossing t pr inward v).axt.train.isSome = s.axt.train.isSome := by
  unfold State.countCrossing; split <;> split <;> simp

@[simp] theorem State.openCrossing_open (pr : Pair) (inward : Bool) (v : Nat) (s : State) :
    (s.openCrossing pr inward v).axt.train.isSome = s.axt.train.isSome := by
  unfold State.openCrossing; split <;> simp

@[simp] theorem State.startTrainIn_ssq (k : Fin 4) (pr : Pair) (s : State) :
    (s.startTrainIn k pr).ssq.clock = s.ssq.clock ∧
      (s.startTrainIn k pr).ssq.clockDue = s.ssq.clockDue ∧
      (s.startTrainIn k pr).ssq.dormancy = s.ssq.dormancy ∧
      (s.startTrainIn k pr).ssq.approachInput = s.ssq.approachInput := by
  unfold State.startTrainIn; dsimp only; split <;> simp

@[simp] theorem State.trainStart_ssq (pr : Pair) (v : Nat) (s : State) :
    (s.trainStart pr v).ssq.clock = s.ssq.clock ∧
      (s.trainStart pr v).ssq.clockDue = s.ssq.clockDue ∧
      (s.trainStart pr v).ssq.dormancy = s.ssq.dormancy ∧
      (s.trainStart pr v).ssq.approachInput = s.ssq.approachInput := by
  unfold State.trainStart; split <;> simp

@[simp] theorem State.closeTrain_ssq (t : OpenTrain) (kind : ClosureKind) (s : State) :
    (s.closeTrain t kind).ssq.clock = s.ssq.clock ∧
      (s.closeTrain t kind).ssq.clockDue = s.ssq.clockDue ∧
      (s.closeTrain t kind).ssq.dormancy = s.ssq.dormancy ∧
      (s.closeTrain t kind).ssq.approachInput = s.ssq.approachInput := by
  simp [State.closeTrain, Axt.closed]

@[simp] theorem State.restartClear_open (s : State) :
    s.restartClear.axt.train.isSome = s.axt.train.isSome := by
  simp [State.restartClear]

@[simp] theorem State.restartHalt_open (s : State) :
    s.restartHalt.axt.train.isSome = s.axt.train.isSome := by
  simp [State.restartHalt]

@[simp] theorem State.idleCrossing_ssq (pr : Pair) (c : Option (Bool × Nat)) (s : State) :
    (s.idleCrossing pr c).ssq.clock = s.ssq.clock ∧
      (s.idleCrossing pr c).ssq.clockDue = s.ssq.clockDue ∧
      (s.idleCrossing pr c).ssq.dormancy = s.ssq.dormancy ∧
      (s.idleCrossing pr c).ssq.approachInput = s.ssq.approachInput := by
  unfold State.idleCrossing; split <;> simp

@[simp] theorem State.passageCrossing_open (pr : Pair) (c : Option (Bool × Nat)) (s : State) :
    (s.passageCrossing pr c).axt.train.isSome = s.axt.train.isSome := by
  unfold State.passageCrossing; split <;> simp

@[simp] theorem State.pairEdge_ssq (pr : Pair) (outer : Bool) (s : State) :
    (s.pairEdge pr outer).ssq.clock = s.ssq.clock ∧
      (s.pairEdge pr outer).ssq.clockDue = s.ssq.clockDue ∧
      (s.pairEdge pr outer).ssq.dormancy = s.ssq.dormancy ∧
      (s.pairEdge pr outer).ssq.approachInput = s.ssq.approachInput := by
  unfold State.pairEdge; dsimp only; split <;> split <;> simp

@[simp] theorem State.declareHalt_open (t : OpenTrain) (s : State) :
    (s.declareHalt t).axt.train.isSome = s.axt.train.isSome := by
  unfold State.declareHalt; dsimp only; split <;> simp

@[simp] theorem State.clearTest_ssq (t : OpenTrain) (s : State) :
    (s.clearTest t).ssq.clock = s.ssq.clock ∧
      (s.clearTest t).ssq.clockDue = s.ssq.clockDue ∧
      (s.clearTest t).ssq.dormancy = s.ssq.dormancy ∧
      (s.clearTest t).ssq.approachInput = s.ssq.approachInput := by
  unfold State.clearTest; split <;> (try split) <;> simp

@[simp] theorem State.completionTest_ssq (k : Fin 4) (s : State) :
    (s.completionTest k).ssq.clock = s.ssq.clock ∧
      (s.completionTest k).ssq.clockDue = s.ssq.clockDue ∧
      (s.completionTest k).ssq.dormancy = s.ssq.dormancy ∧
      (s.completionTest k).ssq.approachInput = s.ssq.approachInput := by
  unfold State.completionTest; split <;> simp

@[simp] theorem State.endPass_ssq (k : Fin 4) (s : State) :
    (s.endPass k).ssq.clock = s.ssq.clock ∧
      (s.endPass k).ssq.clockDue = s.ssq.clockDue ∧
      (s.endPass k).ssq.dormancy = s.ssq.dormancy ∧
      (s.endPass k).ssq.approachInput = s.ssq.approachInput := by
  unfold State.endPass; split <;> simp

@[simp] theorem State.sweepAt_ssq (k : Fin 4) (r : Report) (pos : SweepPos) (s : State) :
    (s.sweepAt k r pos).ssq.clock = s.ssq.clock ∧
      (s.sweepAt k r pos).ssq.clockDue = s.ssq.clockDue ∧
      (s.sweepAt k r pos).ssq.dormancy = s.ssq.dormancy ∧
      (s.sweepAt k r pos).ssq.approachInput = s.ssq.approachInput := by
  unfold State.sweepAt; dsimp only; split <;> simp

@[simp] theorem State.loadClock_ssq (v : Nat) (s : State) :
    (s.loadClock v).ssq.dormancy = s.ssq.dormancy ∧
      (s.loadClock v).ssq.approachInput = s.ssq.approachInput := by
  simp [State.loadClock]

@[simp] theorem State.afterActive_ssq (it : Item) (old : Nat) (s : State) :
    (s.afterActive it old).ssq.clock = s.ssq.clock ∧
      (s.afterActive it old).ssq.clockDue = s.ssq.clockDue ∧
      (s.afterActive it old).ssq.dormancy = s.ssq.dormancy ∧
      (s.afterActive it old).ssq.approachInput = s.ssq.approachInput := by
  unfold State.afterActive; split <;> (try split) <;> simp

@[simp] theorem State.applyConfig_ssq (it : Item) (v : Nat) (o : ReplyOutcome) (s : State) :
    (s.applyConfig it v o).ssq.clock = s.ssq.clock ∧
      (s.applyConfig it v o).ssq.clockDue = s.ssq.clockDue ∧
      (s.applyConfig it v o).ssq.dormancy = s.ssq.dormancy ∧
      (s.applyConfig it v o).ssq.approachInput = s.ssq.approachInput := by
  unfold State.applyConfig; split <;> simp

@[simp] theorem State.serveConfigSet_ssq (p : Port) (r : QueuedRequest) (s : State) :
    (s.serveConfigSet p r).ssq.clock = s.ssq.clock ∧
      (s.serveConfigSet p r).ssq.clockDue = s.ssq.clockDue ∧
      (s.serveConfigSet p r).ssq.dormancy = s.ssq.dormancy ∧
      (s.serveConfigSet p r).ssq.approachInput = s.ssq.approachInput := by
  unfold State.serveConfigSet; split <;> (try dsimp only) <;> (try split) <;> simp

@[simp] theorem State.quietSite_ssq (s : State) :
    s.quietSite.ssq.clock = s.ssq.clock ∧
      s.quietSite.ssq.clockDue = s.ssq.clockDue ∧
      s.quietSite.ssq.dormancy = s.ssq.dormancy ∧
      s.quietSite.ssq.approachInput = s.ssq.approachInput := by
  simp [State.quietSite]

@[simp] theorem State.restartSite_ssq (s : State) :
    s.restartSite.ssq.clock = s.ssq.clock ∧
      s.restartSite.ssq.clockDue = s.ssq.clockDue ∧
      s.restartSite.ssq.dormancy = s.ssq.dormancy ∧
      s.restartSite.ssq.approachInput = s.ssq.approachInput := by
  simp [State.restartSite, State.clearMeasuring, Axt.reset]

end Sys2Proof.Machine
end

