-- ==== Sys2Proof/Laws/Site.lean ====
section
/-! SUPPORT. What the moves of the Site Sequencer can do, said once each: the link streams, the calibration call, the
settle point, and a change of the site state with its notice. -/

namespace Sys2Proof.Machine

/-! ## Vectors -/

theorem vmap_eq_map {α β : Type} {n : Nat} (f : α → β) (v : Vector α n) : vmap f v = v.map f := by
  apply Vector.ext
  intro i hi
  simp [vmap]

theorem vzip_eq_ofFn {α β γ : Type} {n : Nat} (f : α → β → γ) (v : Vector α n) (w : Vector β n) :
    vzip f v w = Vector.ofFn fun i => f v[i] w[i] := by
  apply Vector.ext
  intro i hi
  simp [vzip]

/-! ## Streams, calibration, settle point -/

/-- Stream-on with every node OFF resumes all six streams (R61, R66, R130). -/
theorem State.streamOn_eq_resumed {s : State} (hg : ∀ g : Fin 4, s.nodes[g].status = .off)
    (hx : ∀ x, (s.tsu.scanners.get x).status = .off) : s.streamOn = s.resumed := by
  unfold State.streamOn State.resumed
  have ha := hx .a
  have hb := hx .b
  simp only [PerSide.get] at ha hb
  simp only [Scanner.streamOn, ha, hb, if_true, vmap_eq_map, ms]
  congr 1
  · apply Vector.ext
    intro i hi
    have := hg ⟨i, hi⟩
    simp only [Fin.getElem_fin] at this
    simp [GaugeNode.streamOn, this, ms, Nat.mul_comm]
  · simp [Nat.mul_comm]

/-- Stream-off while the streams run stops all six (R61, R130). -/
theorem State.streamOff_eq_stopped {s : State} (h : s.ssq.streaming = true) : s.streamOff = s.stopped := by
  simp only [State.streamOff, State.stopped, h, if_true, vmap_eq_map]
  rfl

theorem State.withdrawCalibration_eq_uncalled (s : State) : s.withdrawCalibration = s.uncalled := rfl

/-- A withdrawal with no calibration in flight changes nothing (R137). -/
theorem State.withdrawCalibration_of_idle {s : State} (h : ∀ x, (s.tsu.scanners.get x).progress = .idle) :
    s.withdrawCalibration = s := by
  have ha := h .a
  have hb := h .b
  simp only [PerSide.get] at ha hb
  simp only [State.withdrawCalibration, State.modTsu, Scanner.stopCalibration, ha, hb, if_true]

theorem State.callCalibration_eq_called (s : State) : s.callCalibration = s.called := by
  unfold State.callCalibration State.called
  by_cases h : s.scannerFresh .a = true ∧ s.scannerFresh .b = true
  · rw [if_pos (by simp [h]), if_pos h]; rfl
  · rw [if_neg (by simpa using h), if_neg h]; rfl

theorem State.applyPending_eq_settled (s : State) : s.applyPending = s.settled := by
  unfold State.applyPending State.settled
  rw [vmap_eq_map, vzip_eq_ofFn]

/-! ## A change of the site state -/

/-- The state a change of the site state leads to, before its notice (R3, R12, R15). -/
def State.movedTo (new : SiteState) (s : State) : State :=
  ((s.leaveSite.modSsq fun q => { q with site := new }).followStreams).entryActions

@[simp] theorem State.movedTo_mpc (new : SiteState) (s : State) : (s.movedTo new).mpc = s.mpc := by
  simp [State.movedTo, State.followStreams_frame, State.entryActions_frame]

/-- A change of the site state for which both ports have room: the move, and its notice (R3, R4). -/
theorem State.changeSite_eq_telling {s : State} {n : Nat} (h : s.Room (n + 1)) (new : SiteState) (cause : Cause) :
    s.changeSite new cause = (s.movedTo new).telling
      [siteNotice new s.ssq.site cause (s.movedTo new).ssq.disablePending (s.movedTo new).ssq.clock] := by
  have hm : (s.movedTo new).Room (n + 1) := by simpa [State.Room] using h
  rw [State.changeSite]
  exact State.noticeBoth_eq hm _ _

/-- Where streams and nodes follow the site state, a move stops the four timers, withdraws the call on leaving ARMED,
resumes or stops the streams as the table of R1 has them, and takes the entry actions of the new state. -/
theorem State.movedTo_eq {s : State} (hn : s.NodesOk) (new : SiteState) : s.movedTo new =
    (let v := (if s.ssq.site = .armed then s.uncalled else s).inSite new
     if new.streams = true ∧ s.ssq.site.streams = false then v.resumed
     else if new.streams = false ∧ s.ssq.site.streams = true then v.stopped else v).entryActions := by
  have e : (s.leaveSite.modSsq fun q => { q with site := new }) =
      (if s.ssq.site = .armed then s.uncalled else s).inSite new := rfl
  have hst := hn.streaming
  have h2 : ((if s.ssq.site = .armed then s.uncalled else s).inSite new).ssq.streaming = s.ssq.site.streams := by
    show (if s.ssq.site = .armed then s.uncalled else s).ssq.streaming = _
    split <;> exact hst
  have hs : s.ssq.site.streams = false → ((if s.ssq.site = .armed then s.uncalled else s).inSite new).streamOn =
      ((if s.ssq.site = .armed then s.uncalled else s).inSite new).resumed := by
    intro h
    have hna : s.ssq.site ≠ .armed := by intro h'; rw [h'] at h; cases h
    rw [if_neg hna]
    refine State.streamOn_eq_resumed ?_ ?_
    · exact fun g => (hn.gauge g).mpr (by rw [hst, h])
    · exact fun x => (hn.scanner x).mpr (by rw [hst, h])
  rw [State.movedTo, e]
  unfold State.followStreams
  have h1 : ((if s.ssq.site = .armed then s.uncalled else s).inSite new).ssq.site = new := rfl
  simp only [h1, h2]
  congr 1
  have ho : s.ssq.site.streams = true → ((if s.ssq.site = .armed then s.uncalled else s).inSite new).streamOff =
      ((if s.ssq.site = .armed then s.uncalled else s).inSite new).stopped :=
    fun h => State.streamOff_eq_stopped (h2.trans h)
  cases hN : new.streams <;> cases hS : s.ssq.site.streams <;> simp [hs, ho, hS]

end Sys2Proof.Machine
end

