-- ==== Sys2Proof/Laws/Store.lean ====
section
/-! SUPPORT. What a write to the Report Store can do, said once: the report it names is changed, or the write is
dropped and counted (R157); and what the sweep's visit of a target and its further try can do (R107). -/

namespace Sys2Proof.Machine

/-- A report is live exactly if its slot is FILLING or CLOSING and holds the train (R157). -/
theorem State.liveReport_eq_some {s : State} {k : Fin 4} {number : Nat} {r : Report} :
    s.liveReport k number = some r ↔ ∃ h, s.rps.slots[k] = some h ∧ (h.st = .filling ∨ h.st = .closing)
      ∧ h.report.header.number = number ∧ h.report = r := by
  unfold State.liveReport HeldSlot.writable
  split
  · rename_i h hk
    simp only [hk, Option.some.injEq]
    split
    · rename_i c
      simp only [Bool.and_eq_true, Bool.or_eq_true, beq_iff_eq] at c
      simp [c]
    · rename_i c
      simp only [Bool.and_eq_true, Bool.or_eq_true, beq_iff_eq, not_and] at c
      constructor
      · intro e; cases e
      · rintro ⟨h', rfl, hs, hn, -⟩
        exact absurd hn (c hs)
  · rename_i hk
    simp [hk]

/-- A write to a live report changes that report and nothing else (R157). -/
theorem State.write_of_live {s : State} {k : Fin 4} {number : Nat} {h : HeldSlot} (hk : s.rps.slots[k] = some h)
    (hs : h.st = .filling ∨ h.st = .closing) (hn : h.report.header.number = number) (f : Report → Report) :
    s.write k number f =
      { s with rps := { s.rps with slots := s.rps.slots.set k (some { h with report := f h.report }) } } := by
  have hw : (h.writable && h.report.header.number == number) = true := by
    simpa [HeldSlot.writable] using ⟨hs, hn⟩
  simp only [State.write, hk, hw, if_true, State.modRps]

/-- A write that names a train its slot does not hold is dropped and counted (R157). -/
theorem State.write_of_gone {s : State} {k : Fin 4} {number : Nat} (h : s.liveReport k number = none)
    (f : Report → Report) :
    s.write k number f = { s with rps := { s.rps with droppedWrites := min (s.rps.droppedWrites + 1) 65535 } } := by
  unfold State.liveReport at h
  unfold State.write
  split at h
  · rename_i hk
    split at h
    · cases h
    · rename_i c
      simp only [c, Bool.false_eq_true, if_false, State.modRps, sat16]
  · rename_i hk
    simp only [State.modRps, sat16]

/-- A write leaves the slot's state and its train as they were (R150, R157). -/
theorem State.write_slot_state {s : State} {k : Fin 4} {number : Nat} {f : Report → Report} {h' : HeldSlot}
    (h : (s.write k number f).rps.slots[k] = some h') :
    ∃ h, s.rps.slots[k] = some h ∧ h'.st = h.st ∧ (h'.report = h.report ∨ h'.report = f h.report) := by
  unfold State.write at h
  split at h
  · rename_i x hk
    split at h
    · simp only [State.modRps, Fin.getElem_fin, Vector.getElem_set_self, Option.some.injEq] at h
      subst h
      exact ⟨x, hk, rfl, Or.inr rfl⟩
    · exact ⟨h', h, rfl, Or.inl rfl⟩
  · exact ⟨h', h, rfl, Or.inl rfl⟩

/-! ## The sweep at a target -/

/-- A visit of a target passes it by, requests it, or waits at it (R107). -/
theorem State.sweepVisit_cases (k : Fin 4) (r : Report) (pos : SweepPos) (s : State) :
    let l := pos.target.1
    let i := pos.target.2
    ((r.dirtyAt l i = false ∨ s.targetInFlight l k r.header.number i = true)
      ∧ s.sweepVisit k r pos = s.moveSweep (pos.next r))
    ∨ (r.dirtyAt l i = true ∧ s.targetInFlight l k r.header.number i = false
      ∧ (s.evu.lanes.get l).length ≤ Config.sweepRoom
      ∧ s.sweepVisit k r pos = (s.submit { lane := l, slot := k, number := r.header.number, target := i
                                           urgent := false }).moveSweep (pos.next r))
    ∨ (r.dirtyAt l i = true ∧ s.targetInFlight l k r.header.number i = false
      ∧ Config.sweepRoom < (s.evu.lanes.get l).length
      ∧ s.sweepVisit k r pos = s.modEvu fun v => { v with sweepPos := pos, sweepWaiting := true }) := by
  dsimp only
  unfold State.sweepVisit
  cases hd : r.dirtyAt pos.target.1 pos.target.2
  · exact .inl ⟨.inl rfl, by simp [hd]⟩
  · cases hf : s.targetInFlight pos.target.1 k r.header.number pos.target.2
    · by_cases hl : (s.evu.lanes.get pos.target.1).length ≤ Config.sweepRoom
      · exact .inr (.inl ⟨rfl, rfl, hl, by simp [hd, hf, hl]⟩)
      · exact .inr (.inr ⟨rfl, rfl, by omega, by simp [hd, hf, hl]⟩)
    · exact .inl ⟨.inr rfl, by simp [hf]⟩

/-- The lanes are served by one arbitration, and by the further try of a sweep that waits for a lane which a request left
in it (R100, R107). -/
theorem State.serveLanes_cases (s : State) :
    s.serveLanes = s.arbitrate ∨ (s.evu.sweepWaiting = true
      ∧ (s.arbitrate.evu.lanes.get s.evu.sweepPos.target.1).length < (s.evu.lanes.get s.evu.sweepPos.target.1).length
      ∧ s.serveLanes = s.arbitrate.retrySweep) := by
  unfold State.serveLanes State.freesSweep
  dsimp only
  split
  · rename_i h
    rw [Bool.and_eq_true, decide_eq_true_eq] at h
    exact .inr ⟨h.1, h.2, rfl⟩
  · exact .inl rfl

end Sys2Proof.Machine
end

