-- ==== Sys2Proof/WellFormed.lean ====
section
/-! DEFINITION. Well-formed commands. The operand types already bound every node, channel, port and slot
number; what is left to check is that a FRAME_RECEIVED carries the bytes of at most one frame. -/

namespace Sys2Proof

/-- A FRAME_RECEIVED carries at least one byte and at most the 254 bytes of the longest frame (L is at most
250 and a whole frame is L + 4 bytes, 11.7). Every other command is well-formed as it stands. `exec` is total
and does not rest on this. -/
def WellFormed : Instr → Bool
  | .frameReceived _ _ bytes => !bytes.isEmpty && bytes.length ≤ 254
  | _ => true

end Sys2Proof
end

