-- ==== Sys2Proof/Tests/Slice0.lean ====
section
/-! SUPPORT. Tests: the well-formedness smoke test, small steps with figures taken from the manual's worked examples,
and for each statement with hypotheses concrete states that meet them. -/

set_option Elab.async false

namespace Sys2Proof.Tests

open Sys2Proof Sys2Proof.Machine

/-! ## Well-formed commands -/

theorem test_smoke_empty_frame : WellFormed (.frameReceived .s 0 []) = false := by decide

theorem test_smoke_long_frame : WellFormed (.frameReceived .s 0 (List.replicate 255 0)) = false := by decide +kernel

theorem test_smoke_longest_frame : WellFormed (.frameReceived .m 0 (List.replicate 254 0)) = true := by decide +kernel

theorem test_table_spells_no_word : decodeTableWord 16 0x1234 = none ∧ State.reset.withFetchWord 16 0x1234 = State.reset :=
  ⟨rfl, rfl⟩

/-! ## Small states -/

/-- The state a command leads to. -/
def after (c : Instr) (s : State) : State :=
  match exec c s with
  | .next t => t
  | _ => s

/-- A gauge node whose stream is taken. -/
def nodeOn : GaugeNode :=
  { status := .present, prev := some 0, settle := 0, lossTimer := some 200000, bad := 0, duplicate := 0, missing := 0,
    losses := 0, sent := [.streamOn] }

/-- A scanner whose stream is taken. -/
def scannerOn : Scanner := { Scanner.reset with status := .present, prev := some 0, lossTimer := some 200000, sent := [.streamOn] }

/-- The part in a state of service with its streams running. -/
def serving (site : SiteState) : State :=
  { State.reset with
    ssq := { Ssq.reset with site := site, streaming := true, latch := site == .armed }
    nodes := Vector.replicate 4 nodeOn
    tsu := { Tsu.reset with scanners := { a := scannerOn, b := scannerOn } } }

def patrol : State := serving .patrol

def armed : State :=
  { serving .armed with ssq := { (serving .armed).ssq with armTimer := some 60000000 } }

def sweeping : State :=
  { serving .sweep with ssq := { (serving .sweep).ssq with dormancy := true, sweepDurTimer := some 3000000 } }

def dormant : State :=
  { State.reset with ssq := { Ssq.reset with site := .dormant, dormancy := true, sweepTimer := some 60000000 } }

def resting : State := { patrol with ssq := { patrol.ssq with dormancy := true, restTimer := some 20000000 } }

/-- The state in LEVEL mode with the approach input at a level. -/
def level (input : Bool) (s : State) : State :=
  { s with
    ssq := { s.ssq with approachInput := input }
    mpc := { s.mpc with active := s.mpc.active.set Item.approachMode.idx 1 } }

/-- An open eastbound train of two axles that has put none past the exit pair. -/
def train : OpenTrain :=
  { slot := 0, number := 1, d0 := .east, entry := .west, motion := .movingFwd, lastDir := .forward, speed := 10000,
    lastSpeed := 10000, n := 2, h := 2, x := 0, haltTimer := some 2000000, clearTimer := some 20000000, standTimer := none,
    lastCross := { west := some (0, .east), east := none } }

def axle0 : AxleRecord := AxleRecord.start 0 0 10000 none (some 0)

def axle1 : AxleRecord := AxleRecord.start 1 0 10000 (some (1900, .short)) (some 0)

def vehicle0 : VehicleRecord :=
  { index := 0, first := 0, count := 2, form := none, isOpen := true, dirty := false, gross := none, endImbalance := none,
    worstWheel := .absent, worstBearing := .absent, quality := none, endMark := false }

/-- A report of two axles and one vehicle. -/
def report (number : Nat) (k : Fin 4) : Report :=
  { header := { Header.start number k .east .west 0 (HeaderFlags.start true false) with h := 2, recorded := 2, vehicles := 1 }
    axles := [axle0, axle1], vehicles := [vehicle0] }

/-- A passage of `t` in slot 0. -/
def passageOf (t : OpenTrain) : State :=
  { serving .passage with
    axt := { Axt.reset with train := some t }
    vsg := { Vsg.reset with reference := some (10000, 0), history := [.short],
                            vehicles := [{ first := 0, deficitMark := false }] }
    rps := { Rps.reset with slots := (Vector.replicate 4 none).set 0 (some { st := .filling, report := report 1 0 }),
                            order := [0], trainCounter := 1 } }

def passage : State := passageOf train

def halted : OpenTrain :=
  { train with motion := .halted, speed := 0, haltTimer := none, standTimer := some 900000000 }

/-- Slot 0 held in a state, the train gone; a CLOSING slot is the one the sweep serves. -/
def stored (st : SlotState) (s : State) : State :=
  { s with
    rps := { Rps.reset with slots := (Vector.replicate 4 none).set 0 (some { st := st, report := report 1 0 }),
                            order := [0], trainCounter := 1 }
    evu := { s.evu with sweepQueue := if st = .closing then [0] else [] } }

/-- A request standing in the queue of port `p`. -/
def asked (kind : Byte) (payload : List Byte) : QueuedRequest := { kind := kind, tag := 7, payload := payload, served := false }

/-- The state with one request in the queue of port `p`, which is otherwise as after power-on. -/
def asking (p : Port) (kind : Byte) (payload : List Byte) (s : State) : State :=
  s.withPort p { PortMachine.reset with requests := [asked kind payload] }

theorem asking_asks (p : Port) (kind : Byte) (payload : List Byte) (s : State) :
    (asking p kind payload s).Asks p (asked kind payload) kind payload := by
  cases p <;> exact ⟨rfl, rfl, rfl, fun _ => rfl⟩

/-! ## The conditions of Safety as tests -/

def roomB (n : Nat) (pm : PortMachine) : Bool :=
  !pm.broken && (pm.leaving.isSome || pm.waiting.isEmpty) && decide (pm.waitingNotices + n ≤ 16)

theorem room_of {n : Nat} {pm : PortMachine} (h : roomB n pm = true) : pm.Room n := by
  simp only [roomB, Bool.and_eq_true, Bool.or_eq_true, Bool.not_eq_true', decide_eq_true_eq, List.isEmpty_iff] at h
  refine ⟨h.1.1, fun hl => ?_, h.2⟩
  rcases h.1.2 with h1 | h1
  · simp [hl] at h1
  · exact h1

def siteOkB (s : State) : Bool :=
  decide ((s.ssq.site = .passage ↔ s.axt.train.isSome) ∧ (s.ssq.armTimer.isSome → s.ssq.site = .armed)
    ∧ (s.ssq.sweepTimer.isSome → s.ssq.site = .dormant) ∧ (s.ssq.sweepDurTimer.isSome → s.ssq.site = .sweep)
    ∧ (s.ssq.restTimer.isSome → s.ssq.site = .patrol ∧ s.ssq.dormancy = true)
    ∧ (s.ssq.site = .armed → s.ssq.latch = true) ∧ (s.ssq.site = .offline → s.ssq.latch = false)
    ∧ (s.ssq.disablePending = true → s.ssq.site = .passage) ∧ s.ssq.streaming = s.ssq.site.streams
    ∧ (s.levelMode = true → s.ssq.approachInput = true →
        s.ssq.site = .offline ∨ s.ssq.site = .armed ∨ s.ssq.site = .passage))

theorem siteOk_of {s : State} (h : siteOkB s = true) : s.SiteOk := by
  obtain ⟨h1, h2, h3, h4, h5, h6, h7, h8, h9, h10⟩ := of_decide_eq_true h
  exact ⟨h1, h2, h3, h4, h5, h6, h7, h8, h9, h10⟩

def scannerOkB (s : State) (y : Scanner) : Bool :=
  decide ((y.status = .off ↔ s.ssq.streaming = false) ∧ (y.progress ≠ .idle → s.ssq.site = .armed)
    ∧ (y.shutterClosed = true ↔ y.progress ≠ .idle) ∧ (y.shutterTimer.isSome ↔ y.progress = .waiting)
    ∧ (y.lossTimer.isSome ↔ y.status = .present))

def nodesOkB (s : State) : Bool :=
  decide (s.ssq.streaming = s.ssq.site.streams ∧ ∀ g : Fin 4, s.nodes[g].status = .off ↔ s.ssq.streaming = false)
    && decide (∀ g : Fin 4, s.nodes[g].lossTimer.isSome ↔ s.nodes[g].status = .settling ∨ s.nodes[g].status = .present)
    && scannerOkB s s.tsu.scanners.a && scannerOkB s s.tsu.scanners.b

theorem nodesOk_of {s : State} (h : nodesOkB s = true) : s.NodesOk := by
  simp only [nodesOkB, Bool.and_eq_true, decide_eq_true_eq] at h
  obtain ⟨⟨⟨⟨h1, h2⟩, hg⟩, ha⟩, hb⟩ := h
  obtain ⟨a1, a2, a3, a4, a5⟩ := of_decide_eq_true ha
  obtain ⟨b1, b2, b3, b4, b5⟩ := of_decide_eq_true hb
  exact ⟨h1, h2, fun x => by cases x <;> assumption, fun x => by cases x <;> assumption,
    fun x => by cases x <;> assumption, fun x => by cases x <;> assumption, hg, fun x => by cases x <;> assumption⟩

def slotsOkB (s : State) : Bool :=
  decide ((∀ k : Fin 4, (s.rps.slots[k]).any (fun h => h.st == .filling) = (s.axt.train.map (·.slot) == some k))
    ∧ (∀ k : Fin 4, s.evu.sweepQueue.contains k = s.slotClosing k) ∧ s.evu.sweepQueue.Nodup
    ∧ (∀ k : Fin 16, (s.units[k]).capture.all fun c => s.axt.train.map (·.slot) == some c.slot)
    ∧ (s.tsu.pair.isSome → s.axt.train.isSome)
    ∧ (s.axt.train.all fun t => (s.rps.slots[t.slot]).all fun h => h.report.header.number == t.number) = true
    ∧ (s.tsu.pair.all fun p => p.gates.a.isSome || p.gates.b.isSome) = true)

theorem slotsOk_of {s : State} (h : slotsOkB s = true) : s.SlotsOk := by
  obtain ⟨h1, h2, h3, h4, h5, h6, h7⟩ := of_decide_eq_true h
  refine ⟨fun k => ?_, fun t x ht hx => ?_, fun k => ?_, h3, fun k c hc => ?_, h5, fun p hp => ?_⟩
  · rw [h1 k]; cases s.axt.train <;> simp
  · rw [ht, Option.all_some, hx] at h6
    exact eq_of_beq h6
  · rw [← h2 k]; simp
  · have := h4 k
    rw [hc] at this
    cases ht : s.axt.train with
    | none => simp [ht] at this
    | some t =>
      rw [ht] at this
      exact ⟨t, rfl, (Option.some.inj (eq_of_beq this)).symm⟩
  · rw [hp, Option.all_some, Bool.or_eq_true] at h7
    rcases h7 with h8 | h8
    · exact ⟨.a, fun hn => by simp [show p.gates.a = none from hn] at h8⟩
    · exact ⟨.b, fun hn => by simp [show p.gates.b = none from hn] at h8⟩

/-- The premises of the statements about the site, with room for `n` notices. -/
theorem site_of {n : Nat} {s : State}
    (h : (siteOkB s && nodesOkB s && roomB n s.mpc.ports.s && roomB n s.mpc.ports.m) = true) :
    s.SiteOk ∧ s.NodesOk ∧ s.Room n := by
  simp only [Bool.and_eq_true] at h
  exact ⟨siteOk_of h.1.1.1, nodesOk_of h.1.1.2, room_of h.1.2, room_of h.2⟩

/-! ## Figures of the manual's worked examples -/

/-- 2.10: the intervals 4999, 5000, 7500 and 1000000 us. -/
theorem test_speed_of_interval : plausibleSpeed 250 4999 = none ∧ plausibleSpeed 250 5000 = some 50000
    ∧ plausibleSpeed 250 7500 = some 33333 ∧ plausibleSpeed 250 1000000 = some 250 := by decide

/-- 2.10: the halt times of 33333, 4000, 1000 and 250 mm/s. -/
theorem test_halt_time : patrol.haltTime 33333 = 2000000 ∧ patrol.haltTime 4000 = 5000000
    ∧ patrol.haltTime 1000 = 20000000 ∧ patrol.haltTime 250 = 30000000 := by decide

/-- 3.4: rows four, five and six of the spacing table. -/
theorem test_spacing :
    (let at_ (v : Nat) (s : State) : State := { s with vsg := { s.vsg with reference := some (v, 0) } }
     (at_ 2100 patrol).entrySpacing 1 2000 1560976 = some (3200, .mid)
     ∧ (at_ 10000 patrol).entrySpacing 1 7600 250000 = some (2200, .short)
     ∧ (at_ 10000 patrol).entrySpacing 1 7400 250000 = some (2175, .unknown)) := by decide

/-- 3.5: the forms at axles 6 and 10. -/
theorem test_forms : vehicleForm false [.short, .short, .long, .short, .short] = .six
    ∧ vehicleForm false [.short, .long, .short, .mid, .short, .short] = .four := by decide

/-- The channel of 4.10 with a sample's load. -/
def load (x : Int) : Nat :=
  Channel.convert { Channel.reset with
    z := some 256000
    cal := { b1 := 2000, b2 := 8000, b3 := 20000, m0 := 520, m1 := 500, m2 := 490, m3 := 470, isSet := true } } x false

/-- 4.10. -/
theorem test_load_conversion : load 997 = 0 ∧ load 2500 = 190 ∧ load 11000 = 1225 ∧ load 31000 = 3569 ∧ load 61000 = 6000 := by
  decide

/-- A gauge frame of link 0 with its check value. -/
def gauge (seq : Byte) (samples : Vector (BitVec 20) 4) : GaugeFrame :=
  let f : GaugeFrame := { node := 0, seq := seq, overRange := Vector.replicate 4 false, samples := samples, check := 0 }
  { f with check := crc (gaugeFrameBytes f) }

/-- 4.9, third row: Z = 256005 and a sample of 998. -/
theorem test_baseline_filter :
    (let s : State := { patrol with channels := Vector.replicate 16 { Channel.reset with z := some 256005 } }
     ((after (.gaugeFrame 0 9 (.frame (gauge 1 (Vector.replicate 4 998)))) s).channels[(0 : Fin 16)]).z = some 256002) := by
  decide +kernel

/-- A fresh crib record of 7.10. -/
def crib (plateau peak : Nat) : CribRecord :=
  { plateau := some plateau, peak := peak, speed := 15000, dir := .east, stale := false, truncated := false, gapped := false,
    reversed := false, saturated := false, defaultCal := false }

/-- The crib set of 7.10, all of whose records are fresh. -/
def eightFresh : Vector (Option CribRecord) 8 :=
  #v[some (crib 1218 1290), some (crib 1225 1302), some (crib 1209 1281), some (crib 1240 3410), some (crib 1231 1315),
    some (crib 1197 1276), some (crib 1222 1299), some (crib 1236 1310)]

/-- 7.10: W, D, Q and the level, under the configuration given there. -/
theorem test_wheel_graded_alert :
    (let c := ((((((Item.defaults.set Item.gFactor.idx 2).set Item.twatch.idx 600).set Item.talert.idx 1500).set
        Item.qalert.idx 250).set Item.hcrit.idx 4000).set Item.vimp.idx 4200).set Item.vmax.idx 36000
     let r := wheelResult c eightFresh
     r.quality = .full ∧ r.w = some 1224 ∧ r.d = some 27 ∧ r.hMax = some 3410 ∧ r.q = some 278 ∧ r.level = .alert) := by
  decide +kernel

/-- 7.10: the axle results with a FULL result of 1180 on rail B. -/
theorem test_axle_results : axleResultsOf 1224 1180 .full .full = { load := 2404, quality := .full, imbalance := 1 } := by
  decide

/-- 7.11, case f. -/
theorem test_ratio_without_load : dynamicRatio 250 0 = 999 ∧ dynamicRatio 0 0 = 0 := by decide

/-- A gate record of 8.9 with a peak. -/
def gateOf (p : Int) : GateRecord :=
  { peak := some p, count := 9, ambient := some 148, gapped := false, truncated := false, calAged := false, calNone := false }

/-- The snapshot of 8.9. -/
def snap89 : ThermalSnap :=
  { gates := { a := some (gateOf 912), b := some (gateOf 439) }, sum := { a := 1540, b := 1320 }, count := { a := 11, b := 11 }
    status := { a := .present, b := .present } }

/-- 8.9: the rise, the differences, the side A level and the side B level. -/
theorem test_bearing_graded_warm :
    (let r := bearingResult Item.defaults snap89
     (r .a).rise = some 764 ∧ (r .a).mdiff = some 473 ∧ (r .a).rel = some 624 ∧ (r .a).level = .warm
       ∧ (r .b).rise = some 291 ∧ (r .b).rel = some 171 ∧ (r .b).level = .normal) := by
  decide +kernel

/-- 10.7, event 2: a post to a full level. -/
theorem test_post_to_full_level :
    (let d : AlertDraft :=
       { level := .watch, kind := .endImbalance, train := none, axle := none, vehicle := none, side := none, value := 31 }
     let s : State := { patrol with atq := { Atq.reset with
        queues := { Atq.reset.queues with watch := (List.range 32).map fun i => { number := 201 + i, draft := d, time := 0 } }
        number := 232 } }
     ((s.post d).atq.queues.watch.map (·.number)).head? = some 202 ∧ (s.post d).atq.queues.watch.length = 32
       ∧ (s.post d).atq.lost.watch = 1 ∧ (s.post d).atq.number = 233) := by
  decide +kernel

/-- 11.8, events 4 and 5: Toff against the future value of Ton. -/
theorem test_conflict_with_the_future_value :
    (let s : State := { passage with mpc := { passage.mpc with pendingCfg := passage.mpc.pendingCfg.set Item.ton.idx (some 120) } }
     let sent (v : Byte × Byte) :=
       ((after (.configSet .s) (asking .s 4 (u8 Item.toff.number ++ [v.1, v.2]) s)).mpc.ports.s.leaving).map (·.payload)
     sent (0, 130) = some [12, 0, 0, 130] ∧ sent (7, 208) = some [12, 1, 7, 198]) := by
  decide +kernel

/-- R171: the generator with a register of all ones and no final inversion. -/
theorem test_check_value :
    crc [0x31, 0x32, 0x33, 0x34, 0x35, 0x36, 0x37, 0x38, 0x39] = 0x29B1 := by decide +kernel

/-- R18: the clock after its highest value. -/
theorem test_clock_wraps :
    (after .siteClockTick { patrol with ssq := { patrol.ssq with clock := 0xFFFFFFFF } }).ssq.clock = 0 := by decide +kernel

/-- R153: a train that starts from PATROL has no approach. -/
theorem test_train_from_patrol :
    (let held : PairMachine := { PairMachine.reset with st := .outerFirst 1000, timer := some 1001000 }
     let s : State := { patrol with axt := { Axt.reset with pairs := { west := held, east := .reset } } }
     let u := after (.wheelSensorEdge .wi 26000) s
     u.ssq.site = .passage ∧ (u.axt.train.map (·.speed)) = some 10000
       ∧ (u.rps.slots[(0 : Fin 4)]).map (fun h => h.report.header.flags.noApproach) = some true) := by
  decide +kernel

/-! ## States and operands that meet the statements' premises: the machine and its ports -/

theorem test_meets_TimePassesAndTheClockAdvances : State.reset.pending = []
    ∧ (asking .s 0x02 [0xFF, 0xFF, 0xFF, 0xFF] patrol).Asks .s (asked 0x02 [0xFF, 0xFF, 0xFF, 0xFF]) 0x02 [0xFF, 0xFF, 0xFF, 0xFF] :=
  ⟨rfl, asking_asks ..⟩

/-- A pair machine that holds the first edge of the outer sensor at 1 ms. -/
def heldOuter : PairMachine := { PairMachine.reset with st := .outerFirst 1000, timer := some 2001000 }

/-- A pair machine that holds the first edge of the inner sensor at 1 ms. -/
def heldInner : PairMachine := { PairMachine.reset with st := .innerFirst 1000, timer := some 2001000 }

/-- A state with the machine of a pair given. -/
def withPair (pr : Pair) (m : PairMachine) (s : State) : State :=
  { s with axt := { s.axt with pairs := s.axt.pairs.upd pr fun _ => m } }

theorem test_meets_SettingsMoveOnlyByTheirCommands :
    (exec .siteClockTick patrol = .next (after .siteClockTick patrol)
      ∧ (after .siteClockTick patrol).ssq.clock ≠ patrol.ssq.clock)
    ∧ (let s := asking .s 3 [2] patrol
       exec (.dormancyOn .s) s = .next (after (.dormancyOn .s) s) ∧ (after (.dormancyOn .s) s).ssq.dormancy ≠ s.ssq.dormancy)
    ∧ (let s := withPair .west heldOuter patrol
       exec (.wheelSensorEdge .wi 26000) s = .next (after (.wheelSensorEdge .wi 26000) s) ∧ s.axt.train = none
         ∧ (after (.wheelSensorEdge .wi 26000) s).axt.train ≠ none)
    ∧ (let s := passageOf { train with x := 2 }
       exec .clearTimerExpiry s = .next (after .clearTimerExpiry s) ∧ s.axt.train ≠ none
         ∧ (after .clearTimerExpiry s).axt.train = none) :=
  ⟨⟨rfl, by decide +kernel⟩, ⟨rfl, by decide +kernel⟩, ⟨rfl, by decide +kernel, by decide +kernel⟩,
    ⟨rfl, by decide +kernel, by decide +kernel⟩⟩

/-- The frame of a STATUS request. -/
def statusRequest : OutFrame := { kind := 1, tag := 9, payload := [], cls := .notice }

theorem test_meets_WireFrameIsFoundGood : (List.replicate 248 (0xC3 : Byte)).length ≤ 248 := by decide +kernel

theorem test_meets_ReceivingInPiecesAgrees :
    (0 : Byte) ≠ 0xC3 ∧ (1 : Byte).toNat < 2 ∧ 250 < (251 : Byte).toNat
    ∧ (∀ len ∈ [(2 : Byte), 250], 2 ≤ len.toNat ∧ len.toNat ≤ 250
      ∧ (List.replicate len.toNat (0 : Byte)).length = len.toNat)
    ∧ ∀ bytes, ∃ hi lo : Byte, crc bytes ≠ hi ++ lo :=
  ⟨by decide, by decide, by decide, by decide +kernel, fun bytes =>
    if h : crc bytes = (0 : Byte) ++ (0 : Byte) then ⟨1, 0, by rw [h]; decide⟩ else ⟨0, 0, h⟩⟩

/-- The stream of slot 0 at a page. -/
def streaming (page : Nat) : StreamState := { slot := 0, number := 1, tag := 5, nextPage := page }

theorem test_meets_ReceivedFrameIsQueued :
    statusRequest.payload.length ≤ 248 ∧ { PortMachine.reset with broken := true }.broken = true
    ∧ (let pm := { PortMachine.reset with requests := [asked 1 []], bad := 65535 }
       pm.broken = false ∧ pm.receiver = .hunt ∧ pm.stream = none ∧ pm.bad ≤ 65535 ∧ pm.requests.length < 2)
    ∧ (let pm := { PortMachine.reset with requests := [asked 1 [], asked 1 []], overflow := 65535 }
       pm.broken = false ∧ pm.receiver = .hunt ∧ pm.stream = none ∧ pm.bad ≤ 65535 ∧ ¬ pm.requests.length < 2)
    ∧ (let pm := { PortMachine.reset with stream := some (streaming 4) }
       pm.Room 1 ∧ pm.receiver = .hunt ∧ pm.stream = some (streaming 4) ∧ pm.bad ≤ 65535)
    ∧ ((patrol.mpc.ports.get .s).broken = false ∧ ((patrol.mpc.ports.get .s).receiver.feed [0xC3, 1, 0xC3]).frames = []) :=
  ⟨by decide, by decide, by decide, by decide, ⟨room_of (by decide), by decide⟩, by decide +kernel⟩

/-- A port with one frame leaving and notices waiting behind it. -/
def crowded (n : Nat) : PortMachine :=
  { PortMachine.reset with
    leaving := some (noticeFrame 0x43 [0, 1]), waiting := List.replicate n (noticeFrame 0x43 [0, 1]) }

theorem test_meets_NoticesNeedRoom :
    { PortMachine.reset with broken := true }.Orderly
    ∧ ((crowded 16).Orderly ∧ 16 ≤ (crowded 16).waitingNotices) ∧ ((crowded 15).Orderly ∧ ¬ 16 ≤ (crowded 15).waitingNotices)
    ∧ (State.reset.mpc.ports.get .s).Room 1 ∧ (crowded 15).Room 1 :=
  ⟨fun _ => rfl, ⟨nofun, by decide⟩, ⟨nofun, by decide⟩, room_of (by decide), room_of (by decide)⟩

theorem test_meets_OutputFrameSentMovesQueue :
    (crowded 1).leaving = some (noticeFrame 0x43 [0, 1]) ∧ (noticeFrame 0x43 [0, 1]).cls ≠ .reply true
    ∧ ((asking .s 1 [] patrol).replying .s (replyFrame (asked 1 []) 3 [])).mpc.ports.s.leaving
        = some (replyFrame (asked 1 []) 3 [])
    ∧ PortMachine.reset.leaving = none := by
  decide

/-- A COMPLETE report in slot 0 whose stream runs on port S at a page. -/
def paged (page : Nat) : State :=
  (stored .complete patrol).withPort .s { PortMachine.reset with stream := some (streaming page) }

/-- The premises of a page of `paged`: its body is what the page number asks for. -/
def pageBody (page : Nat) (body : List Byte) : Prop :=
  let pm := (paged page).mpc.ports.get .s
  let r := report 1 0
  pm.Room 1 ∧ pm.waiting = [] ∧ pm.stream = some (streaming page)
  ∧ (paged page).rps.slots[(0 : Fin 4)] = some { st := .complete, report := r }
  ∧ (page = 0 → body = r.header.bytes)
  ∧ (∀ x, 1 ≤ page → r.axles[page - 1]? = some x → body = x.summary ++ x.detail)
  ∧ (r.axles.length < page →
      body = counted VehicleRecord.bytes ((r.vehicles.drop (10 * (page - 1 - r.axles.length))).take 10))

theorem test_meets_StreamPageMakesNextPage :
    pageBody 0 (report 1 0).header.bytes ∧ pageBody 1 (axle0.summary ++ axle0.detail)
    ∧ pageBody 3 (counted VehicleRecord.bytes [vehicle0]) :=
  ⟨⟨room_of (by decide), rfl, rfl, by decide, fun _ => rfl, fun _ h => absurd h (by decide), fun h => absurd h (by decide)⟩,
    ⟨room_of (by decide), rfl, rfl, by decide, fun h => absurd h (by decide), fun _ _ h => by cases h; rfl,
      fun h => absurd h (by decide)⟩,
    ⟨room_of (by decide), rfl, rfl, by decide, fun h => absurd h (by decide), fun _ _ h => (by cases h), fun _ => rfl⟩⟩

theorem test_meets_LineBreakClearsItsPort :
    PortMachine.reset.broken = false ∧ { PortMachine.reset with broken := true }.broken = true := by decide

/-! ## Requests -/

theorem test_meets_RefusedRequestsChangeNothing_kinds :
    (asking .m 0 [] patrol).Asks .m (asked 0 []) 0 [] ∧ (0 : Byte).toNat = 0
    ∧ (asking .s 17 [] patrol).Asks .s (asked 17 []) 17 [] ∧ 16 < (17 : Byte).toNat :=
  ⟨asking_asks .., by decide, asking_asks .., by decide⟩

theorem test_meets_RefusedRequestsChangeNothing_lengths :
    ((asking .s 1 [0] patrol).Asks .s (asked 1 [0]) 1 [0] ∧ Instr.status .s ∈ rowsOf .s 1 ∧ 1 ∉ lengthsOf 1)
    ∧ ((asking .s 4 [1] patrol).Asks .s (asked 4 [1]) 4 [1] ∧ Instr.configSet .s ∈ rowsOf .s 4 ∧ 1 ∉ lengthsOf 4)
    ∧ ((asking .s 16 [0] patrol).Asks .s (asked 16 [0]) 16 [0] ∧ Instr.alertCount .s ∈ rowsOf .s 16 ∧ 1 ∉ lengthsOf 16)
    ∧ ((asking .s 13 [] patrol).Asks .s (asked 13 []) 13 [] ∧ Instr.trainStream .s ∈ rowsOf .s 13 ∧ 0 ∉ lengthsOf 13) :=
  ⟨⟨asking_asks .., by decide, by decide⟩, ⟨asking_asks .., by decide, by decide⟩, ⟨asking_asks .., by decide, by decide⟩,
    ⟨asking_asks .., by decide, by decide⟩⟩

theorem test_meets_RefusedRequestsChangeNothing_forms :
    (wrongForm 4 [1, 0, 0] ∧ wrongForm 4 [2, 10]) ∧ (wrongForm 6 [0, 1] ∧ wrongForm 6 (0 :: 0 :: List.replicate 20 0))
    ∧ ((asking .s 4 [2, 10] patrol).Asks .s (asked 4 [2, 10]) 4 [2, 10] ∧ Instr.configSet .s ∈ rowsOf .s 4)
    ∧ ((asking .s 6 [0, 1] patrol).Asks .s (asked 6 [0, 1]) 6 [0, 1] ∧ Instr.calibrationSet .s ∈ rowsOf .s 6) :=
  ⟨⟨⟨.approachMode, by decide⟩, ⟨.tarm, by decide⟩⟩, ⟨.inl (by decide), .inr (by decide)⟩, ⟨asking_asks .., by decide⟩,
    ⟨asking_asks .., by decide⟩⟩

theorem test_meets_RefusedRequestsChangeNothing_numbers :
    namesOutside 3 [5] ∧ namesOutside 4 [0, 1] ∧ namesOutside 4 [55, 0, 1] ∧ namesOutside 5 [55] ∧ namesOutside 6 [16, 0]
    ∧ namesOutside 6 (16 :: 1 :: List.replicate 20 0) ∧ namesOutside 6 (0 :: 2 :: List.replicate 20 0) ∧ namesOutside 6 [0, 255]
    ∧ namesOutside 7 [16] ∧ namesOutside 8 [16] ∧ namesOutside 10 [4] ∧ namesOutside 11 [0, 0, 0, 9, 0]
    ∧ namesOutside 12 [0, 0, 17] ∧ namesOutside 13 [4] ∧ namesOutside 14 [4] ∧ namesOutside 15 [5]
    ∧ (asking .s 15 [5] patrol).Asks .s (asked 15 [5]) 15 [5] ∧ Instr.alertTake .s ∈ rowsOf .s 15 :=
  ⟨(by decide : 4 < (5 : Byte).toNat), (by decide : (0 : Byte).toNat < 1 ∨ 54 < (0 : Byte).toNat),
    (by decide : (55 : Byte).toNat < 1 ∨ 54 < (55 : Byte).toNat), (by decide : (55 : Byte).toNat < 1 ∨ 54 < (55 : Byte).toNat),
    .inl (by decide), .inr (.inl (by decide)), .inr (.inr (by decide)), .inr (.inr (by decide)), (by decide : 15 < (16 : Byte).toNat),
    (by decide : 15 < (16 : Byte).toNat), (by decide : 3 < (4 : Byte).toNat),
    (by decide : 3 < (0 : Byte).toNat ∨ (9 : Byte).toNat < 1 ∨ 8 < (9 : Byte).toNat ∨ 1 < (0 : Byte).toNat),
    (by decide : 3 < (0 : Byte).toNat ∨ (17 : Byte).toNat < 1 ∨ 16 < (17 : Byte).toNat), (by decide : 3 < (4 : Byte).toNat),
    (by decide : 3 < (4 : Byte).toNat), (by decide : 4 < (5 : Byte).toNat), asking_asks .., by decide⟩

theorem test_meets_RefusedRequestsChangeNothing_slots :
    patrol.rps.slots[(3 : Fin 4)] = none
    ∧ (asking .s 10 [3] patrol).Asks .s (asked 10 [3]) 10 [3]
    ∧ (asking .s 11 [3, 0, 0, 8, 1] patrol).Asks .s (asked 11 [3, 0, 0, 8, 1]) 11 [3, 0, 0, 8, 1]
    ∧ (asking .s 12 [3, 0, 16] patrol).Asks .s (asked 12 [3, 0, 16]) 12 [3, 0, 16]
    ∧ (asking .s 13 [3] patrol).Asks .s (asked 13 [3]) 13 [3] ∧ (asking .s 14 [3] patrol).Asks .s (asked 14 [3]) 14 [3]
    ∧ passage.rps.slots[(0 : Fin 4)] = some { st := .filling, report := report 1 0 }
    ∧ (asking .s 13 [0] passage).Asks .s (asked 13 [0]) 13 [0] ∧ (asking .s 14 [0] passage).Asks .s (asked 14 [0]) 14 [0]
    ∧ (asking .s 11 [0, 0, 2, 1, 0] passage).Asks .s (asked 11 [0, 0, 2, 1, 0]) 11 [0, 0, 2, 1, 0]
    ∧ (report 1 0).axles.length ≤ (0 : Byte).toNat * 256 + (2 : Byte).toNat
    ∧ (asking .s 12 [0, 1, 1] passage).Asks .s (asked 12 [0, 1, 1]) 12 [0, 1, 1]
    ∧ (report 1 0).vehicles.length ≤ (1 : Byte).toNat :=
  ⟨by decide, asking_asks .., asking_asks .., asking_asks .., asking_asks .., asking_asks .., by decide, asking_asks ..,
    asking_asks .., asking_asks .., by decide, asking_asks .., by decide⟩

theorem test_meets_RowsServeOnlyTheirOwnRequests :
    (Instr.status .s ∈ rowsOf .s 1 ∧ ∀ r, (patrol.mpc.ports.get .s).head = some r → r.kind.toNat ≠ 1)
    ∧ ((asking .s 3 [4] patrol).Asks .s (asked 3 [4]) 3 [4] ∧ (4 : Byte).toNat ≤ 4 ∧ (4 : Byte) ≠ 0)
    ∧ (∀ r, ((asking .s 16 [] patrol).mpc.ports.get .s).head = some r → 1 ≤ r.kind.toNat ∧ r.kind.toNat ≤ 16) :=
  ⟨⟨by decide, fun _ h => by cases h⟩, ⟨asking_asks .., by decide, by decide⟩, fun _ h => by cases h; decide⟩

theorem test_meets_StatusCarriesStandingValues : (asking .m 1 [] passage).Asks .m (asked 1 []) 1 [] := asking_asks ..

theorem test_meets_ReadsReturnWhatStands :
    (asking .s 5 [BitVec.ofNat 8 Item.maskM.number] patrol).Asks .s (asked 5 [54]) 5 [BitVec.ofNat 8 Item.maskM.number]
    ∧ (asking .s 7 [BitVec.ofNat 8 (15 : Fin 16).val] patrol).Asks .s (asked 7 [15]) 7 [BitVec.ofNat 8 (15 : Fin 16).val]
    ∧ (asking .s 8 [BitVec.ofNat 8 (15 : Fin 16).val] patrol).Asks .s (asked 8 [15]) 8 [BitVec.ofNat 8 (15 : Fin 16).val]
    ∧ (asking .s 16 [] patrol).Asks .s (asked 16 []) 16 [] ∧ (asking .s 9 [] patrol).Asks .s (asked 9 []) 9 []
    ∧ passage.rps.slots[(0 : Fin 4)] = some { st := .filling, report := report 1 0 }
    ∧ (asking .s 10 [0] passage).Asks .s (asked 10 [0]) 10 [0]
    ∧ (asking .s 11 [0, 0, 1, 8, 1] passage).Asks .s (asked 11 [0, 0, 1, 8, 1]) 11 [0, 0, 1, 8, 1]
    ∧ (asking .s 11 [0, 0, 0, 1, 0] passage).Asks .s (asked 11 [0, 0, 0, 1, 0]) 11 [0, 0, 0, 1, 0]
    ∧ (0 : Byte).toNat * 256 + (1 : Byte).toNat < (report 1 0).axles.length
    ∧ (asking .s 12 [0, 0, 16] passage).Asks .s (asked 12 [0, 0, 16]) 12 [0, 0, 16]
    ∧ (0 : Byte).toNat < (report 1 0).vehicles.length :=
  ⟨asking_asks .., asking_asks .., asking_asks .., asking_asks .., asking_asks .., by decide, asking_asks .., asking_asks ..,
    asking_asks .., by decide, asking_asks .., by decide⟩

/-- CONFIG SET of Toff with a value: the premises of one of its clauses. -/
def setsToff (given taken : Nat) (ordered settles : Bool) (s : State) : Prop :=
  let u := asking .s 4 (u8 Item.toff.number ++ Item.toff.bytes given) s
  u.Asks .s (asked 4 (u8 Item.toff.number ++ Item.toff.bytes given)) 4 (u8 Item.toff.number ++ Item.toff.bytes given)
  ∧ given < 256 ^ Item.toff.width ∧ PairsOrdered u.futureCfg
  ∧ taken = (if given < Item.toff.lo then Item.toff.lo else if Item.toff.hi < given then Item.toff.hi else given)
  ∧ (PairsOrdered (fun j => if j = .toff then taken else u.futureCfg j) ↔ ordered = true) ∧ u.settleHolds = settles

theorem test_meets_ConfigSetClampsTestsAndApplies :
    setsToff 150 150 false true patrol ∧ setsToff 65535 1990 false false passage ∧ setsToff 149 149 true true patrol
    ∧ setsToff 0 20 true false passage :=
  ⟨⟨asking_asks .., by decide, by unfold PairsOrdered; decide, by decide, by unfold PairsOrdered; decide, by decide⟩,
    ⟨asking_asks .., by decide, by unfold PairsOrdered; decide, by decide, by unfold PairsOrdered; decide, by decide⟩,
    ⟨asking_asks .., by decide, by unfold PairsOrdered; decide, by decide, by unfold PairsOrdered; decide, by decide⟩,
    ⟨asking_asks .., by decide, by unfold PairsOrdered; decide, by decide, by unfold PairsOrdered; decide, by decide⟩⟩

/-- A site in PATROL in PULSE mode with the approach input active. -/
def called : State := { patrol with ssq := { patrol.ssq with approachInput := true } }

theorem test_meets_ConfigSetOfModesAndMasks :
    ((asking .s 4 [1, 2] patrol).Asks .s (asked 4 [1, 2]) 4 [1, 2] ∧ 1 < (2 : Byte).toNat)
    ∧ ((asking .s 4 [1, 1] passage).Asks .s (asked 4 [1, 1]) 4 [1, 1] ∧ (asking .s 4 [1, 1] passage).settleHolds = false)
    ∧ ((asking .s 4 [1, 0] patrol).Asks .s (asked 4 [1, 0]) 4 [1, 0] ∧ (asking .s 4 [1, 0] patrol).settleHolds = true)
    ∧ ((asking .s 4 [1, 1] called).Asks .s (asked 4 [1, 1]) 4 [1, 1] ∧ (asking .s 4 [1, 1] called).settleHolds = true
      ∧ called.ssq.approachInput = true ∧ called.ssq.site ≠ .offline ∧ (asking .s 4 [1, 1] called).Room 1)
    ∧ (∀ site ∈ [called, { dormant with ssq := { dormant.ssq with approachInput := true } }],
      (asking .s 4 [1, 1] site).SiteOk ∧ (asking .s 4 [1, 1] site).NodesOk ∧ (asking .s 4 [1, 1] site).Room 1
        ∧ (asking .s 4 [1, 1] site).settleHolds = true)
    ∧ ((asking .s 4 [54, 16] patrol).Asks .s (asked 4 [54, 16]) 4 [BitVec.ofNat 8 Item.maskM.number, 16]
      ∧ 15 < (16 : Byte).toNat)
    ∧ ((asking .s 4 [53, 15] patrol).Asks .s (asked 4 [53, 15]) 4 [BitVec.ofNat 8 Item.maskS.number, 15]
      ∧ ((asking .s 4 [53, 15] patrol).mpc.ports.get .m).Room 4 ∧ ((asking .s 4 [53, 15] patrol).mpc.ports.get .s).Room 4) :=
  ⟨⟨asking_asks .., by decide⟩, ⟨asking_asks .., by decide⟩, ⟨asking_asks .., by decide⟩,
    ⟨asking_asks .., by decide, by decide, by decide, room_of (by decide), room_of (by decide)⟩,
    fun s hs => ⟨siteOk_of (by revert s; decide), nodesOk_of (by revert s; decide),
      ⟨room_of (by revert s; decide), room_of (by revert s; decide)⟩, by revert s; decide⟩, ⟨asking_asks .., by decide⟩,
    ⟨asking_asks .., room_of (by decide), room_of (by decide)⟩⟩

/-- The payload of CALIBRATION SET of channel 15 with a record. -/
def calPayload (b1 b2 b3 : Nat) : List Byte :=
  15 :: 1 :: (u32 b1 ++ u32 b2 ++ u32 b3 ++ u16 65535 ++ u16 0 ++ u16 4096 ++ u16 1)

theorem test_meets_CalibrationSetClampsTestsAndApplies :
    ((asking .s 6 (calPayload 0 1 524287) patrol).Asks .s (asked 6 (calPayload 0 1 524287)) 6 (calPayload 0 1 524287)
      ∧ ¬ 1 < 1)
    ∧ ((asking .s 6 (calPayload 0 2 4294967295) patrol).Asks .s (asked 6 (calPayload 0 2 4294967295)) 6
        (calPayload 0 2 4294967295) ∧ 4294967295 < 4294967296 ∧ (asking .s 6 (calPayload 0 2 4294967295) patrol).settleHolds = true)
    ∧ ((asking .s 6 [15, 0] passage).Asks .s (asked 6 [15, 0]) 6 [15, 0] ∧ (asking .s 6 [15, 0] passage).settleHolds = false) :=
  ⟨⟨asking_asks .., by decide⟩, ⟨asking_asks .., by decide, by decide⟩, ⟨asking_asks .., by decide⟩⟩

/-- The state with one request in the queue of port S, which runs a stream of slot 0. -/
def streamedAsking (kind : Byte) (payload : List Byte) (s : State) : State :=
  s.withPort .s { PortMachine.reset with requests := [asked kind payload], stream := some (streaming 4) }

theorem test_meets_StreamAndReleaseOfFinishedSlots :
    (stored .complete patrol).rps.slots[(0 : Fin 4)] = some { st := .complete, report := report 1 0 }
    ∧ (stored .released patrol).rps.slots[(0 : Fin 4)] = some { st := .released, report := report 1 0 }
    ∧ ((asking .s 13 [0] (stored .released patrol)).Asks .s (asked 13 [0]) 13 [0]
      ∧ ((asking .s 13 [0] (stored .released patrol)).mpc.ports.get .s).stream = none)
    ∧ (asking .s 14 [0] (stored .complete patrol)).Asks .s (asked 14 [0]) 14 [0]
    ∧ (∀ payload ∈ [[(0 : Byte)], [3]],
      (streamedAsking 13 payload (stored .complete patrol)).Asks .s (asked 13 payload) 13 payload
      ∧ ((streamedAsking 13 payload (stored .complete patrol)).mpc.ports.get .s).Room 1
      ∧ ((streamedAsking 13 payload (stored .complete patrol)).mpc.ports.get .s).stream = some (streaming 4)) :=
  ⟨by decide, by decide, ⟨asking_asks .., rfl⟩, asking_asks ..,
    fun _ _ => ⟨⟨rfl, rfl, rfl, fun _ => rfl⟩, ⟨rfl, fun _ => rfl, (by decide : 0 + 1 ≤ 16)⟩, rfl⟩⟩

/-- R172, R175: a TRAIN STREAM refused by its length or its slot number leaves the running stream alone; one that comes to the
store ends it. -/
theorem test_refused_stream_runs_on :
    [[], [4], [3], [(0 : Byte)]].map (fun payload =>
      ((after (.trainStream .s) (streamedAsking 13 payload (stored .complete patrol))).mpc.ports.get .s).stream.map (·.nextPage))
    = [some 4, some 4, none, some 0] := by
  decide +kernel

/-- An alert entry of the level NOTICE. -/
def entry (n : Nat) : AlertEntry := { number := n, draft := noticeAlert .calFailed none (some .a) 0, time := 0 }

/-- A site in PATROL whose NOTICE level holds `n` entries. -/
def alerted (n : Nat) : State :=
  { patrol with atq := { Atq.reset with queues := { Atq.reset.queues with notice := List.replicate n (entry 1) }, number := 65535 } }

theorem test_meets_AlertsArePostedAndTaken :
    ((alerted 0).Room 1 ∧ (alerted 31).Room 1 ∧ (alerted 32).Room 1 ∧ 32 ≤ ((alerted 32).atq.queues.get .notice).length)
    ∧ ((alerted 1).atq.queues.get .notice = entry 1 :: []
      ∧ (asking .s 15 [0] (alerted 1)).Asks .s (asked 15 [0]) 15 [BitVec.ofNat 8 AlertLevel.notice.code]
      ∧ (asking .s 15 [4] (alerted 1)).Asks .s (asked 15 [4]) 15 [4]
      ∧ ∀ l : AlertLevel, AlertLevel.notice.code < l.code → (alerted 1).atq.queues.get l = [])
    ∧ ((alerted 1).atq.queues.get .critical = []
      ∧ (asking .s 15 [3] (alerted 1)).Asks .s (asked 15 [3]) 15 [BitVec.ofNat 8 AlertLevel.critical.code])
    ∧ ((∀ l : AlertLevel, (alerted 0).atq.queues.get l = []) ∧ (asking .s 15 [4] (alerted 0)).Asks .s (asked 15 [4]) 15 [4]) :=
  ⟨⟨⟨room_of (by decide), room_of (by decide)⟩, ⟨room_of (by decide), room_of (by decide)⟩,
      ⟨room_of (by decide), room_of (by decide)⟩, by decide⟩,
    ⟨rfl, asking_asks .., asking_asks .., fun l => by cases l <;> decide⟩, ⟨rfl, asking_asks ..⟩,
    ⟨fun l => by cases l <;> rfl, asking_asks ..⟩⟩

/-! ## The site -/

/-- A SITE CONTROL request of an action on port S. -/
def control (action : Byte) (s : State) : State := asking .s 3 [action] s

/-- OFFLINE with the dormancy setting on. -/
def offlineDormant : State := { State.reset with ssq := { Ssq.reset with dormancy := true } }

/-- A passage with disable-pending set. -/
def leavingPassage : State := { passage with ssq := { passage.ssq with disablePending := true } }

theorem test_meets_EnableBringsIntoService :
    (∀ s ∈ [State.reset, offlineDormant, level true State.reset, leavingPassage, patrol, passage],
      (control 0 s).Asks .s (asked 3 [0]) 3 [0])
    ∧ (∀ s ∈ [State.reset, offlineDormant, level true State.reset, leavingPassage, patrol, passage],
      (siteOkB (control 0 s) && nodesOkB (control 0 s) && roomB 2 (control 0 s).mpc.ports.s && roomB 2 (control 0 s).mpc.ports.m)
        = true)
    ∧ (State.reset.ssq.site = .offline ∧ State.reset.ssq.dormancy = false ∧ State.reset.levelMode = false)
    ∧ (offlineDormant.ssq.site = .offline ∧ offlineDormant.ssq.dormancy = true ∧ offlineDormant.levelMode = false)
    ∧ ((level true State.reset).ssq.site = .offline ∧ (level true State.reset).levelMode = true
      ∧ (level true State.reset).ssq.approachInput = true)
    ∧ (leavingPassage.ssq.site = .passage ∧ leavingPassage.ssq.disablePending = true)
    ∧ (patrol.ssq.site ≠ .offline ∧ (passage.ssq.site = .passage → passage.ssq.disablePending = false)) :=
  ⟨fun _ _ => asking_asks .., by decide, by decide, by decide, by decide, by decide, by decide⟩

theorem test_meets_DisableTakesOutOfService :
    (∀ s ∈ [patrol, dormant, armed, sweeping, passage, State.reset], (control 1 s).Asks .s (asked 3 [1]) 3 [1])
    ∧ (∀ s ∈ [patrol, dormant, armed, sweeping, passage, State.reset],
      (siteOkB (control 1 s) && nodesOkB (control 1 s) && roomB 1 (control 1 s).mpc.ports.s && roomB 1 (control 1 s).mpc.ports.m)
        = true)
    ∧ [patrol, dormant, armed, sweeping, passage, State.reset].map (·.ssq.site) =
        [.patrol, .dormant, .armed, .sweep, .passage, .offline] :=
  ⟨fun _ _ => asking_asks .., by decide, by decide⟩

/-- The state with the approach input active and LEVEL pending. -/
def carrying (s : State) : State :=
  { s with
    ssq := { s.ssq with approachInput := true }
    mpc := { s.mpc with pendingCfg := s.mpc.pendingCfg.set Item.approachMode.idx (some 1) } }

theorem test_meets_DormancyActions :
    (∀ s ∈ [patrol, dormant, armed, sweeping, passage, State.reset, carrying sweeping],
      (control 2 s).Asks .s (asked 3 [2]) 3 [2] ∧ (control 3 s).Asks .s (asked 3 [3]) 3 [3])
    ∧ (∀ s ∈ [patrol, dormant, armed, sweeping, passage, State.reset, carrying sweeping],
      (siteOkB (control 3 s) && nodesOkB (control 3 s) && roomB 2 (control 3 s).mpc.ports.s && roomB 2 (control 3 s).mpc.ports.m)
        = true)
    ∧ ((carrying sweeping).ssq.site = .sweep ∧ (carrying sweeping).anyClosing = false
      ∧ (carrying sweeping).futureCfg .approachMode = 1 ∧ (carrying sweeping).ssq.approachInput = true
      ∧ sweeping.ssq.approachInput = false) :=
  ⟨fun _ _ => ⟨asking_asks .., asking_asks ..⟩, by decide, by decide⟩

theorem test_meets_RestartClearsMeasuring :
    (∀ s ∈ [patrol, dormant, passage, leavingPassage, stored .closing patrol, State.reset, carrying passage],
      (control 4 s).Asks .s (asked 3 [4]) 3 [4])
    ∧ (∀ s ∈ [patrol, dormant, passage, leavingPassage, stored .closing patrol, State.reset, carrying passage]
          |>.map (control 4) |>.concat (streamedAsking 3 [4] passage),
      (siteOkB s && nodesOkB s && slotsOkB s && roomB 7 s.mpc.ports.s && roomB 7 s.mpc.ports.m) = true)
    ∧ (streamedAsking 3 [4] passage).Asks .s (asked 3 [4]) 3 [4]
    ∧ ((carrying passage).futureCfg .approachMode = 1 ∧ (carrying passage).ssq.approachInput = true
      ∧ (carrying passage).ssq.site ≠ .offline ∧ (carrying passage).ssq.disablePending = false) :=
  ⟨fun _ _ => asking_asks .., by decide, ⟨rfl, rfl, rfl, fun _ => rfl⟩, by decide⟩

/-- States that meet the premises of a statement about the site. -/
def meetsSite (n : Nat) (s : State) : Bool := siteOkB s && nodesOkB s && roomB n s.mpc.ports.s && roomB n s.mpc.ports.m

theorem test_meets_ApproachRisingEdgeArms :
    ∀ s ∈ [patrol, sweeping, dormant, armed, level true armed, level false patrol, passage, State.reset],
      s.SiteOk ∧ s.NodesOk ∧ s.Room 1 :=
  fun s hs => site_of (by revert s; decide)

theorem roomToRest_of {s : State} (h : (roomB 2 s.mpc.ports.s && roomB 2 s.mpc.ports.m) = true) : s.RoomToRest := by
  rw [Bool.and_eq_true] at h
  exact .inl ⟨room_of h.1, room_of h.2⟩

theorem test_meets_FalseApproachReturnsToPatrol :
    (∀ s ∈ [armed, carrying armed], s.SiteOk ∧ s.NodesOk ∧ s.Room 2)
    ∧ (armed.ssq.armTimer = some 60000000 ∧ (carrying armed).ssq.armTimer = some 60000000 ∧ (armed.Room 1 ∧ armed.staysAtRest)
      ∧ (carrying armed).futureCfg .approachMode = 1 ∧ (carrying armed).ssq.approachInput = true)
    ∧ (patrol.SiteOk ∧ patrol.NodesOk ∧ patrol.Room 1) ∧ patrol.ssq.armTimer = none
    ∧ ((level true (serving .armed)).SiteOk ∧ (level true (serving .armed)).NodesOk ∧ (level true (serving .armed)).Room 1)
    ∧ (level true (serving .armed)).levelMode = true ∧ (level true (serving .armed)).ssq.site = .armed
    ∧ patrol.levelMode = false :=
  ⟨fun s hs => site_of (by revert s; decide), ⟨by decide, by decide, ⟨(site_of (n := 1) (by decide)).2.2, .inl rfl⟩, by decide⟩,
    site_of (by decide), by decide, site_of (by decide), by decide, by decide, by decide⟩

theorem test_meets_DormancyTimersMoveTheSite :
    (∀ s ∈ [dormant, sweeping, resting, armed, carrying sweeping], s.SiteOk ∧ s.NodesOk ∧ s.Room 1)
    ∧ dormant.ssq.sweepTimer = some 60000000 ∧ sweeping.ssq.sweepDurTimer = some 3000000 ∧ sweeping.RoomToRest
    ∧ ((carrying sweeping).ssq.sweepDurTimer = some 3000000 ∧ (carrying sweeping).RoomToRest
      ∧ (carrying sweeping).futureCfg .approachMode = 1 ∧ (carrying sweeping).ssq.approachInput = true)
    ∧ resting.ssq.restTimer = some 20000000
    ∧ armed.ssq.sweepTimer = none ∧ armed.ssq.sweepDurTimer = none ∧ armed.ssq.restTimer = none :=
  ⟨fun s hs => site_of (by revert s; decide), by decide, by decide, roomToRest_of (by decide),
    ⟨by decide, roomToRest_of (by decide), by decide⟩, by decide, by decide, by decide, by decide⟩

/-- R3 and the sequence of 1.9: the sweep's end sends stream-off over the six links, a wake sends stream-on, a move from DORMANT to
OFFLINE sends nothing. -/
theorem test_stream_commands :
    [after .sweepDurationExpiry sweeping, after (.approachRisingEdge 5) dormant, after (.disable .s) (control 1 dormant)].map
      (fun s => (s.nodes.toList.map (·.sent), s.tsu.scanners.a.sent, s.tsu.scanners.b.sent)) =
    [(List.replicate 4 [.streamOn, .streamOff], [.streamOn, .streamOff], [.streamOn, .streamOff]),
     (List.replicate 4 [.streamOn], [.streamOn], [.streamOn]), (List.replicate 4 [], [], [])] := by
  decide +kernel

/-! ## The axle tracker -/

/-- An open capture of slot 0 that has covered a distance, with `low` samples below Toff. -/
def openCapture (axle : Option Nat) (distance low : Nat) : Capture :=
  { slot := 0, axle := axle, move := axle.map fun _ => .forward, dir := .east, speed := 10000, staleAtOpen := false,
    defaultAtOpen := false, distance := distance, peak := 1200, plateauSum := 0, plateauCount := 0, lowCount := low,
    gapCount := 0, gapped := false, saturated := false, reversed := false }

/-- A gate pair of a moving train, or of a halted one, for an axle. -/
def gatePair (axle : Option Nat) (clock : GateClock) : GatePair :=
  let q : Gate := { count := 0, peak := none, gapCount := 0, gapped := false, calNone := false, calAged := false }
  { axle := axle, move := axle.map fun _ => .forward, dir := .east, clock := clock, gates := { a := some q, b := some q },
    undone := false, stored := false, urgent := false }

/-- A passage of `t` with a gate pair open. -/
def gatedPassage (t : OpenTrain) (p : GatePair) : State :=
  { passageOf t with tsu := { (passageOf t).tsu with pair := some p } }

theorem wake_of {s : State}
    (h : (siteOkB s && nodesOkB s && roomB 2 s.mpc.ports.s && roomB 2 s.mpc.ports.m) = true) :
    s.SiteOk ∧ s.NodesOk ∧ s.RoomToWake :=
  have h1 := site_of h
  ⟨h1.1, h1.2.1, fun _ => .inl h1.2.2⟩

/-- A passage whose port S is in a break: no notice of it would be sent. -/
def unroomed : State := passage.withPort .s { passage.mpc.ports.s with broken := true }

theorem test_meets_FirstAndRepeatedEdgesAreHeld :
    (∀ s ∈ [State.reset, patrol, dormant, sweeping, armed, passage, withPair .west heldOuter patrol, level true passage,
        level true armed, carrying dormant, carrying sweeping],
      s.SiteOk ∧ s.NodesOk ∧ s.RoomToWake)
    ∧ (unroomed.RoomToWake ∧ unroomed.ssq.site = .passage)
    ∧ State.reset.ssq.site = .offline
    ∧ (PairMachine.reset.foundAt 5).completes 5 true = none ∧ (heldOuter.foundAt 5).completes 5 true = none
    ∧ (heldOuter.foundAt 2001001).completes 2001001 false = none :=
  ⟨fun s hs => wake_of (by revert s; decide), ⟨fun h => absurd h (by decide), rfl⟩, by decide, by decide, by decide, by decide⟩

theorem test_meets_RejectedAndStrayCrossingsAreCounted :
    (∀ s ∈ [withPair .west heldOuter patrol, withPair .west heldInner patrol, withPair .west heldOuter passage,
        level true (withPair .west heldOuter armed), withPair .west heldOuter (carrying sweeping)],
      s.SiteOk ∧ s.NodesOk ∧ s.RoomToWake)
    ∧ (let s := withPair .west heldOuter patrol
       (s.axt.pairs.west.foundAt 1000).completes 1000 false = some (true, 0)
       ∧ (s.axt.pairs.west.foundAt 5999).completes 5999 false = some (true, 4999)
       ∧ 50000 < s.cfg .dpair * 1000000 / 4999 ∧ ¬ 50000 < s.cfg .dpair * 1000000 / 5000)
    ∧ (withPair .west heldInner patrol).Crosses .wo 6000 .west false 50000
    ∧ (withPair .west heldInner patrol).axt.train = none :=
  ⟨fun s hs => wake_of (by revert s; decide), by decide,
    ⟨rfl, ⟨5000, by decide, by decide, by decide⟩, by decide, by decide⟩, by decide⟩

theorem test_meets_InwardCrossingStartsATrain :
    (∀ s ∈ [withPair .west heldOuter patrol, withPair .west heldOuter dormant, withPair .west heldOuter armed],
      s.SiteOk ∧ s.NodesOk ∧ s.Room 4)
    ∧ (∀ s ∈ [withPair .west heldOuter patrol, withPair .west heldOuter dormant, withPair .west heldOuter armed],
      s.ssq.site ≠ .offline ∧ s.axt.train = none ∧ s.chooseSlot = some 0)
    ∧ (withPair .west heldOuter patrol).Crosses .wi 6000 .west true 50000
    ∧ (withPair .west heldOuter dormant).Crosses .wi 26000 .west true 10000
    ∧ (withPair .west heldOuter armed).Crosses .wi 2001000 .west true 125 :=
  ⟨fun s hs => site_of (by revert s; decide), by decide,
    ⟨rfl, ⟨5000, by decide, by decide, by decide⟩, by decide, by decide⟩,
    ⟨rfl, ⟨25000, by decide, by decide, by decide⟩, by decide, by decide⟩,
    ⟨rfl, ⟨2000000, by decide, by decide, by decide⟩, by decide, by decide⟩⟩

/-- A state whose four slots are held in given states, slot 2 the oldest. -/
def fullStore (a b c d : SlotState) : State :=
  let slot (st : SlotState) (k : Fin 4) : Option HeldSlot := some { st := st, report := report 1 k }
  { patrol with rps := { Rps.reset with slots := #v[slot a 0, slot b 1, slot c 2, slot d 3], order := [2, 0, 1, 3] } }

/-- A full store whose slot 2 is taken next, while port M streams that slot and the sweep serves it. -/
def overwriting (st : SlotState) : State :=
  withPair .west heldOuter ({ fullStore st st st st with
    evu := { Evu.reset with sweepQueue := if st = SlotState.closing then [2, 0, 1, 3] else [] } }.withPort .m
      { PortMachine.reset with stream := some { slot := 2, number := 1, tag := 5, nextPage := 3 } })

theorem test_meets_InwardCrossingStartsATrain_overwriting :
    ∀ st ∈ [SlotState.complete, .released, .closing],
      ((overwriting st).SiteOk ∧ (overwriting st).NodesOk ∧ (overwriting st).Room 4)
      ∧ ((overwriting st).ssq.site ≠ .offline ∧ (overwriting st).axt.train = none ∧ (overwriting st).chooseSlot = some 2
        ∧ (overwriting st).atq.queues.notice = [] ∧ ((overwriting st).cfg .maskS).testBit 0 = true)
      ∧ (overwriting st).Crosses .wi 26000 .west true 10000 :=
  fun st hst => ⟨site_of (by revert st; decide), by revert st; decide,
    ⟨rfl, ⟨25000, by decide, by revert st; decide, by revert st; decide⟩, by decide, by decide⟩⟩

theorem test_meets_SlotChoiceFollowsTheOrder :
    (patrol.rps.slots[(0 : Fin 4)] = none ∧ ∀ j : Fin 4, j < 0 → patrol.rps.slots[j] ≠ none)
    ∧ (let s := fullStore .complete .released .complete .released
       (∀ j : Fin 4, s.rps.slots[j] ≠ none) ∧ s.rps.order = [2, 0] ++ 1 :: [3]
         ∧ (∃ h, s.rps.slots[(1 : Fin 4)] = some h ∧ h.st = .released)
         ∧ ∀ j ∈ ([2, 0] : List (Fin 4)), s.slotIs .released j = false)
    ∧ (let s := fullStore .complete .closing .closing .filling
       (∀ j : Fin 4, s.rps.slots[j] ≠ none) ∧ (∀ j : Fin 4, s.slotIs .released j = false) ∧ s.rps.order = [2] ++ 0 :: [1, 3]
         ∧ (∃ h, s.rps.slots[(0 : Fin 4)] = some h ∧ h.st = .complete) ∧ s.slotIs .complete 2 = false)
    ∧ (let s := fullStore .closing .closing .closing .filling
       (∀ j : Fin 4, s.slotIs .released j = false ∧ s.slotIs .complete j = false) ∧ s.rps.order = [] ++ 2 :: [0, 1, 3]
         ∧ ∃ h, s.rps.slots[(2 : Fin 4)] = some h ∧ h.st = .closing) :=
  ⟨by decide, ⟨by decide, rfl, ⟨_, rfl, rfl⟩, by decide⟩, ⟨by decide, by decide, rfl, ⟨_, rfl, rfl⟩, by decide⟩,
    ⟨by decide, rfl, ⟨_, rfl, rfl⟩⟩⟩

/-- A passage of `t` whose machine of a pair holds a first edge. -/
def crossingOf (t : OpenTrain) (pr : Pair) (m : PairMachine) : State := withPair pr m (passageOf t)

theorem test_meets_CrossingMovesTheOpenTrain :
    ((crossingOf train .west heldOuter).SiteOk ∧ (crossingOf train .west heldOuter).axt.train = some train
      ∧ (crossingOf train .west heldOuter).Crosses .wi 26000 .west true 10000)
    ∧ ((crossingOf { train with n := 0, x := 0 } .west heldInner).SiteOk
      ∧ (crossingOf { train with n := 0, x := 0 } .west heldInner).Crosses .wo 26000 .west false 10000
      ∧ train.entry = .west ∧ 0 ≤ 0)
    ∧ ((crossingOf { train with x := 2 } .east heldInner).SiteOk
      ∧ (crossingOf { train with x := 2 } .east heldInner).Crosses .eo 26000 .east false 10000 ∧ train.n ≤ 2) :=
  ⟨⟨siteOk_of (by decide), rfl, ⟨rfl, ⟨25000, by decide, by decide, by decide⟩, by decide, by decide⟩⟩,
    ⟨siteOk_of (by decide), ⟨rfl, ⟨25000, by decide, by decide, by decide⟩, by decide, by decide⟩, rfl, by decide⟩,
    ⟨siteOk_of (by decide), ⟨rfl, ⟨25000, by decide, by decide, by decide⟩, by decide, by decide⟩, by decide⟩⟩

/-- A passage of `t` with pointers of 2 at channel 0 and the gates, a capture and a gate pair open, and a first edge of the
western pair held. -/
def busyCrossing (t : OpenTrain) (clock : GateClock) (m : PairMachine) : State :=
  let s := crossingOf t .west m
  { s with
    units := s.units.set 0 { CaptureUnit.reset with pointer := 2, capture := some (openCapture (some 1) 100000 0) }
    tsu := { s.tsu with pointer := 2, pair := some (gatePair (some 1) clock) } }

/-- The train that backs out, halts or has just crossed the other pair the other way. -/
theorem test_meets_CrossingMovesTheOpenTrain_busy :
    (∀ x ∈ [(train, GateClock.running 40000), ({ train with lastCross := { west := none, east := some (20000, .east) } }, .running 40000),
        ({ train with x := 2 }, .running 40000), ({ halted with lastDir := .reverse }, .held 9000)],
      (busyCrossing x.1 x.2 heldInner).SiteOk ∧ (busyCrossing x.1 x.2 heldInner).SlotsOk
      ∧ (busyCrossing x.1 x.2 heldInner).axt.train = some x.1
      ∧ (busyCrossing x.1 x.2 heldInner).Crosses .wo 26000 .west false 10000)
    ∧ (∀ x ∈ [(train, GateClock.running 40000), ({ train with x := 2 }, .running 40000), ({ halted with lastDir := .reverse }, .held 9000)],
      (busyCrossing x.1 x.2 heldInner).rps.slots[x.1.slot] = some { st := .filling, report := report 1 0 })
    ∧ travelDirection .west false ≠ train.d0 ∧ (report 1 0).axles[(1 : Nat)]? = some axle1 :=
  ⟨fun x hx => ⟨siteOk_of (by revert x; decide), slotsOk_of (by revert x; decide), rfl,
      ⟨rfl, ⟨25000, by decide, by revert x; decide, by revert x; decide⟩, by decide, by decide⟩⟩, by decide, by decide, by decide⟩

theorem test_meets_ForwardEntryWritesTheAxle :
    (∀ t ∈ [train, { train with n := 1 }, { train with n := 511, h := 511 }, { train with n := 512, h := 512 },
        { train with n := 65534, h := 65534 }],
      (crossingOf t .west heldOuter).SiteOk ∧ (crossingOf t .west heldOuter).axt.train = some t
      ∧ (crossingOf t .west heldOuter).Crosses .wi 26000 t.entry true 10000)
    ∧ (∀ t ∈ [train, { train with n := 1 }, { train with n := 511, h := 511 }, { train with n := 512, h := 512 },
        { train with n := 65534, h := 65534 }],
      t.d0 = travelDirection t.entry true ∧ t.n < 65535 ∧ t.lastDir = .forward
      ∧ (crossingOf t .west heldOuter).rps.slots[t.slot] = some { st := .filling, report := report 1 0 }
      ∧ (report 1 0).header.number = t.number) :=
  ⟨fun t ht => ⟨siteOk_of (by revert t; decide), rfl,
      ⟨by revert t; decide, ⟨25000, by decide, by revert t; decide, by revert t; decide⟩, by decide, by decide⟩⟩, by decide⟩

theorem test_meets_ForwardEntryWritesTheAxle_reversal :
    (let t : OpenTrain := { train with lastDir := .reverse, motion := .movingRev }
     let s := busyCrossing t (.running 40000) heldOuter
     s.SiteOk ∧ s.axt.train = some t ∧ s.Crosses .wi 26000 .west true 10000
       ∧ ∃ h, (({ s with axt := { s.axt with train := some { t with lastDir := .forward } } } : State).closeGates true).rps.slots[
           (0 : Fin 4)] = some h ∧ h.st = .filling ∧ h.report.header.number = 1) :=
  ⟨siteOk_of (by decide), rfl, ⟨rfl, ⟨25000, by decide, by decide, by decide⟩, by decide, by decide⟩, _, rfl, rfl, rfl⟩

theorem test_meets_ReverseExitTakesAnAxleBack :
    (let s := crossingOf { train with x := 1 } .east heldOuter
     s.SiteOk ∧ s.axt.train = some { train with x := 1 } ∧ s.Crosses .ei 26000 .east true 10000 ∧ s.tsu.pair = none)
    ∧ (let s := crossingOf { train with lastDir := .reverse, motion := .movingRev } .east heldOuter
       s.SiteOk ∧ s.Crosses .ei 26000 .east true 10000 ∧ travelDirection .east true ≠ train.d0) :=
  ⟨⟨siteOk_of (by decide), rfl, ⟨rfl, ⟨25000, by decide, by decide, by decide⟩, by decide, by decide⟩, rfl⟩,
    ⟨siteOk_of (by decide), ⟨rfl, ⟨25000, by decide, by decide, by decide⟩, by decide, by decide⟩, by decide⟩⟩

/-- A passage of `t` with vehicles open, newest first, and the western pair holding a first edge. -/
def segmented (t : OpenTrain) (vehicles : List SegVehicle) (m : PairMachine) : State :=
  let s := crossingOf t .west m
  { s with vsg := { s.vsg with vehicles := vehicles } }

/-- A vehicle's first axle as the segmenter holds it. -/
def from_ (first : Nat) : SegVehicle := { first := first, deficitMark := false }

/-- A pair machine that holds the first edge of the outer sensor 25 ms before 320 ms. -/
def heldLate : PairMachine := { PairMachine.reset with st := .outerFirst 295000, timer := some 2295000 }

theorem test_meets_VehiclesFollowTheAxles :
    (∀ x ∈ [(train, [from_ 0]), ({ train with n := 0, x := 0 }, [from_ 0]), (train, [from_ 1, from_ 0]),
        (train, [from_ 0, from_ 1]), ({ train with x := 2 }, [from_ 0]), ({ train with n := 65535, h := 65535 }, [from_ 0]),
        (train, from_ 1 :: List.replicate 254 (from_ 0)), (train, from_ 1 :: List.replicate 255 (from_ 0)),
        (train, from_ 1 :: List.replicate 256 (from_ 0)), (train, from_ 1 :: List.replicate 257 (from_ 0))],
      ((segmented x.1 x.2 heldOuter).SiteOk ∧ (segmented x.1 x.2 heldOuter).SlotsOk
        ∧ (segmented x.1 x.2 heldOuter).axt.train = some x.1 ∧ (segmented x.1 x.2 heldOuter).Crosses .wi 26000 .west true 10000)
      ∧ ((segmented x.1 x.2 heldInner).SiteOk ∧ (segmented x.1 x.2 heldInner).SlotsOk
        ∧ (segmented x.1 x.2 heldInner).axt.train = some x.1 ∧ (segmented x.1 x.2 heldInner).Crosses .wo 26000 .west false 10000)
      ∧ (segmented x.1 x.2 heldInner).vsg.vehicles = x.2)
    ∧ ((segmented train [from_ 0] heldLate).Crosses .wi 320000 .west true 10000
      ∧ ((segmented train [from_ 0] heldLate).entrySpacing 2 10000 320000).map Prod.snd = some SpacingClass.mid
      ∧ ((segmented train [from_ 0] heldOuter).entrySpacing 2 10000 26000).map Prod.snd = some SpacingClass.short)
    ∧ (segmented train [from_ 0] heldOuter).rps.slots[(0 : Fin 4)] = some { st := .filling, report := report 1 0 }
    ∧ (segmented train [from_ 0] heldOuter).vsg.history = [] ++ .short :: [] :=
  ⟨fun x hx => ⟨⟨siteOk_of (by revert x; decide), slotsOk_of (by revert x; decide), rfl,
        ⟨rfl, ⟨25000, by decide, by revert x; decide, by revert x; decide⟩, by decide, by decide⟩⟩,
      ⟨siteOk_of (by revert x; decide), slotsOk_of (by revert x; decide), rfl,
        ⟨rfl, ⟨25000, by decide, by revert x; decide, by revert x; decide⟩, by decide, by decide⟩⟩, rfl⟩,
    ⟨⟨rfl, ⟨25000, by decide, by decide, by decide⟩, by decide, by decide⟩, by decide, by decide⟩, by decide, by decide⟩

theorem test_meets_SpacingsAndForms :
    (passage.vsg.reference = some (10000, 0) ∧ 0 ≤ 220000 ∧ passage.vsg.interrupted = false
      ∧ 100 * (max 10000 10000 - min 10000 10000) ≤ passage.cfg .speedTol * max 10000 10000)
    ∧ (passage.cfg .speedTol * max 10000 7499 < 100 * (max 10000 7499 - min 10000 7499)
      ∧ 100 * (max 10000 7500 - min 10000 7500) ≤ passage.cfg .speedTol * max 10000 7500)
    ∧ ((∀ c ∈ [SpacingClass.short, .long, .short], c ≠ .mid) ∧ [SpacingClass.mid, .short].head? = some .mid
      ∧ ([SpacingClass.short, .long, .short] ++ [SpacingClass.mid, .short]).length ≤ 6)
    ∧ (∀ c ∈ [SpacingClass.short, .short, .long, .short, .short, .short], c ≠ .mid) := by
  decide

theorem test_meets_GateEdgeOpensBothGates :
    (∀ s ∈ [State.reset, patrol, sweeping, dormant, armed, passage, passageOf halted,
        gatedPassage train (gatePair (some 0) (.running 40000)), level true passage, carrying sweeping],
      s.SiteOk ∧ s.NodesOk ∧ s.RoomToWake)
    ∧ (State.reset.ssq.site = .offline ∧ patrol.axt.train = none ∧ passage.axt.train = some train ∧ passage.tsu.pair = none
      ∧ train.motion ≠ .halted ∧ passage.tsu.pointer < train.n)
    ∧ ((passageOf halted).axt.train = some halted ∧ (passageOf halted).tsu.pair = none)
    ∧ ((gatedPassage train (gatePair (some 0) (.running 40000))).axt.train ≠ none
      ∧ (gatedPassage train (gatePair (some 0) (.running 40000))).tsu.pair ≠ none) :=
  ⟨fun s hs => wake_of (by revert s; decide), by decide, by decide, by decide⟩

theorem test_meets_PairAndHaltTimersExpire :
    ((withPair .east heldInner patrol).axt.pairs.get .east).timer = some 2001000
    ∧ (patrol.axt.pairs.get .east).timer = none
    ∧ (passage.axt.train = some train ∧ train.haltTimer = some 2000000 ∧ train.motion ≠ .halted
      ∧ passage.rps.slots[train.slot] = some { st := .filling, report := report 1 0 }
      ∧ (report 1 0).header.number = train.number)
    ∧ ((passageOf halted).axt.train = some halted ∧ halted.haltTimer = none) := by
  decide

/-- A passage of `t` with captures open on channels 0 and 1, the second after a low sample, and channel 15 seen stale. -/
def closingPassage (t : OpenTrain) : State :=
  let s := passageOf t
  let holding (c : Capture) : CaptureUnit := { CaptureUnit.reset with capture := some c }
  let units := (s.units.set 0 (holding (openCapture (some 0) 7820000 0))).set 1 (holding (openCapture (some 0) 100000 1))
  { s with units := units.set 15 { CaptureUnit.reset with staleSeen := true } }

theorem test_meets_TrainClosure_captures :
    (closingPassage { train with x := 2 }).SiteOk ∧ (closingPassage { train with x := 2 }).NodesOk
    ∧ (closingPassage { train with x := 2 }).SlotsOk
    ∧ (let s := closingPassage { train with x := 2 }
       (s.units[(0 : Fin 16)]).capture = some (openCapture (some 0) 7820000 0)
         ∧ (s.units[(1 : Fin 16)]).capture = some (openCapture (some 0) 100000 1)
         ∧ (openCapture (some 0) 100000 1).distance < s.cfg .lmin * 10000 ∧ (s.units[(15 : Fin 16)]).staleSeen = true
         ∧ s.vsg.vehicles = { first := 0, deficitMark := false } :: [] ∧ 0 < train.n
         ∧ (s.evu.lanes.get .vehicle).length < 16) :=
  ⟨siteOk_of (by decide), nodesOk_of (by decide), slotsOk_of (by decide), by decide⟩

theorem test_meets_TrainClosure :
    (∀ t ∈ [{ train with x := 2 }, { train with n := 0 }, train, { halted with x := 2 }, { halted with n := 0 }, halted],
      (passageOf t).SiteOk ∧ (passageOf t).NodesOk ∧ (passageOf t).SlotsOk ∧ (passageOf t).axt.train = some t)
    ∧ (∀ t ∈ [{ train with x := 2 }, { train with n := 0 }, train, { halted with x := 2 }, { halted with n := 0 }, halted],
      (passageOf t).rps.slots[t.slot] = some { st := .filling, report := report 1 0 } ∧ t.clearTimer = some 20000000)
    ∧ (halted.standTimer = some 900000000 ∧ train.standTimer = none ∧ { train with clearTimer := none }.clearTimer = none)
    ∧ (train.x ≠ train.h ∧ train.n ≠ 0 ∧ { train with x := 2 }.x = { train with x := 2 }.h) :=
  ⟨fun t ht => ⟨siteOk_of (by revert t; decide), nodesOk_of (by revert t; decide), slotsOk_of (by revert t; decide), rfl⟩,
    by decide, by decide, by decide⟩

/-- R128: a vehicle closed with no axle leaves its evaluation in flight marked changed, its record is INCOMPLETE. -/
theorem test_empty_close_marks_changed :
    (let e : Evaluation :=
       { req := { lane := .vehicle, slot := 0, number := 1, target := 0, urgent := false }
         coverage := { slot := 0, first := 0, count := 1 }, snapshot := .vehicle none, config := Item.defaults, changed := false
         removed := false }
     let s := passageOf { train with n := 0 }
     let u := after .clearTimerExpiry { s with evu := { s.evu with evals := s.evu.evals.set 0 (some e) } }
     (u.evu.evals[(0 : Fin 2)]).map (·.changed) = some true ∧ u.evu.lanes.vehicle = []
       ∧ ((u.rps.slots[(0 : Fin 4)]).map fun h => h.report.vehicles.map fun v => (v.isOpen, v.count, v.quality)) =
         some [(false, 0, some Quality.incomplete)]) := by
  decide +kernel

/-- A passage ready to close, with disable-pending, the dormancy setting and the latch as given. -/
def closable (disabling dormancy latch : Bool) : State :=
  let s := closingPassage { halted with x := 2 }
  { s with ssq := { s.ssq with disablePending := disabling, dormancy := dormancy, latch := latch } }

/-- Every way a closure can take the site, with a stale channel to announce. -/
theorem test_meets_TrainClosure_site :
    (∀ a b c : Bool, ∀ s ∈ [closable a b c, level true (closable a b c)],
      (s.SiteOk ∧ s.NodesOk ∧ s.Room 3) ∧ s.SlotsOk ∧ s.axt.train = some { halted with x := 2 })
    ∧ ((closable false true true).levelMode = false ∧ (level true (closable false true false)).levelMode = true
      ∧ (closable false true true).atq.queues.get .notice = []
      ∧ ((closable false true true).cfg .maskS).testBit 0 = true ∧ ((closable false true true).cfg .maskM).testBit 0 = false) :=
  ⟨fun a b c s hs => ⟨site_of (by revert a b c s; decide), slotsOk_of (by revert a b c s; decide), by revert a b c s; decide⟩,
    by decide⟩

/-! ## Gauge links and captures -/

/-- A gauge frame of link 0 whose four samples are 1000 and whose sequence is as given. -/
def gauge0 (seq : Byte) : GaugeFrame := gauge seq (Vector.replicate 4 1000)

theorem gauge0_good (seq : Byte) : goodGaugeFrame 0 (.frame (gauge0 seq)) = some (gauge0 seq) := by
  have h : gaugeFrameGood 0 (gauge0 seq) = true := by
    simp only [gaugeFrameGood, gauge0, gauge, Bool.and_eq_true, beq_iff_eq]
    exact ⟨rfl, rfl⟩
  simp [goodGaugeFrame, h]

/-- A site in PATROL whose gauge node 0 is as given. -/
def withNode (n : GaugeNode) (s : State) : State := { s with nodes := s.nodes.set 0 n }

/-- A LOST node whose settle discard is over, before the frame that re-synchronises it. -/
def nodeBack : GaugeNode := { nodeOn with status := .lost, prev := some 77, lossTimer := none }

theorem test_meets_GaugeFrameMovesItsNode :
    (State.reset.nodes[(0 : Fin 4)].status = .off ∧ patrol.nodes[(0 : Fin 4)].status ≠ .off)
    ∧ (goodGaugeFrame 0 .incomplete = none ∧ goodGaugeFrame 1 (.frame (gauge0 1)) = none)
    ∧ (goodGaugeFrame 0 (.frame (gauge0 0)) = some (gauge0 0) ∧ patrol.nodes[(0 : Fin 4)].status = .present
      ∧ patrol.nodes[(0 : Fin 4)].prev = some (gauge0 0).seq)
    ∧ (goodGaugeFrame 0 (.frame (gauge0 255)) = some (gauge0 255) ∧ patrol.nodes[(0 : Fin 4)].prev ≠ some (gauge0 255).seq)
    ∧ (let n := { nodeOn with status := .settling, settle := 1, prev := none }
       (withNode n patrol).nodes[(0 : Fin 4)].status = .settling ∧ (withNode n patrol).nodes[(0 : Fin 4)].prev ≠ some 1)
    ∧ (let n := { nodeOn with status := .lost, settle := 1 }
       (withNode n patrol).nodes[(0 : Fin 4)].status = .lost ∧ 1 ≤ (withNode n patrol).nodes[(0 : Fin 4)].settle)
    ∧ ((withNode { nodeOn with status := .lost } patrol).nodes[(0 : Fin 4)].settle = 0) :=
  ⟨by decide, ⟨rfl, by decide +kernel⟩, ⟨gauge0_good 0, by decide, by decide⟩, ⟨gauge0_good 255, by decide⟩, by decide,
    by decide, by decide⟩

theorem test_meets_BaselineFollowsClearSamples :
    goodGaugeFrame 0 (.frame (gauge0 1)) = some (gauge0 1)
    ∧ (∀ s ∈ [patrol, sweeping, armed, withNode nodeBack patrol], s.axt.train = none
        ∧ (s.nodes[(0 : Fin 4)]).Delivers (gauge0 1).seq)
    ∧ [patrol, sweeping, armed, withNode nodeBack patrol].map (·.ssq.site) = [.patrol, .sweep, .armed, .patrol]
    ∧ (passage.axt.train ≠ none ∧ passage.ssq.site = .passage ∧ (passage.nodes[(0 : Fin 4)]).Delivers (gauge0 1).seq
      ∧ ((withNode nodeBack passage).nodes[(0 : Fin 4)]).Delivers (gauge0 1).seq
      ∧ (passage.units[nodeChannel 0 0]).capture = none ∧ (passage.channels[nodeChannel 0 0]).quiet = none
      ∧ (passage.channels[nodeChannel 0 0]).convert 1000 false < passage.cfg .ton) :=
  ⟨gauge0_good 1, by unfold GaugeNode.Delivers; decide, by decide, by unfold GaugeNode.Delivers; decide⟩

/-- A passage of `t` whose channels have baselines of 1000 counts, with a capture on channel 0. -/
def gaugedPassage (t : OpenTrain) (c : Option Capture) : State :=
  { passageOf t with
    channels := Vector.replicate 16 { Channel.reset with z := some 256000 }
    units := (Vector.replicate 16 CaptureUnit.reset).set 0 { CaptureUnit.reset with capture := c } }

theorem test_meets_CapturesOpenAndFollow :
    goodGaugeFrame 0 (.frame (gauge0 1)) = some (gauge0 1)
    ∧ goodGaugeFrame 0 (.frame (gauge 1 #v[1149, 1150, 1100, 1000])) = some (gauge 1 #v[1149, 1150, 1100, 1000])
    ∧ (∀ t ∈ [train, halted], ∀ c ∈ [none, some (openCapture (some 0) 0 0)], ∀ n ∈ [nodeOn, nodeBack],
      let s := withNode n (gaugedPassage t c)
      s.ssq.site = .passage ∧ s.axt.train = some t ∧ (s.nodes[(0 : Fin 4)]).Delivers (gauge0 1).seq
        ∧ (s.units[nodeChannel 0 0]).capture = c)
    ∧ (let s := gaugedPassage train none
       (s.channels[nodeChannel 0 0]).convert 1149 false < s.cfg .ton ∧ s.cfg .ton ≤ (s.channels[nodeChannel 0 1]).convert 1150 false)
    ∧ (let s := gaugedPassage train (some (openCapture (some 0) 15980000 2))
       let c := openCapture (some 0) 15980000 2
       (s.channels[nodeChannel 0 0]).convert 1149 false ≥ s.cfg .toff ∧ 0 < s.cfg .nclose
         ∧ c.distance + train.speed < s.cfg .lmax * 10000) :=
  ⟨gauge0_good 1, by decide +kernel, by unfold GaugeNode.Delivers; decide, by decide, by decide⟩

theorem test_meets_CapturesOpenAndFollow_jump :
    goodGaugeFrame 0 (.frame (gauge0 5)) = some (gauge0 5) ∧ (passage.nodes[(0 : Fin 4)]).status = .present
    ∧ (passage.nodes[(0 : Fin 4)]).prev = some 0 ∧ (gauge0 5).seq ≠ 0 ∧ (gauge0 5).seq ≠ 0 + 1 :=
  ⟨gauge0_good 5, by decide⟩

/-- A capture that reaches Lmax under a load at or above Ton. -/
theorem test_meets_CapturesCloseAndAreStored_truncated :
    (let f := gauge 1 (Vector.replicate 4 1200)
     let c := openCapture (some 0) 15990000 2
     let s := gaugedPassage train (some c)
     goodGaugeFrame 0 (.frame f) = some f ∧ (s.units[nodeChannel 0 0]).capture = some c
       ∧ s.cfg .ton ≤ (s.channels[nodeChannel 0 0]).convert 1200 false
       ∧ s.cfg .toff ≤ (s.channels[nodeChannel 0 0]).convert 1200 false ∧ 0 < s.cfg .nclose
       ∧ s.cfg .lmax * 10000 ≤ c.distance + train.speed) := by
  decide +kernel

theorem test_meets_CapturesCloseAndAreStored :
    goodGaugeFrame 0 (.frame (gauge0 1)) = some (gauge0 1)
    ∧ (∀ c ∈ [openCapture none 7820000 2, openCapture (some 0) 7820000 2, openCapture (some 0) 1489999 2,
        openCapture (some 0) 1490000 2, openCapture (some 512) 7820000 2], ∀ n ∈ [nodeOn, nodeBack],
      let s := withNode n (gaugedPassage train (some c))
      s.ssq.site = .passage ∧ s.axt.train = some train ∧ train.motion ≠ .halted
        ∧ (s.nodes[(0 : Fin 4)]).Delivers (gauge0 1).seq ∧ (s.units[nodeChannel 0 0]).capture = some c
        ∧ (s.channels[nodeChannel 0 0]).convert 1000 false < s.cfg .toff ∧ s.cfg .nclose ≤ c.lowCount + 1)
    ∧ (1489999 + train.speed < passage.cfg .lmin * 10000 ∧ ¬ 1490000 + train.speed < passage.cfg .lmin * 10000)
    ∧ ((openCapture (some 0) 0 2).dir = train.d0 ∧ { train with lastDir := .reverse }.lastDir ≠ .forward)
    ∧ ((gaugedPassage train none).rps.slots[(0 : Fin 4)] = some { st := .filling, report := report 1 0 }
      ∧ (report 1 0).header.number = train.number ∧ 0 < (report 1 0).axles.length)
    ∧ passage.cfg .lmax * 10000 ≤ (openCapture (some 0) 15990000 0).distance + train.speed :=
  ⟨gauge0_good 1, by unfold GaugeNode.Delivers; decide, by decide, by decide, by decide, by decide⟩

theorem test_meets_ConversionSumsTheSegments :
    CalRecord.default.Admitted ∧ CalRecord.Admitted { b1 := 1, b2 := 2, b3 := 524287, m0 := 65535, m1 := 0, m2 := 0, m3 := 65535, isSet := true }
    ∧ Channel.reset.z = none ∧ { Channel.reset with z := some (-256001) }.z = some (-256001)
    ∧ Channel.reset.cal = CalRecord.default :=
  ⟨⟨by decide, by decide, by decide, by decide, by decide⟩, ⟨by decide, by decide, by decide, by decide, by decide⟩, rfl, rfl, rfl⟩

/-- Both scanners of a site in ARMED are WAITING in a calibration. -/
def calibrating (progress : CalProgress) (sum count : Nat) : State :=
  let y : Scanner := { scannerOn with
    progress := progress, shutterClosed := true, calSum := sum, calCount := count
    shutterTimer := if progress = .waiting then some 2000000 else none }
  { armed with tsu := { armed.tsu with scanners := { a := y, b := y } } }

theorem test_meets_LinkTimersExpire :
    (patrol.nodes[(3 : Fin 4)].lossTimer = some 200000 ∧ patrol.nodes[(3 : Fin 4)].status = .present)
    ∧ (let s := gaugedPassage train (some (openCapture (some 0) 7820000 0))
       s.nodes[(0 : Fin 4)].lossTimer = some 200000 ∧ s.nodes[(0 : Fin 4)].status = .present ∧ s.axt.train = some train
         ∧ (s.units[(0 : Fin 16)]).capture = some (openCapture (some 0) 7820000 0))
    ∧ (let s := { patrol with channels := patrol.channels.set 15 { Channel.reset with quiet := some 50000 } }
       (s.channels[(15 : Fin 16)]).quiet = some 50000)
    ∧ (((calibrating .waiting 0 0).tsu.scanners.get .b).shutterTimer = some 2000000
      ∧ ((calibrating .waiting 0 0).tsu.scanners.get .b).progress = .waiting)
    ∧ (((calibrating .accumulating 1 1).tsu.scanners.get .a).lossTimer = some 200000
      ∧ ((calibrating .accumulating 1 1).tsu.scanners.get .a).status = .present)
    ∧ (let s := gatedPassage train (gatePair (some 0) (.running 40000))
       (s.tsu.scanners.get .a).lossTimer = some 200000 ∧ (s.tsu.scanners.get .a).status = .present ∧ s.axt.train ≠ none)
    ∧ (State.reset.nodes[(0 : Fin 4)].lossTimer = none ∧ (State.reset.channels[(0 : Fin 16)]).quiet = none
      ∧ (State.reset.tsu.scanners.get .a).shutterTimer = none ∧ (State.reset.tsu.scanners.get .a).lossTimer = none) := by
  decide

/-! ## Scanners and gates -/

/-- A scanner frame of T0 with its check value. -/
def scan (seq : Byte) (shutter : ShutterSense) (sample : BitVec 16) : ScannerFrame :=
  let f : ScannerFrame := { node := 0, seq := seq, shutter := shutter, shutterTemp := 152, sample := sample, check := 0 }
  { f with check := crc (scannerFrameBytes f) }

theorem scan_good (seq : Byte) (shutter : ShutterSense) (sample : BitVec 16) :
    goodScannerFrame .a (.frame (scan seq shutter sample)) = some (scan seq shutter sample) := by
  have h : scannerFrameGood .a (scan seq shutter sample) = true := by
    simp only [scannerFrameGood, scan, Bool.and_eq_true, beq_iff_eq]
    exact ⟨rfl, rfl⟩
  simp [goodScannerFrame, h]

/-- A site in PATROL whose scanner T0 has a record. -/
def scanning (status : ScannerStatus) : State :=
  let y : Scanner := { scannerOn with
    status := status, calState := .valid, ref := some { sRef := 12040, tRef := 152, time := 0, validAt := 0 }
    ambient := some 9472 }
  { patrol with tsu := { patrol.tsu with scanners := { patrol.tsu.scanners with a := y } } }

theorem test_meets_ScannerFrameIsTaken :
    ((State.reset.tsu.scanners.get .a).status = .off ∧ (patrol.tsu.scanners.get .a).status ≠ .off
      ∧ goodScannerFrame .a .incomplete = none)
    ∧ (goodScannerFrame .a (.frame (scan 0 .opened 12040)) = some (scan 0 .opened 12040)
      ∧ (patrol.tsu.scanners.get .a).prev = some (scan 0 .opened 12040).seq)
    ∧ (goodScannerFrame .a (.frame (scan 1 .opened 65535)) = some (scan 1 .opened 65535)
      ∧ ((scanning .lost).tsu.scanners.get .a).status = .lost
      ∧ ((scanning .present).tsu.scanners.get .a).prev ≠ some (scan 1 .opened 65535).seq
      ∧ ((scanning .present).tsu.scanners.get .a).progress = .idle)
    ∧ (goodScannerFrame .a (.frame (scan 1 .closed 65535)) = some (scan 1 .closed 65535)
      ∧ ((calibrating .waiting 0 0).tsu.scanners.get .a).progress ≠ .idle
      ∧ ((calibrating .accumulating 1 254).tsu.scanners.get .a).calCount + 1 < 64 * armed.cfg .calBlocks
      ∧ 64 * armed.cfg .calBlocks ≤ ((calibrating .accumulating 1 255).tsu.scanners.get .a).calCount + 1)
    ∧ ((calibrating .accumulating 1 255).tsu.scanners.get .a).progress = .accumulating
    ∧ (let s := gatedPassage train (gatePair (some 0) (.running 40000))
       (s.tsu.pair.bind fun p => p.gates.get .a) = (gatePair (some 0) (.running 40000)).gates.a
         ∧ (s.tsu.scanners.get .a).progress = .idle ∧ (s.tsu.scanners.get .a).status = .present
         ∧ (s.tsu.scanners.get .a).prev = some ((scan 1 .opened 65535).seq - 1)
         ∧ (let lost : State := { s with tsu := { s.tsu with scanners := { s.tsu.scanners with
              a := { scannerOn with status := .lost, lossTimer := none } } } }
            (lost.tsu.scanners.get .a).status = .lost ∧ (lost.tsu.scanners.get .a).progress = .idle
              ∧ (lost.tsu.pair.bind fun p => p.gates.get .a) = (gatePair (some 0) (.running 40000)).gates.a)) :=
  ⟨by decide, ⟨scan_good .., by decide⟩, ⟨scan_good .., by decide, by decide, by decide⟩, ⟨scan_good .., by decide⟩, by decide,
    by decide⟩

theorem test_meets_ScannerFrameIsTaken_jump :
    goodScannerFrame .a (.frame (scan 5 .opened 12040)) = some (scan 5 .opened 12040)
    ∧ ((scanning .present).tsu.scanners.get .a).status = .present ∧ ((scanning .present).tsu.scanners.get .a).prev = some 0
    ∧ (scan 5 .opened 12040).seq ≠ 0 ∧ (scan 5 .opened 12040).seq ≠ 0 + 1 :=
  ⟨scan_good .., by decide⟩

/-- A pair whose first gate has been stored, or turned about, before its last one closes. -/
theorem test_meets_GateTimeClosesTheGates_last :
    ∀ b : Bool,
      (let p0 := gatePair (some 0) (.held 100)
       let p : GatePair := { p0 with gates := { p0.gates with a := none }, stored := b, undone := !b }
       let s := gatedPassage train p
       s.tsu.pair = some p ∧ s.axt.train = some train ∧ (p.gates.get .b).isSome = true ∧ p.gates.get .a = none
         ∧ s.rps.slots[train.slot] = some { st := .filling, report := report 1 0 } ∧ (s.evu.lanes.get .thermal).length < 16) := by
  decide

theorem test_meets_GateTimeClosesTheGates :
    (∀ axle ∈ [none, some 0, some 511, some 512], ∀ t ∈ [train, { train with lastDir := .reverse, motion := .movingRev }],
      let p := gatePair axle (.running 40000)
      (gatedPassage t p).tsu.pair = some p ∧ (gatedPassage t p).axt.train = some t ∧ p.clock = .running 40000
        ∧ p.gates.get .a ≠ none ∧ p.undone = false
        ∧ (gatedPassage t p).rps.slots[t.slot] = some { st := .filling, report := report 1 0 })
    ∧ (gatePair (some 0) (.held 40000)).clock = .held 40000 ∧ (report 1 0).axles[(0 : Nat)]? = some axle0
    ∧ patrol.tsu.pair = none := by
  decide

/-! ## The evaluation engine -/

/-- A request of lane A for an axle of slot 0. -/
def railA (target : Nat) : Request := { lane := .a, slot := 0, number := 1, target := target, urgent := false }

/-- A passage with requests in lane A. -/
def queued (xs : List Request) : State :=
  { passage with evu := { Evu.reset with lanes := { Evu.reset.lanes with a := xs } } }

/-- A CLOSING report of slot 0 whose sweep is served, with a full lane A. -/
def sweepFull (resting : Bool) : State :=
  { stored .closing patrol with evu := { Evu.reset with
      lanes := { Evu.reset.lanes with a := (List.range 16).map railA }, sweepQueue := [0], sweepResting := resting } }

theorem test_meets_RequestsAreLodgedAndGranted :
    (∃ x ∈ (queued [railA 0, railA 1]).evu.lanes.get .a, x.slot = (railA 1).slot ∧ x.number = (railA 1).number
      ∧ x.target = (railA 1).target)
    ∧ ((∀ x ∈ (queued ((List.range 15).map railA)).evu.lanes.get .a, ¬ (x.slot = 0 ∧ x.number = 1 ∧ x.target = 20))
      ∧ ((queued ((List.range 15).map railA)).evu.lanes.get .a).length < 16)
    ∧ (∀ b : Bool, (∀ x ∈ (sweepFull b).evu.lanes.get .a, ¬ (x.slot = 0 ∧ x.number = 1 ∧ x.target = 20))
      ∧ 16 ≤ ((sweepFull b).evu.lanes.get .a).length ∧ (sweepFull b).evu.sweepQueue.head? = some (railA 20).slot
      ∧ (sweepFull b).evu.sweepResting = b)
    ∧ (∀ l : Lane, ((queued [railA 0]).evu.lanes.get l).head?.all fun x =>
        (((queued [railA 0]).liveReport x.slot x.number).isSome : Bool)) :=
  ⟨⟨railA 1, by decide⟩, by decide, by decide, fun l => by cases l <;> decide⟩

theorem test_meets_RequestsAreLodgedAndGranted_grants :
    (let s := queued [railA 0]
     s.evu.evals[(0 : Fin 2)] = none ∧ (s.evu.lanes.get .a).head? = some (railA 0)
       ∧ s.coverageFree (s.coverageOf (railA 0)) = true ∧ s.evu.lrg = [] ++ Lane.a :: [.b, .thermal, .vehicle]
       ∧ (s.evu.lanes.get .thermal).head? = none)
    ∧ (let hot : Request := { lane := .thermal, slot := 0, number := 1, target := 0, urgent := true }
       let s : State := { queued [railA 0] with evu := { (queued [railA 0]).evu with
         lanes := { (queued [railA 0]).evu.lanes with thermal := [hot] } } }
       s.evu.urgentMark = false ∧ (s.evu.lanes.get .thermal).head? = some hot ∧ hot.urgent = true
         ∧ s.coverageFree (s.coverageOf hot) = true)
    ∧ (∀ target ∈ [0, 1],
      let x : Request := { lane := .vehicle, slot := 0, number := 1, target := target, urgent := false }
      let s : State := { passage with evu := { Evu.reset with lanes := { Evu.reset.lanes with vehicle := [x] } } }
      (s.evu.lanes.get .vehicle).head? = some x ∧ s.coverageFree (s.coverageOf x) = true
        ∧ s.evu.lrg = [.a, .b, .thermal] ++ Lane.vehicle :: [] ∧ (s.evu.lanes.get .thermal).head? = none)
    ∧ (passage.rps.slots[(0 : Fin 4)] = some { st := .filling, report := report 1 0 } ∧ (report 1 0).axles[(0 : Nat)]? = some axle0
      ∧ (report 1 0).vehicles[(0 : Nat)]? = some vehicle0 ∧ (report 1 0).vehicles[(1 : Nat)]? = none)
    ∧ (∀ l : Lane, (patrol.evu.lanes.get l).head? = none) :=
  ⟨by decide, by decide, by decide, by decide, fun l => by cases l <;> decide⟩

/-- An evaluation in flight. -/
def evaluating (lane : Lane) (snapshot : Snapshot) : Evaluation :=
  { req := { lane := lane, slot := 0, number := 1, target := 0, urgent := false }
    coverage := { slot := 0, first := 0, count := 1 }, snapshot := snapshot, config := Item.defaults, changed := false
    removed := false }

/-- A state with an evaluation in E0. -/
def withEval (e : Evaluation) (s : State) : State := { s with evu := { s.evu with evals := s.evu.evals.set 0 (some e) } }

/-- The snapshots of axle 0 and vehicle 0 of a report. -/
def snapRail : Snapshot := .rail (Vector.replicate 8 none)

def snapThermal : Snapshot :=
  .thermal { gates := { a := none, b := none }, sum := { a := 0, b := 0 }, count := { a := 0, b := 0 },
             status := { a := .present, b := .present } }

def snapVehicle : Snapshot :=
  .vehicle (some { index := 0, first := 0, count := 2, isOpen := true, axles := [] })

/-- The snapshot of a vehicle whose one axle holds its results. -/
def snapLoaded : Snapshot :=
  .vehicle (some { index := 0, first := 0, count := 1, isOpen := false, axles := [
    { results := some { load := 2404, quality := .full, imbalance := 1 }, peakWheel := .alert, peakBearing := .warm }] })

/-- EvalsOk as a test. -/
def evalOkB (ev : Evaluation) : Bool :=
  match ev.req.lane, ev.snapshot with
  | .a, .rail _ => !ev.removed
  | .b, .rail _ => !ev.removed
  | .thermal, .thermal _ => !ev.removed
  | .vehicle, .vehicle _ => true
  | _, _ => false

theorem evalsOk_of {s : State} (h : ∀ e : Fin 2, (s.evu.evals[e]).all evalOkB = true) : s.EvalsOk := by
  intro e ev hev
  have h1 := h e
  rw [hev, Option.all_some, evalOkB] at h1
  cases hl : ev.req.lane <;> cases hs : ev.snapshot <;> simp_all

theorem test_meets_CompletionWritesItsResults_snapshots :
    State.reset.EvalsOk
    ∧ ∀ e ∈ [evaluating .a snapRail, evaluating .b snapRail, evaluating .thermal snapThermal, evaluating .vehicle snapVehicle,
        evaluating .vehicle snapLoaded, evaluating .vehicle (.vehicle none),
        { evaluating .vehicle snapVehicle with removed := true, changed := true }],
      ∀ s ∈ [passage, stored .closing patrol, patrol], (withEval e s).EvalsOk :=
  ⟨evalsOk_of (by decide), fun e he s hs => evalsOk_of (by revert e s; decide)⟩

/-- R105: a completion asks for its dirty target again, frees its slot and only then arbitrates, so that lane A, first in the LRG
order, is granted before lane B. -/
theorem test_completion_arbitrates_last :
    (let e : Evaluation := { evaluating .a snapRail with changed := true }
     let s := withEval e (queued [])
     let s : State := { s with evu := { s.evu with lanes := { s.evu.lanes with b := [{ railA 1 with lane := .b }] } } }
     let u := after (.evaluationCompletion 0) s
     u.evu.lrg = [.thermal, .vehicle, .a, .b] ∧ u.evu.evals.toList.map (·.map (·.req.lane)) = [some .a, some .b]) := by
  decide +kernel

theorem test_meets_CompletionWritesItsResults :
    (State.reset.evu.evals[(0 : Fin 2)] = none)
    ∧ (let s := withEval (evaluating .a snapRail) patrol
       s.evu.evals[(0 : Fin 2)] = some (evaluating .a snapRail) ∧ s.liveReport 0 1 = none)
    ∧ (∀ e ∈ [evaluating .a snapRail, evaluating .b snapRail, evaluating .thermal snapThermal, evaluating .vehicle snapVehicle,
        evaluating .vehicle snapLoaded, evaluating .vehicle (.vehicle none), { evaluating .vehicle snapVehicle with removed := true }],
      ∀ s ∈ [passage, stored .closing patrol], (withEval e s).evu.evals[(0 : Fin 2)] = some e)
    ∧ (passage.rps.slots[(0 : Fin 4)] = some { st := .filling, report := report 1 0 } ∧ (report 1 0).header.number = 1
      ∧ (report 1 0).axles[(0 : Nat)]? = some axle0 ∧ (report 1 0).vehicles[(0 : Nat)]? = some vehicle0) := by
  decide

/-- A CLOSING report of slot 0 at a position of its sweep, axle 0 dirty for rail A or clean. -/
def sweepAt (pos : SweepPos) (dirty resting rewalk : Bool) (waiting : List Request) : State :=
  let x : AxleRecord := { axle0 with cribs := { axle0.cribs with a := { axle0.cribs.a with dirty := dirty } } }
  let r : Report := { report 1 0 with axles := [x, axle1] }
  { patrol with
    rps := { Rps.reset with slots := (Vector.replicate 4 none).set 0 (some { st := .closing, report := r }), order := [0],
                            trainCounter := 1 }
    evu := { Evu.reset with sweepQueue := [0], sweepPos := pos, sweepResting := resting, rewalk := rewalk,
                            lanes := { Evu.reset.lanes with a := waiting } } }

theorem test_meets_SweepStepWalksTheReport :
    (∀ s ∈ [sweepAt (.axle 0 .railA) false true false [], sweepAt (.axle 0 .railA) false false false [],
        sweepAt (.axle 0 .railA) true false false ((List.range 7).map railA),
        sweepAt (.axle 0 .railA) true false false ((List.range 8).map railA), sweepAt (.vehicle 1) false false true [],
        sweepAt (.vehicle 1) true false false [], sweepAt (.vehicle 1) false false false []],
      s.SlotsOk ∧ s.RoomToRest ∧ s.NodesOk ∧ s.evu.sweepQueue.head? = some 0)
    ∧ ((sweepAt (.axle 0 .railA) true false false ((List.range 7).map railA)).evu.lanes.a.length ≤ 7
      ∧ 7 < (sweepAt (.axle 0 .railA) true false false ((List.range 8).map railA)).evu.lanes.a.length)
    ∧ ((sweepAt (.vehicle 1) false false true []).evu.rewalk = true ∧ (report 1 0).vehicles.length ≤ 1
      ∧ (report 1 0).clean = true ∧ (report 1 0).dirtyAt .a 0 = false)
    ∧ patrol.evu.sweepQueue = [] :=
  ⟨fun s hs => ⟨slotsOk_of (by revert s; decide), roomToRest_of (by revert s; decide), nodesOk_of (by revert s; decide),
      by revert s; decide⟩, by decide, by decide, by decide⟩

/-- Steps that move past the last target, with the last vehicle dirty, clean, and with a rewalk due. -/
theorem test_meets_SweepStepWalksTheReport_last :
    ∀ rewalk : Bool, (let s := sweepAt (.vehicle 0) false false rewalk []
      s.SlotsOk ∧ s.RoomToRest ∧ s.NodesOk ∧ s.evu.sweepQueue.head? = some 0 ∧ (report 1 0).vehicles.length ≤ 0 + 1
        ∧ s.evu.rewalk = rewalk) :=
  fun b => ⟨slotsOk_of (by revert b; decide), roomToRest_of (by revert b; decide), nodesOk_of (by revert b; decide), rfl,
    by decide, rfl⟩

/-- The completion test of slot 0 is passed, by a site that stays at rest and by one that goes on to ARMED, and is failed: the
sweep does not rest, a rewalk is due, an axle is dirty, an evaluation of the slot is in flight. -/
theorem test_meets_SweepStepWalksTheReport_completing :
    let resting := sweepAt (.vehicle 1) false true false []
    (∀ s ∈ [resting, carrying resting], s.SlotsOk ∧ s.RoomToRest ∧ s.NodesOk)
    ∧ (∀ s ∈ [resting, carrying resting], s.evu.sweepQueue.head? = some 0 ∧ s.evu.sweepResting = true ∧ s.evu.rewalk = false
      ∧ (s.rps.slots[(0 : Fin 4)].map fun h => h.report.clean) = some true
      ∧ ∀ e : Fin 2, (s.evu.evals[e]).all (fun ev => ev.req.slot.val != 0) = true)
    ∧ (sweepAt (.vehicle 1) false false false []).evu.sweepResting = false
    ∧ (sweepAt (.vehicle 1) false true true []).evu.rewalk = true
    ∧ (((sweepAt (.vehicle 1) true true false []).rps.slots[(0 : Fin 4)].map fun h => h.report.clean) = some false)
    ∧ ((withEval (evaluating .a snapRail) resting).evu.evals[(0 : Fin 2)] = some (evaluating .a snapRail)
      ∧ (evaluating .a snapRail).req.slot = 0) :=
  ⟨fun s hs => ⟨slotsOk_of (by revert s; decide), roomToRest_of (by revert s; decide), nodesOk_of (by revert s; decide)⟩,
    by decide, by decide, by decide, by decide, by decide⟩

/-- R104, R107: a dirty vehicle is requested where the evaluation in flight of its index is of a vehicle that was removed, and
passed by where it is its own. -/
theorem test_sweep_requests_beside_removed :
    [true, false].map (fun removed =>
      let s := sweepAt (.vehicle 0) false false false []
      let dirtied (h : HeldSlot) : HeldSlot :=
        { h with report := { h.report with vehicles := h.report.vehicles.map fun v => { v with dirty := true } } }
      let s : State := { s with rps := { s.rps with slots := s.rps.slots.set 0 ((s.rps.slots[(0 : Fin 4)]).map dirtied) } }
      let u := after .sweepStep (withEval { evaluating .vehicle snapVehicle with removed := removed } s)
      (u.evu.lanes.vehicle.length, (u.evu.evals[(1 : Fin 2)]).isSome)) = [(1, false), (0, false)] := by
  decide +kernel

/-- The sweep waits for lane A at axle 0; the arbitration grants the lane's head, which may be that very axle. -/
def waitingSweep (xs : List Request) : State :=
  let s := sweepAt (.axle 0 .railA) true false false xs
  { s with evu := { s.evu with sweepWaiting := true } }

theorem test_meets_SweepStepWalksTheReport_waiting :
    (∀ xs ∈ [(List.range 8).map railA, (List.range 8).map (fun i => railA (i + 1)), (List.range 16).map (fun i => railA (i + 1))],
      let s := waitingSweep xs
      s.evu.sweepQueue.head? = some 0 ∧ s.evu.sweepWaiting = true
        ∧ (s.arbitrate.evu.lanes.get .a).length < (s.evu.lanes.get .a).length
        ∧ s.rps.slots[(0 : Fin 4)] = (sweepAt (.axle 0 .railA) true false false xs).rps.slots[(0 : Fin 4)])
    ∧ ((waitingSweep ((List.range 8).map railA)).arbitrate.evu.evals[(0 : Fin 2)].map (·.req)) = some (railA 0)
    ∧ ((waitingSweep ((List.range 8).map fun i => railA (i + 1))).arbitrate.evu.lanes.get .a).length ≤ 7
    ∧ 7 < ((waitingSweep ((List.range 16).map fun i => railA (i + 1))).arbitrate.evu.lanes.get .a).length := by
  decide +kernel

/-- 6.9, event 5: with both evaluation slots taken a completion lets lane A grant once, and the sweep that waits for the lane
tries again, is requested behind the seven left, and moves on. -/
theorem test_sweep_tries_again :
    (let busy : Evaluation := { evaluating .thermal snapThermal with coverage := { slot := 3, first := 0, count := 0 } }
     let s := waitingSweep ((List.range 8).map fun i => railA (i + 1))
     let u := after (.evaluationCompletion 0) { s with evu := { s.evu with evals := #v[some busy, some busy] } }
     u.evu.lanes.a.map (·.target) = [2, 3, 4, 5, 6, 7, 8, 0] ∧ u.evu.sweepPos = .axle 0 .railB ∧ u.evu.sweepWaiting = false) := by
  decide +kernel

theorem test_meets_DynamicRatioIsCapped :
    278 * 1224 ≤ 3410 * 100 ∧ 3410 * 100 < (278 + 1) * 1224 ∧ 999 * 1 ≤ 10 * 100 ∧ 1000 * 1 ≤ 10 * 100
    ∧ 10 * 100 < (1000 + 1) * 1 := by decide

/-- Eight places that hold four valid records, each with a plateau of 1498 to 1530. -/
def fourValid : Vector (Option CribRecord) 8 :=
  #v[some (crib 1510 1620), none, none, some (crib 1498 1590), none, some (crib 1530 1655), none, some (crib 1502 1600)]

theorem test_meets_WheelResultsAndPeaks :
    (∃ used q, usedSet (presentRecords fourValid) = some (used, q)
      ∧ ∀ r ∈ used, ∃ x, r.plateau = some x ∧ 1498 ≤ x ∧ x ≤ 1530)
    ∧ (let old := wheelResult Item.defaults fourValid
       ({ axle0 with wheels := { axle0.wheels with a := some old } }).wheels.get .a = some old)
    ∧ (presentRecords (Vector.replicate 8 none) = [] ∧ (presentRecords eightFresh).countP CribRecord.fresh = 8
      ∧ (presentRecords fourValid).countP CribRecord.valid = 4
      ∧ (1498 :: ([1502, 1510] ++ [1530])).Perm ((presentRecords fourValid).filterMap (·.plateau))
      ∧ (1498 :: ([1502, 1510] ++ [1530])).Pairwise (· ≤ ·)
      ∧ (presentRecords fourValid).map (·.peak) = [1620, 1590, 1655, 1600])
    ∧ (snap89.gates.get .a = some (gateOf 912) ∧ (gateOf 912).count ≠ 0 ∧ (gateOf 912).calNone = false
      ∧ snap89.status.get .a ≠ .lost ∧ cfgOf Item.defaults .relMinCount ≤ snap89.count.get .a
      ∧ 140 * (11 : Int) ≤ 1540 ∧ (1540 : Int) < (140 + 1) * 11) := by
  refine ⟨⟨[crib 1510 1620, crib 1498 1590, crib 1530 1655, crib 1502 1600], .degraded, by decide +kernel, ?_⟩, rfl, by decide +kernel, by decide⟩
  intro r hr
  simp only [List.mem_cons, List.not_mem_nil, or_false] at hr
  rcases hr with rfl | rfl | rfl | rfl <;> exact ⟨_, rfl, by decide, by decide⟩

/-! ## Conditions every step keeps -/

theorem test_meets_EveryStepKeepsTheSite :
    (passage.SiteOk ∧ passage.NodesOk) ∧ step { passage with pending := [.haltTimerExpiry] } =
      .next (after .haltTimerExpiry { passage with pending := [] }) :=
  ⟨⟨siteOk_of (by decide), nodesOk_of (by decide)⟩, rfl⟩

theorem test_meets_EveryStepKeepsTheSite_links : passage.LinksOk ∧ State.reset.LinksOk :=
  ⟨⟨by intro g; revert g; exact fun g => ⟨by revert g; decide, by revert g; decide, by revert g; decide⟩,
      fun x => by cases x <;> exact ⟨by decide, by decide, by decide⟩⟩,
    ⟨fun g => ⟨by revert g; decide, by revert g; decide, by revert g; decide⟩,
      fun x => by cases x <;> exact ⟨by decide, by decide, by decide⟩⟩⟩

theorem test_meets_EveryStepKeepsTheCounts : passage.CountsOk :=
  fun t h => by cases h; exact ⟨by decide, by decide, by decide, by decide, by decide⟩

theorem test_meets_EveryStepKeepsTheSlots : passage.SlotsOk ∧ (sweepFull false).SlotsOk :=
  ⟨slotsOk_of (by decide), slotsOk_of (by decide)⟩

theorem test_meets_EveryStepKeepsTheConfiguration : passage.ConfigOk where
  active := fun i => by cases i <;> decide
  future := fun i => by cases i <;> decide
  now := by unfold PairsOrdered; decide
  then_ := by unfold PairsOrdered; decide
  settled := fun h => absurd h (by decide)
  applied := fun h => absurd h (by decide)
  cals := by
    have h : ∀ k : Fin 16, (passage.channels[k]).cal = CalRecord.default := by decide
    exact fun k => by rw [h k]; exact ⟨by decide, by decide, by decide, by decide, by decide⟩
  pending := by
    have h : ∀ k : Fin 16, (passage.channels[k]).pendingCal = none := by decide
    exact fun k c hc => by rw [h k] at hc; cases hc

theorem test_meets_EveryStepKeepsTheQueues : passage.Bounded ∧ (withEval (evaluating .a snapRail) passage).CoveragesDisjoint
    ∧ (withEval (evaluating .a snapRail) passage).EvalsOk :=
  ⟨{ portS := ⟨by decide, by decide, fun _ => rfl, fun h => absurd h (by decide), by decide, by decide, by decide, by decide⟩
     portM := ⟨by decide, by decide, fun _ => rfl, fun h => absurd h (by decide), by decide, by decide, by decide, by decide⟩
     lanes := fun l => by cases l <;> decide
     lrg := by decide
     alerts := fun l => by cases l <;> decide
     history := by decide }, (fun _ _ _ h => by cases h), evalsOk_of (by decide)⟩

end Sys2Proof.Tests
end

section
/-! SUPPORT. The state after power-on: the values R2 to R179 give it, and the conditions every step keeps. -/

namespace Sys2Proof.Machine

/-- Settles O4. -/
theorem resetHoldsPowerOnValues : Obligations.ResetHoldsPowerOnValues := by
  refine ⟨by decide, ⟨rfl, rfl, rfl, rfl, rfl, fun pr => by cases pr <;> decide⟩, by decide, by decide, by decide,
    by decide, ⟨fun l => by cases l <;> rfl, rfl, rfl, by decide, rfl, rfl, fun l => by cases l <;> decide⟩,
    fun x => ?scanner, by decide, by decide, ⟨rfl, fun l => by cases l <;> decide⟩, fun i => ?item, fun p => ?port⟩
  case scanner => cases x <;> decide
  case item => cases i <;> decide
  case port => cases p <;> decide

/-- Settles O5: POWER_ON builds its state from the reset values, the pin's level and the queue alone. -/
theorem powerOnRestoresReset : Obligations.PowerOnRestoresReset := fun _ => rfl

/-! ## The conditions at reset -/

theorem reset_siteOk : State.reset.SiteOk := by
  constructor <;> decide

theorem reset_nodesOk : State.reset.NodesOk where
  streaming := rfl
  gauge := by decide
  scanner := fun x => by cases x <;> decide
  armed := fun x => by cases x <;> decide
  shutter := fun x => by cases x <;> decide
  timer := fun x => by cases x <;> decide
  gaugeLoss := by decide
  scanLoss := fun x => by cases x <;> decide

/-- Nothing sent agrees with stopped streams (R3). -/
theorem linkAgrees_nil : LinkAgrees false [] := ⟨by simp, List.IsChain.nil, by simp⟩

theorem reset_linksOk : State.reset.LinksOk where
  gauge := fun g => by
    have h : ∀ g : Fin 4, (State.reset.nodes[g]).sent = [] := by decide
    rw [h g]; exact linkAgrees_nil
  scanner := fun x => by cases x <;> exact linkAgrees_nil

theorem reset_slotsOk : State.reset.SlotsOk where
  filling := fun k => by
    have h : ∀ k : Fin 4, State.reset.rps.slots[k] = none := by decide
    rw [h k]
    exact ⟨nofun, fun ⟨_, ht, _⟩ => nomatch ht⟩
  number := fun t _ ht => by cases ht
  queue := by decide
  once := List.nodup_nil
  captures := fun k c hc => by
    have h : ∀ k : Fin 16, (State.reset.units[k]).capture = none := by decide
    rw [h k] at hc; cases hc
  gates := by decide
  gate := fun p hp => by cases hp

/-- The calibration record of a channel not yet calibrated is one that R75 admits (R72). -/
theorem CalRecord.default_admitted : CalRecord.default.Admitted := by
  constructor <;> decide

theorem reset_configOk : State.reset.ConfigOk where
  active := fun i => by cases i <;> decide
  future := fun i => by cases i <;> decide
  now := by unfold PairsOrdered; decide
  then_ := by unfold PairsOrdered; decide
  settled := fun _ i => by cases i <;> decide
  applied := fun _ => by decide
  cals := fun k => by
    have h : ∀ k : Fin 16, (State.reset.channels[k]).cal = CalRecord.default := by decide
    rw [h k]; exact CalRecord.default_admitted
  pending := fun k c hc => by
    have h : ∀ k : Fin 16, (State.reset.channels[k]).pendingCal = none := by decide
    rw [h k] at hc; cases hc

theorem PortMachine.reset_bounded : PortMachine.reset.Bounded :=
  ⟨by decide, by decide, fun _ => rfl, nofun, by decide, by decide, by decide, by decide⟩

theorem reset_bounded : State.reset.Bounded where
  portS := PortMachine.reset_bounded
  portM := PortMachine.reset_bounded
  lanes := fun l => by cases l <;> decide
  lrg := List.Perm.refl _
  alerts := fun l => by cases l <;> decide
  history := by decide

theorem reset_not_in_flight (e : Fin 2) (ev : Evaluation) : State.reset.evu.evals[e] ≠ some ev := by
  have h : ∀ e : Fin 2, State.reset.evu.evals[e] = none := by decide
  rw [h e]
  exact nofun

/-- Settles O54. -/
theorem resetMeetsTheConditions : Obligations.ResetMeetsTheConditions :=
  ⟨reset_siteOk, reset_nodesOk, reset_linksOk, nofun, reset_slotsOk, reset_configOk, reset_bounded,
    fun _ _ he => absurd he (reset_not_in_flight 0 _), fun e _ he => absurd he (reset_not_in_flight e _)⟩

end Sys2Proof.Machine
end

section
/-! SUPPORT. Time: the idle step, the site clock's tick, and CLOCK SET. -/

namespace Sys2Proof.Machine

/-- The value of four bytes is the word they make, high byte first (R18). -/
theorem ofNat_nat32 (a b c d : Byte) : BitVec.ofNat 32 (nat32 a b c d) = a ++ b ++ c ++ d := by
  apply BitVec.eq_of_toNat_eq
  have ha := a.isLt
  have hb := b.isLt
  have hc := c.isLt
  have hd := d.isLt
  simp only [nat32, BitVec.toNat_ofNat, BitVec.toNat_append, Nat.shiftLeft_eq, ← Nat.two_pow_add_eq_or_of_lt hd,
    ← Nat.two_pow_add_eq_or_of_lt hc, ← Nat.two_pow_add_eq_or_of_lt hb, Nat.mul_comm _ (2 ^ 8)]
  omega

/-- A value of four bytes is sent as those bytes (11). -/
theorem u32_nat32 (a b c d : Byte) : u32 (nat32 a b c d) = [a, b, c, d] := by
  have byte (n : Nat) (x : Byte) (h : n % 256 = x.toNat) : BitVec.ofNat 8 n = x :=
    BitVec.eq_of_toNat_eq (by simpa using h)
  have ha := a.isLt
  have hb := b.isLt
  have hc := c.isLt
  have hd := d.isLt
  unfold u32 nat32
  rw [byte _ a (by omega), byte _ b (by omega), byte _ c (by omega), byte _ d (by omega)]

/-- A clock advanced by one wraps from 4294967295 to 0 (R18). -/
theorem clock_add_one (x : Clock) :
    x + 1 = BitVec.ofNat 32 (if x.toNat = 4294967295 then 0 else x.toNat + 1) := by
  apply BitVec.eq_of_toNat_eq
  have := x.isLt
  rw [BitVec.toNat_add, BitVec.toNat_ofNat, show (1 : Clock).toNat = 1 from rfl]
  split <;> omega

/-- A CLOCK SET served: its reply, and the clock loaded (R18). -/
theorem execClockSet_eq {p : Port} {s : State} {r : QueuedRequest} {a b c d : Byte}
    (h : s.Asks p r 0x02 [a, b, c, d]) :
    execClockSet p s = .next ((s.withPort p ((s.mpc.ports.get p).answered [replyFrame r 3 [a, b, c, d]])).loadClock
      (nat32 a b c d)) := by
  rw [execClockSet, State.serve_eq h.head, if_pos (h.hasKind 2 rfl), h.payload]
  simp only [clockValue, State.answer_one h.orderly, u32_nat32]
  rfl

/-- Settles O2. -/
theorem timePassesAndTheClockAdvances : Obligations.TimePassesAndTheClockAdvances := by
  refine ⟨fun s h => ?idle, fun s => ?tick, fun p s r a b c d h => ?load⟩
  case idle => simp only [step, h, State.idle]
  case tick => exact congrArg (fun x => Host.Outcome.next (State.modSsq (s.advance s.ssq.clockDue)
      fun q => { q with clock := x, clockDue := q.clockDue + 1000000 })) (clock_add_one s.ssq.clock)
  case load =>
    show execClockSet p s = _
    rw [execClockSet_eq h, State.loadClock, ofNat_nat32]
    rfl

end Sys2Proof.Machine
end

section
/-! SUPPORT. The scanners through the gates and the tracker: what no gate and no crossing touches. -/

namespace Sys2Proof.Machine

@[simp] theorem State.modGate_scanners (x : Side) (f : Gate → Gate) (s : State) :
    (s.modGate x f).tsu.scanners = s.tsu.scanners := rfl

@[simp] theorem State.gateFrame_scanners (x : Side) (f : ScannerFrame) (t : Option Int) (s : State) :
    (s.gateFrame x f t).tsu.scanners = s.tsu.scanners := by
  unfold State.gateFrame; split <;> simp

@[simp] theorem State.disposeGate_scanners (t : OpenTrain) (p : GatePair) (x : Side) (r : GateRecord) (s : State) :
    (s.disposeGate t p x r).tsu.scanners = s.tsu.scanners := by
  unfold State.disposeGate
  split
  · rfl
  · split
    · split <;> simp
    · split <;> simp [State.writeGateRecord]

@[simp] theorem State.finishPair_scanners (t : OpenTrain) (s : State) :
    (s.finishPair t).tsu.scanners = s.tsu.scanners := by
  unfold State.finishPair
  split
  · split
    · dsimp only; split
      · split <;> simp
      · simp
    · rfl
  · rfl

@[simp] theorem State.closeGate_scanners (x : Side) (gapped truncated : Bool) (s : State) :
    (s.closeGate x gapped truncated).tsu.scanners = s.tsu.scanners := by
  unfold State.closeGate
  split
  · split <;> simp
  · rfl

@[simp] theorem State.closeGates_scanners (truncated : Bool) (s : State) :
    (s.closeGates truncated).tsu.scanners = s.tsu.scanners := by simp [State.closeGates]

@[simp] theorem State.gateEdge_scanners (t : OpenTrain) (s : State) :
    (s.gateEdge t).tsu.scanners = s.tsu.scanners := by simp [State.gateEdge]

@[simp] theorem State.holdGates_scanners (s : State) : s.holdGates.tsu.scanners = s.tsu.scanners := rfl

@[simp] theorem State.resumeGates_scanners (s : State) : s.resumeGates.tsu.scanners = s.tsu.scanners := rfl

@[simp] theorem State.setMotion_scanners (t : OpenTrain) (pr : Pair) (travel : Direction) (v : Nat) (s : State) :
    (s.setMotion t pr travel v).tsu.scanners = s.tsu.scanners := by
  unfold State.setMotion; dsimp only; split <;> split <;> simp [State.reversal]

@[simp] theorem State.countCrossing_scanners (t : OpenTrain) (pr : Pair) (inward : Bool) (v : Nat) (s : State) :
    (s.countCrossing t pr inward v).tsu.scanners = s.tsu.scanners := by
  unfold State.countCrossing
  split
  · split
    · unfold State.forwardEntry; dsimp only; split
      · simp
      · split <;> simp
    · unfold State.reverseEntry; split
      · simp
      · simp [State.clampPointers]
  · split <;> simp

@[simp] theorem State.openCrossing_scanners (pr : Pair) (inward : Bool) (v : Nat) (s : State) :
    (s.openCrossing pr inward v).tsu.scanners = s.tsu.scanners := by
  unfold State.openCrossing; split <;> simp

end Sys2Proof.Machine
end

section
/-! SUPPORT. How a sensor node fits the streams and the site state, and what keeps it so (R61, R64, R130, R131, R135). -/

namespace Sys2Proof.Machine

/-- A gauge node as NodesOk has it while the streams run or not. -/
structure GaugeNode.Fits (streaming : Bool) (n : GaugeNode) : Prop where
  status : n.status = .off ↔ streaming = false
  loss   : n.lossTimer.isSome ↔ n.status = .settling ∨ n.status = .present

/-- A scanner as NodesOk has it while the streams run or not, in ARMED or not. -/
structure Scanner.Fits (streaming : Bool) (armed : Prop) (y : Scanner) : Prop where
  status  : y.status = .off ↔ streaming = false
  armed   : y.progress ≠ .idle → armed
  shutter : y.shutterClosed = true ↔ y.progress ≠ .idle
  timer   : y.shutterTimer.isSome ↔ y.progress = .waiting
  loss    : y.lossTimer.isSome ↔ y.status = .present

theorem State.nodesOk_iff {s : State} : s.NodesOk ↔ s.ssq.streaming = s.ssq.site.streams
    ∧ (∀ g : Fin 4, s.nodes[g].Fits s.ssq.streaming)
    ∧ ∀ x, (s.tsu.scanners.get x).Fits s.ssq.streaming (s.ssq.site = .armed) :=
  ⟨fun h => ⟨h.streaming, fun g => ⟨h.gauge g, h.gaugeLoss g⟩,
      fun x => ⟨h.scanner x, h.armed x, h.shutter x, h.timer x, h.scanLoss x⟩⟩,
    fun ⟨h, hg, hx⟩ => ⟨h, fun g => (hg g).status, fun x => (hx x).status, fun x => (hx x).armed,
      fun x => (hx x).shutter, fun x => (hx x).timer, fun g => (hg g).loss, fun x => (hx x).loss⟩⟩

/-! ## Streams (R3) -/

theorem GaugeNode.Fits.streamOn {n : GaugeNode} (h : n.Fits false) (now settle tlost : Nat) :
    (n.streamOn now settle tlost).Fits true := by
  have ho : n.status = .off := h.status.mpr rfl
  by_cases h0 : settle = 0 <;> constructor <;> simp [GaugeNode.streamOn, ho, h0]

theorem GaugeNode.streamOff_fits (n : GaugeNode) : n.streamOff.Fits false := by
  constructor <;> simp [GaugeNode.streamOff]

theorem Scanner.Fits.streamOn {armed : Prop} {y : Scanner} (h : y.Fits false armed) (now tlost : Nat) :
    (y.streamOn now tlost).Fits true armed := by
  have ho : y.status = .off := h.status.mpr rfl
  simp only [Scanner.streamOn, ho, if_true]
  exact ⟨by simp, h.armed, h.shutter, h.timer, by simp⟩

theorem Scanner.Fits.streamOff {b : Bool} {armed : Prop} {y : Scanner} (h : y.Fits b armed) :
    y.streamOff.Fits false armed :=
  ⟨by simp [Scanner.streamOff], h.armed, h.shutter, h.timer, by simp [Scanner.streamOff]⟩

/-! ## Calibration (R135, R137) -/

/-- A scanner with no calibration in flight fits every site state. -/
theorem Scanner.Fits.of_idle {b : Bool} {armed : Prop} {y : Scanner} (h : y.Fits b armed) (hi : y.progress = .idle)
    (armed' : Prop) : y.Fits b armed' :=
  ⟨h.status, fun hne => absurd hi hne, h.shutter, h.timer, h.loss⟩

theorem Scanner.stopCalibration_idle (y : Scanner) : y.stopCalibration.progress = .idle := by
  unfold Scanner.stopCalibration
  split
  · assumption
  · rfl

theorem Scanner.Fits.stopCalibration {b : Bool} {armed : Prop} {y : Scanner} (h : y.Fits b armed) (armed' : Prop) :
    y.stopCalibration.Fits b armed' := by
  refine Scanner.Fits.of_idle (armed := armed) ?_ y.stopCalibration_idle armed'
  unfold Scanner.stopCalibration
  split
  · exact h
  · exact ⟨h.status, by simp, by simp, by simp, h.loss⟩

theorem Scanner.Fits.beginCalibration {b : Bool} {armed armed' : Prop} {y : Scanner} (h : y.Fits b armed) (now : Nat)
    (ha : armed') : (y.beginCalibration now).Fits b armed' :=
  ⟨h.status, fun _ => ha, by simp [Scanner.beginCalibration], by simp [Scanner.beginCalibration], h.loss⟩

/-! ## What is sent over a link (R3) -/

/-- A stream-on command sent while the streams are stopped. -/
theorem LinkAgrees.streamOn {sent : List StreamCommand} (h : LinkAgrees false sent) :
    LinkAgrees true (sent ++ [.streamOn]) := by
  have hl : sent.getLast? ≠ some .streamOn := fun hl => by simpa using h.last.mp hl
  refine ⟨?_, ?_, by simp⟩
  · cases sent with
    | nil => simp
    | cons c cs => simpa using h.first
  · refine List.IsChain.append h.inTurn (List.IsChain.singleton _) ?_
    intro x hx y hy
    simp only [List.head?_cons, Option.mem_def, Option.some.injEq] at hx hy
    subst hy
    rintro rfl
    exact hl hx

/-- A stream-off command sent while the streams run. -/
theorem LinkAgrees.streamOff {sent : List StreamCommand} (h : LinkAgrees true sent) :
    LinkAgrees false (sent ++ [.streamOff]) := by
  have hl : sent.getLast? = some .streamOn := h.last.mpr rfl
  refine ⟨?_, ?_, by simp⟩
  · cases sent with
    | nil => simp at hl
    | cons c cs => simpa using h.first
  · refine List.IsChain.append h.inTurn (List.IsChain.singleton _) ?_
    intro x hx y hy
    simp only [List.head?_cons, Option.mem_def, Option.some.injEq] at hx hy
    rw [hl] at hx
    cases hx
    subst hy
    exact nofun

@[simp] theorem GaugeNode.streamOn_sent (now settle tlost : Nat) (n : GaugeNode) :
    (n.streamOn now settle tlost).sent = n.sent ++ [.streamOn] := by
  unfold GaugeNode.streamOn; dsimp only; split <;> rfl

@[simp] theorem Scanner.streamOn_sent (now tlost : Nat) (y : Scanner) :
    (y.streamOn now tlost).sent = y.sent ++ [.streamOn] := by
  unfold Scanner.streamOn; dsimp only; split <;> rfl

@[simp] theorem Scanner.stopCalibration_sent (y : Scanner) : y.stopCalibration.sent = y.sent := by
  unfold Scanner.stopCalibration; split <;> rfl

/-! ## Operations that keep the nodes as the site has them -/

/-- A node that still fits whatever it fitted, with nothing sent over its link. -/
structure GaugeNode.Keeps (n m : GaugeNode) : Prop where
  sent : m.sent = n.sent
  fits : ∀ b, n.Fits b → m.Fits b

/-- A scanner that still fits whatever it fitted, with nothing sent over its link. -/
structure Scanner.Keeps (y z : Scanner) : Prop where
  sent : z.sent = y.sent
  fits : ∀ b armed, y.Fits b armed → z.Fits b armed

/-- Between two states of one event the Site Sequencer is as it was, and so is every node's fit. -/
structure State.KeepsNodes (s t : State) : Prop where
  ssq      : t.ssq = s.ssq
  nodes    : ∀ g : Fin 4, (s.nodes[g]).Keeps t.nodes[g]
  scanners : ∀ x, (s.tsu.scanners.get x).Keeps (t.tsu.scanners.get x)

theorem GaugeNode.Keeps.refl (n : GaugeNode) : n.Keeps n := ⟨rfl, fun _ h => h⟩
theorem Scanner.Keeps.refl (y : Scanner) : y.Keeps y := ⟨rfl, fun _ _ h => h⟩

theorem GaugeNode.Keeps.trans {n m k : GaugeNode} (h : n.Keeps m) (h' : m.Keeps k) : n.Keeps k :=
  ⟨h'.sent.trans h.sent, fun b hf => h'.fits b (h.fits b hf)⟩

theorem Scanner.Keeps.trans {x y z : Scanner} (h : x.Keeps y) (h' : y.Keeps z) : x.Keeps z :=
  ⟨h'.sent.trans h.sent, fun b a hf => h'.fits b a (h.fits b a hf)⟩

theorem State.KeepsNodes.trans {s t u : State} (h : s.KeepsNodes t) (h' : t.KeepsNodes u) : s.KeepsNodes u :=
  ⟨h'.ssq.trans h.ssq, fun g => (h.nodes g).trans (h'.nodes g), fun x => (h.scanners x).trans (h'.scanners x)⟩

/-- An operation that touches neither the sequencer nor a node. -/
theorem State.KeepsNodes.of_eq {s t : State} (hq : t.ssq = s.ssq) (hn : t.nodes = s.nodes)
    (hx : t.tsu.scanners = s.tsu.scanners) : s.KeepsNodes t :=
  ⟨hq, fun g => by rw [hn]; exact .refl _, fun x => by rw [hx]; exact .refl _⟩

theorem State.KeepsNodes.nodesOk {s t : State} (h : s.KeepsNodes t) (hs : s.NodesOk) : t.NodesOk := by
  rw [State.nodesOk_iff] at hs ⊢
  obtain ⟨hq, hg, hx⟩ := hs
  rw [h.ssq]
  exact ⟨hq, fun g => (h.nodes g).fits _ (hg g), fun x => (h.scanners x).fits _ _ (hx x)⟩

theorem State.KeepsNodes.linksOk {s t : State} (h : s.KeepsNodes t) (hs : s.LinksOk) : t.LinksOk :=
  ⟨fun g => by rw [h.ssq, (h.nodes g).sent]; exact hs.gauge g,
    fun x => by rw [h.ssq, (h.scanners x).sent]; exact hs.scanner x⟩

/-- A change of one gauge node that keeps its fit. -/
theorem State.KeepsNodes.modNode {s : State} {g : Fin 4} {f : GaugeNode → GaugeNode}
    (h : (s.nodes[g]).Keeps (f s.nodes[g])) : s.KeepsNodes (s.modNode g f) := by
  refine ⟨rfl, fun j => ?_, fun x => .refl _⟩
  rw [State.modNode_nodes]
  by_cases hj : j = g
  · subst hj; rw [vupd_get_self]; exact h
  · rw [vupd_get_ne _ hj]; exact .refl _

/-- A change of one scanner that keeps its fit. -/
theorem State.KeepsNodes.modScanner {s : State} {x : Side} {f : Scanner → Scanner}
    (h : (s.tsu.scanners.get x).Keeps (f (s.tsu.scanners.get x))) : s.KeepsNodes (s.modScanner x f) := by
  refine ⟨rfl, fun g => .refl _, fun y => ?_⟩
  by_cases hy : y = x
  · subst hy
    rw [show (s.modScanner y f).tsu.scanners = s.tsu.scanners.upd y f from rfl, PerSide.get_upd_self]
    exact h
  · rw [show (s.modScanner x f).tsu.scanners = s.tsu.scanners.upd x f from rfl, PerSide.get_upd_ne _ hy]
    exact .refl _

end Sys2Proof.Machine
end

section
/-! SUPPORT. A move of the site: the sequencer's values after it, and the conditions it sets up (R1, R3, R8 to R15). -/

namespace Sys2Proof.Machine

/-! ## The sequencer's values -/

/-- The Site Sequencer after a move to `new` (R3, R6, R8, R13, R15): the streams follow the state, the timers stop but the one
that `new` starts, and OFFLINE and PASSAGE clear the latch. -/
def Ssq.moved (q : Ssq) (new : SiteState) (now : Nat) (level : Bool) (cfg : Item → Nat) : Ssq :=
  { q with
    site := new
    streaming := new.streams
    latch := if new = .offline ∨ new = .passage then false else q.latch
    armTimer := if new = .armed ∧ level = false then some (now + sec (cfg .tarm)) else none
    sweepTimer := if new = .dormant then some (now + sec (cfg .tsweep)) else none
    sweepDurTimer := if new = .sweep then some (now + sec (cfg .dsweep)) else none
    restTimer := if new = .patrol ∧ q.dormancy = true then some (now + sec (cfg .tclear)) else none }

/-- The streams follow the site state, and no other value of the sequencer moves with them (R3). -/
theorem State.followStreams_ssq_eq (s : State) :
    s.followStreams.ssq = { s.ssq with streaming := s.ssq.site.streams } := by
  unfold State.followStreams State.streamOn State.streamOff
  obtain ⟨_, q, _⟩ := s
  obtain ⟨site, _, _, _, _, _, _, _, streaming, _⟩ := q
  cases streaming <;> cases site.streams <;> simp

/-- What an entry starts and clears at the sequencer (R6, R8, R13, R15). -/
theorem State.entryActions_ssq_eq {s : State} (ha : s.ssq.armTimer = none) (hs : s.ssq.sweepTimer = none)
    (hd : s.ssq.sweepDurTimer = none) (hr : s.ssq.restTimer = none) (hst : s.ssq.streaming = s.ssq.site.streams) :
    s.entryActions.ssq = s.ssq.moved s.ssq.site s.now s.levelMode s.cfg := by
  obtain ⟨_, q, _⟩ := s
  obtain ⟨site, dormancy, _⟩ := q
  dsimp only at ha hs hd hr hst
  subst ha hs hd hr hst
  unfold State.entryActions Ssq.moved
  cases site
  case armed => cases State.levelMode _ <;> simp
  case patrol => cases dormancy <;> simp
  all_goals simp

theorem State.movedTo_ssq (new : SiteState) (s : State) :
    (s.movedTo new).ssq = s.ssq.moved new s.now s.levelMode s.cfg := by
  have hl : s.leaveSite.ssq = { s.ssq with armTimer := none, sweepTimer := none, sweepDurTimer := none, restTimer := none } := by
    unfold State.leaveSite; dsimp only; split <;> simp
  have hf := State.followStreams_ssq_eq (s.leaveSite.modSsq fun q => { q with site := new })
  rw [State.modSsq_ssq, hl] at hf
  rw [State.movedTo, State.entryActions_ssq_eq (by rw [hf]) (by rw [hf]) (by rw [hf]) (by rw [hf]) (by rw [hf]), hf]
  have hc : (s.leaveSite.modSsq fun q => { q with site := new }).followStreams.cfg = s.cfg := by
    funext i; simp [State.cfg]
  have hm : (s.leaveSite.modSsq fun q => { q with site := new }).followStreams.levelMode = s.levelMode := by
    unfold State.levelMode; rw [hc]
  have hn : (s.leaveSite.modSsq fun q => { q with site := new }).followStreams.now = s.now := by simp
  rw [hc, hm, hn]
  rfl

theorem State.changeSite_eq (new : SiteState) (cause : Cause) (s : State) : s.changeSite new cause =
    (s.movedTo new).noticeBoth 0x40 (siteStatePayload new (some s.ssq.site) cause (s.movedTo new).ssq.disablePending
      (s.movedTo new).ssq.clock) := rfl

theorem State.changeSite_ssq_eq (new : SiteState) (cause : Cause) (s : State) :
    (s.changeSite new cause).ssq = s.ssq.moved new s.now s.levelMode s.cfg := by
  rw [State.changeSite_eq, (State.noticeBoth_frame ..).2.1, State.movedTo_ssq]

@[simp] theorem State.changeSite_site (new : SiteState) (cause : Cause) (s : State) :
    (s.changeSite new cause).ssq.site = new := by
  rw [State.changeSite_ssq_eq]; rfl

/-! ## The site state, the timers and the latch agree -/

/-- SiteOk but for its last condition, the move on of R10, which a settle point may break until the move is made. -/
structure State.Seated (s : State) : Prop where
  passage   : s.ssq.site = .passage ↔ s.axt.train.isSome
  arm       : s.ssq.armTimer.isSome → s.ssq.site = .armed
  sweep     : s.ssq.sweepTimer.isSome → s.ssq.site = .dormant
  duration  : s.ssq.sweepDurTimer.isSome → s.ssq.site = .sweep
  rest      : s.ssq.restTimer.isSome → s.ssq.site = .patrol ∧ s.ssq.dormancy = true
  latch     : s.ssq.site = .armed → s.ssq.latch = true
  offLatch  : s.ssq.site = .offline → s.ssq.latch = false
  disabling : s.ssq.disablePending = true → s.ssq.site = .passage
  streaming : s.ssq.streaming = s.ssq.site.streams

/-- The move on of R10 has been made. -/
def State.MovedOn (s : State) : Prop := s.levelMode = true → s.ssq.approachInput = true →
  s.ssq.site = .offline ∨ s.ssq.site = .armed ∨ s.ssq.site = .passage

theorem State.siteOk_iff {s : State} : s.SiteOk ↔ s.Seated ∧ s.MovedOn :=
  ⟨fun h => ⟨⟨h.passage, h.arm, h.sweep, h.duration, h.rest, h.latch, h.offLatch, h.disabling, h.streaming⟩, h.level⟩,
    fun ⟨h, hm⟩ => ⟨h.passage, h.arm, h.sweep, h.duration, h.rest, h.latch, h.offLatch, h.disabling, h.streaming, hm⟩⟩

theorem State.Seated.congr {s t : State} (h : s.Seated) (hq : t.ssq = s.ssq)
    (ht : t.axt.train.isSome = s.axt.train.isSome) : t.Seated := by
  obtain ⟨h1, h2, h3, h4, h5, h6, h7, h8, h9⟩ := h
  constructor <;> rw [hq] <;> first | rwa [ht] | assumption

theorem State.levelMode_congr {s t : State} (ha : t.mpc.active = s.mpc.active) : t.levelMode = s.levelMode := by
  simp only [State.levelMode, State.cfg, ha]

theorem State.SiteOk.congr {s t : State} (h : s.SiteOk) (hq : t.ssq = s.ssq)
    (ht : t.axt.train.isSome = s.axt.train.isSome) (ha : t.mpc.active = s.mpc.active) : t.SiteOk := by
  rw [State.siteOk_iff] at h ⊢
  refine ⟨h.1.congr hq ht, ?_⟩
  unfold State.MovedOn
  rw [hq, State.levelMode_congr ha]
  exact h.2

/-- A move leaves the site as the tables of 01 have it: PASSAGE is entered with a train alone, ARMED with the latch set, and
another state than PASSAGE without disable-pending. -/
theorem State.changeSite_seated {s : State} {new : SiteState} (hp : new = .passage ↔ s.axt.train.isSome)
    (hl : new = .armed → s.ssq.latch = true) (hd : s.ssq.disablePending = true → new = .passage) (cause : Cause) :
    (s.changeSite new cause).Seated := by
  have ht : (s.changeSite new cause).axt.train = s.axt.train := by simp
  have hq := State.changeSite_ssq_eq new cause s
  constructor <;> rw [hq]
  case passage => rw [ht]; exact hp
  case disabling => exact hd
  case streaming => rfl
  case latch =>
    intro h
    simp only [Ssq.moved] at h ⊢
    subst h
    simpa using hl rfl
  all_goals
    simp only [Ssq.moved]
    split <;> simp_all

/-! ## The nodes through a move -/

/-- A gauge node as the streams, running or not, come to run or not (R3, R61). -/
def GaugeNode.followed (runs run : Bool) (now settle tlost : Nat) (n : GaugeNode) : GaugeNode :=
  match runs, run with
  | false, true => n.streamOn now settle tlost
  | true, false => n.streamOff
  | _, _ => n

/-- A scanner as the streams, running or not, come to run or not (R3, R130). -/
def Scanner.followed (runs run : Bool) (now tlost : Nat) (y : Scanner) : Scanner :=
  match runs, run with
  | false, true => y.streamOn now tlost
  | true, false => y.streamOff
  | _, _ => y

theorem GaugeNode.Fits.followed {runs : Bool} {n : GaugeNode} (h : n.Fits runs) (run : Bool) (now settle tlost : Nat) :
    (n.followed runs run now settle tlost).Fits run := by
  cases runs <;> cases run
  · exact h
  · exact h.streamOn ..
  · exact n.streamOff_fits
  · exact h

theorem Scanner.Fits.followed {runs : Bool} {armed : Prop} {y : Scanner} (h : y.Fits runs armed) (run : Bool)
    (now tlost : Nat) : (y.followed runs run now tlost).Fits run armed := by
  cases runs <;> cases run
  · exact h
  · exact h.streamOn ..
  · exact h.streamOff
  · exact h

theorem GaugeNode.followed_links {runs : Bool} {n : GaugeNode} (h : LinkAgrees runs n.sent) (run : Bool)
    (now settle tlost : Nat) : LinkAgrees run (n.followed runs run now settle tlost).sent := by
  cases runs <;> cases run
  · exact h
  · exact (n.streamOn_sent now settle tlost).symm ▸ h.streamOn
  · exact h.streamOff
  · exact h

theorem Scanner.followed_links {runs : Bool} {y : Scanner} (h : LinkAgrees runs y.sent) (run : Bool)
    (now tlost : Nat) : LinkAgrees run (y.followed runs run now tlost).sent := by
  cases runs <;> cases run
  · exact h
  · exact (y.streamOn_sent now tlost).symm ▸ h.streamOn
  · exact h.streamOff
  · exact h

theorem State.followStreams_node (s : State) (g : Fin 4) : s.followStreams.nodes[g] =
    (s.nodes[g]).followed s.ssq.streaming s.ssq.site.streams s.now (s.cfg .settleSamples) (s.cfg .tlost) := by
  unfold State.followStreams
  cases s.ssq.site.streams <;> cases s.ssq.streaming
  case true.false => exact vmap_get _ _ g
  case false.true => exact vmap_get _ _ g
  all_goals rfl

theorem State.followStreams_scanner (s : State) (x : Side) : s.followStreams.tsu.scanners.get x =
    (s.tsu.scanners.get x).followed s.ssq.streaming s.ssq.site.streams s.now (s.cfg .tlost) := by
  unfold State.followStreams
  cases s.ssq.site.streams <;> cases s.ssq.streaming <;> cases x <;> rfl

theorem State.withdrawCalibration_scanner (s : State) (x : Side) :
    s.withdrawCalibration.tsu.scanners.get x = (s.tsu.scanners.get x).stopCalibration := by
  cases x <;> rfl

/-- A scanner as leaving the site state leaves it: its calibration withdrawn in ARMED (R12). -/
theorem State.leaveSite_scanner (s : State) (x : Side) : s.leaveSite.tsu.scanners.get x =
    if s.ssq.site = .armed then (s.tsu.scanners.get x).stopCalibration else s.tsu.scanners.get x := by
  unfold State.leaveSite
  split
  · exact s.withdrawCalibration_scanner x
  · rfl

/-- The calibration call leaves the scanners as they were or begins the calibration of both (R135). -/
theorem State.callCalibration_scanner (s : State) :
    (∀ x, s.callCalibration.tsu.scanners.get x = s.tsu.scanners.get x)
    ∨ ∀ x, s.callCalibration.tsu.scanners.get x = (s.tsu.scanners.get x).beginCalibration s.now := by
  unfold State.callCalibration
  split
  · exact .inl fun x => rfl
  · exact .inr fun x => by cases x <;> rfl

/-- An entry begins calibrations in ARMED alone (R12). -/
theorem State.entryActions_scanner (s : State) :
    (∀ x, s.entryActions.tsu.scanners.get x = s.tsu.scanners.get x) ∨ (s.ssq.site = .armed
      ∧ ∀ x, s.entryActions.tsu.scanners.get x = (s.tsu.scanners.get x).beginCalibration s.now) := by
  unfold State.entryActions
  cases hs : s.ssq.site
  case armed =>
    dsimp only
    split
    · exact s.callCalibration_scanner.imp_right fun h => ⟨rfl, h⟩
    · exact (State.callCalibration_scanner _).imp_right fun h => ⟨rfl, h⟩
  case patrol => left; intro x; dsimp only; split <;> rfl
  all_goals exact .inl fun x => rfl

/-- A gauge node after a move: it follows the streams (R3, R61). -/
theorem State.changeSite_node (new : SiteState) (cause : Cause) (s : State) (g : Fin 4) :
    (s.changeSite new cause).nodes[g] =
      (s.nodes[g]).followed s.ssq.streaming new.streams s.now (s.cfg .settleSamples) (s.cfg .tlost) := by
  have h : (s.changeSite new cause).nodes = (s.leaveSite.modSsq fun q => { q with site := new }).followStreams.nodes := by
    rw [State.changeSite_eq, (State.noticeBoth_frame ..).2.2.2.2.1, State.movedTo, (State.entryActions_frame _).2.2.1]
  have hs : s.leaveSite.ssq.streaming = s.ssq.streaming := by unfold State.leaveSite; dsimp only; split <;> simp
  rw [h, State.followStreams_node]
  simp [State.cfg, hs]

/-- A scanner after a move: its calibration withdrawn on leaving ARMED, following the streams, and its calibration begun where
ARMED calls one (R3, R12, R130). -/
theorem State.changeSite_scanner (new : SiteState) (cause : Cause) (s : State) :
    let left (x : Side) : Scanner := (if s.ssq.site = .armed then (s.tsu.scanners.get x).stopCalibration
      else s.tsu.scanners.get x).followed s.ssq.streaming new.streams s.now (s.cfg .tlost)
    (∀ x, (s.changeSite new cause).tsu.scanners.get x = left x)
      ∨ (new = .armed ∧ ∀ x, (s.changeSite new cause).tsu.scanners.get x = (left x).beginCalibration s.now) := by
  have h : (s.changeSite new cause).tsu = (s.movedTo new).tsu := by
    rw [State.changeSite_eq, (State.noticeBoth_frame ..).2.2.2.2.2.2.2.2.1]
  have hs : s.leaveSite.ssq.streaming = s.ssq.streaming := by unfold State.leaveSite; dsimp only; split <;> simp
  have hl : ∀ x, (s.leaveSite.modSsq fun q => { q with site := new }).followStreams.tsu.scanners.get x =
      (if s.ssq.site = .armed then (s.tsu.scanners.get x).stopCalibration else s.tsu.scanners.get x).followed
        s.ssq.streaming new.streams s.now (s.cfg .tlost) := by
    intro x
    rw [State.followStreams_scanner, State.modSsq_tsu, State.leaveSite_scanner]
    simp [State.cfg, hs]
  have hsite : (s.leaveSite.modSsq fun q => { q with site := new }).followStreams.ssq.site = new := by
    rw [State.followStreams_ssq_eq]; rfl
  have hnow : (s.leaveSite.modSsq fun q => { q with site := new }).followStreams.now = s.now := by simp
  rw [h, State.movedTo]
  rcases State.entryActions_scanner (s.leaveSite.modSsq fun q => { q with site := new }).followStreams with he | ⟨ha, he⟩
  · exact .inl fun x => (he x).trans (hl x)
  · exact .inr ⟨hsite.symm.trans ha, fun x => by rw [he x, hl x, hnow]⟩

/-- A move keeps the nodes as the streams and the site state have them (R3, R12, R61, R130). -/
theorem State.changeSite_nodesOk {s : State} (hn : s.NodesOk) (new : SiteState) (cause : Cause) :
    (s.changeSite new cause).NodesOk := by
  obtain ⟨-, hg, hx⟩ := State.nodesOk_iff.mp hn
  have hq := State.changeSite_ssq_eq new cause s
  have hst : (s.changeSite new cause).ssq.streaming = new.streams := by rw [hq]; rfl
  have left (x : Side) : (if s.ssq.site = .armed then (s.tsu.scanners.get x).stopCalibration
      else s.tsu.scanners.get x).Fits s.ssq.streaming False := by
    split
    · exact (hx x).stopCalibration _
    · rename_i ha
      exact (hx x).of_idle (not_not.mp fun hne => ha ((hx x).armed hne)) _
  refine State.nodesOk_iff.mpr ⟨by rw [hst, State.changeSite_site], fun g => ?gauge, fun x => ?scanner⟩
  case gauge => rw [hst, State.changeSite_node]; exact (hg g).followed ..
  case scanner =>
    rw [hst, State.changeSite_site]
    rcases State.changeSite_scanner new cause s with h | ⟨ha, h⟩ <;> rw [h x]
    · exact ((left x).followed ..).of_idle (not_not.mp fun hne => ((left x).followed ..).armed hne) _
    · exact ((left x).followed ..).beginCalibration _ ha

/-- A move sends stream-on or stream-off over each link where the streams start or stop, and nothing elsewhere (R3). -/
theorem State.changeSite_linksOk {s : State} (h : s.LinksOk) (new : SiteState) (cause : Cause) :
    (s.changeSite new cause).LinksOk := by
  have hst : (s.changeSite new cause).ssq.streaming = new.streams := by rw [State.changeSite_ssq_eq]; rfl
  have left (x : Side) : LinkAgrees s.ssq.streaming (if s.ssq.site = .armed then (s.tsu.scanners.get x).stopCalibration
      else s.tsu.scanners.get x).sent := by
    split
    · rw [Scanner.stopCalibration_sent]; exact h.scanner x
    · exact h.scanner x
  constructor
  case gauge => intro g; rw [hst, State.changeSite_node]; exact GaugeNode.followed_links (h.gauge g) ..
  case scanner =>
    intro x
    rw [hst]
    rcases State.changeSite_scanner new cause s with hc | ⟨-, hc⟩ <;> rw [hc x] <;>
      exact Scanner.followed_links (left x) ..

end Sys2Proof.Machine
end

section
/-! SUPPORT. The conditions of the site through the operations that move it: an entry with its settle point and the move on of
R10, the closure of a train, an edge reported, and the site control actions. -/

namespace Sys2Proof.Machine

/-! ## The pieces of an entry -/

theorem State.KeepsNodes.settleIfBegun (b : Bool) (s : State) : s.KeepsNodes (s.settleIfBegun b) :=
  .of_eq (by simp) (by simp) (by simp)

theorem State.Seated.settleIfBegun {s : State} (h : s.Seated) (b : Bool) : (s.settleIfBegun b).Seated :=
  h.congr (by simp) (by simp)

/-- The site state and the streams decide alone whether the sequencer's own change touches the nodes. -/
theorem State.NodesOk.modSsq {s : State} (h : s.NodesOk) {f : Ssq → Ssq} (hs : (f s.ssq).site = s.ssq.site)
    (ht : (f s.ssq).streaming = s.ssq.streaming) : (s.modSsq f).NodesOk := by
  obtain ⟨hq, hg, hx⟩ := State.nodesOk_iff.mp h
  rw [State.nodesOk_iff, State.modSsq_ssq, hs, ht]
  exact ⟨hq, hg, hx⟩

theorem State.LinksOk.modSsq {s : State} (h : s.LinksOk) {f : Ssq → Ssq} (ht : (f s.ssq).streaming = s.ssq.streaming) :
    (s.modSsq f).LinksOk :=
  ⟨fun g => by rw [State.modSsq_ssq, ht]; exact h.gauge g, fun x => by rw [State.modSsq_ssq, ht]; exact h.scanner x⟩

/-- A site that moves on to ARMED has no train open and no disable pending (R10). -/
theorem State.arm_siteOk {s : State} (ht : s.axt.train = none) (hd : s.ssq.disablePending = false) :
    s.arm.SiteOk := by
  refine State.siteOk_iff.mpr ⟨State.changeSite_seated ?_ (fun _ => rfl) ?_ _, fun _ _ => .inr (.inl ?_)⟩
  · simp [ht]
  · simp [hd]
  · exact State.changeSite_site ..

theorem State.arm_nodesOk {s : State} (h : s.NodesOk) : s.arm.NodesOk := by
  refine State.changeSite_nodesOk ?_ _ _
  exact h.modSsq rfl rfl

theorem State.arm_linksOk {s : State} (h : s.LinksOk) : s.arm.LinksOk :=
  State.changeSite_linksOk (h.modSsq rfl) _ _

/-- The move on of R10: a site in PATROL, DORMANT or SWEEP arms in LEVEL mode with the input active, and any other stays. -/
theorem State.levelCarry_cases (s : State) :
    (s.levelCarry = s.arm ∧ (s.ssq.site = .patrol ∨ s.ssq.site = .dormant ∨ s.ssq.site = .sweep))
    ∨ (s.levelCarry = s ∧ s.MovedOn) := by
  unfold State.levelCarry State.MovedOn
  split
  · split
    · rename_i h; exact .inl ⟨rfl, .inl h⟩
    · rename_i h; exact .inl ⟨rfl, .inr (.inl h)⟩
    · rename_i h; exact .inl ⟨rfl, .inr (.inr h)⟩
    · rename_i hp hd hs
      refine .inr ⟨rfl, fun _ _ => ?_⟩
      revert hp hd hs
      cases s.ssq.site <;> simp
  · rename_i h
    exact .inr ⟨rfl, fun hl hi => absurd (by rw [hl, hi]; rfl) h⟩

/-- A site in none of PASSAGE has no train open and no disable pending. -/
theorem State.Seated.no_train {s : State} (h : s.Seated) (hp : s.ssq.site ≠ .passage) :
    s.axt.train = none ∧ s.ssq.disablePending = false :=
  ⟨Option.not_isSome_iff_eq_none.mp fun ht => hp (h.passage.mpr ht), Bool.eq_false_iff.mpr fun hd => hp (h.disabling hd)⟩

theorem State.Seated.levelCarry {s : State} (h : s.Seated) : s.levelCarry.SiteOk := by
  rcases s.levelCarry_cases with ⟨he, hs⟩ | ⟨he, hm⟩ <;> rw [he]
  · obtain ⟨ht, hd⟩ := h.no_train (by rintro hp; simp [hp] at hs)
    exact State.arm_siteOk ht hd
  · exact State.siteOk_iff.mpr ⟨h, hm⟩

theorem State.levelCarry_nodesOk {s : State} (h : s.NodesOk) : s.levelCarry.NodesOk := by
  rcases s.levelCarry_cases with ⟨he, -⟩ | ⟨he, -⟩ <;> rw [he]
  · exact State.arm_nodesOk h
  · exact h

theorem State.levelCarry_linksOk {s : State} (h : s.LinksOk) : s.levelCarry.LinksOk := by
  rcases s.levelCarry_cases with ⟨he, -⟩ | ⟨he, -⟩ <;> rw [he]
  · exact State.arm_linksOk h
  · exact h

/-! ## An entry -/

theorem State.enter_siteOk {s : State} {new : SiteState} (hp : new = .passage ↔ s.axt.train.isSome)
    (hl : new = .armed → s.ssq.latch = true) (hd : s.ssq.disablePending = true → new = .passage) (cause : Cause) :
    (s.enter new cause).SiteOk :=
  ((State.changeSite_seated hp hl hd cause).settleIfBegun _).levelCarry

theorem State.enter_nodesOk {s : State} (h : s.NodesOk) (new : SiteState) (cause : Cause) :
    (s.enter new cause).NodesOk :=
  State.levelCarry_nodesOk ((State.KeepsNodes.settleIfBegun _ _).nodesOk (State.changeSite_nodesOk h new cause))

theorem State.enter_linksOk {s : State} (h : s.LinksOk) (new : SiteState) (cause : Cause) :
    (s.enter new cause).LinksOk :=
  State.levelCarry_linksOk ((State.KeepsNodes.settleIfBegun _ _).linksOk (State.changeSite_linksOk h new cause))

/-- An entry to a state of a site without a train, from a site without one. -/
theorem State.SiteOk.enter {s : State} (h : s.SiteOk) (hs : s.ssq.site ≠ .passage) {new : SiteState}
    (hp : new ≠ .passage) (ha : new ≠ .armed) (cause : Cause) : (s.enter new cause).SiteOk := by
  obtain ⟨ht, hd⟩ := (State.siteOk_iff.mp h).1.no_train hs
  exact State.enter_siteOk (by simp [hp, ht]) (fun h => absurd h ha) (by simp [hd]) cause

theorem State.restState_ne (s : State) : s.restState ≠ .passage ∧ s.restState ≠ .armed ∧ s.restState ≠ .sweep := by
  unfold State.restState; split <;> simp

/-! ## Both conditions of the site, and what is sent -/

/-- The conditions of the site that hold together (SiteOk and NodesOk). -/
def State.AllAgrees (s : State) : Prop := s.SiteOk ∧ s.NodesOk

/-- An operation that leaves the sequencer, the nodes' fit, the train and the configuration as they were. -/
structure State.KeepsSite (s t : State) : Prop where
  nodes  : s.KeepsNodes t
  train  : t.axt.train.isSome = s.axt.train.isSome
  active : t.mpc.active = s.mpc.active

theorem State.KeepsSite.allAgrees {s t : State} (h : s.KeepsSite t) (hs : s.AllAgrees) : t.AllAgrees :=
  ⟨hs.1.congr h.nodes.ssq h.train h.active, h.nodes.nodesOk hs.2⟩

theorem State.KeepsSite.trans {s t u : State} (h : s.KeepsSite t) (h' : t.KeepsSite u) : s.KeepsSite u :=
  ⟨h.nodes.trans h'.nodes, h'.train.trans h.train, h'.active.trans h.active⟩

/-- An operation that touches neither the sequencer, a node, the train nor the configuration. -/
theorem State.KeepsSite.of_eq {s t : State} (hq : t.ssq = s.ssq) (hn : t.nodes = s.nodes)
    (hx : t.tsu.scanners = s.tsu.scanners) (ht : t.axt.train.isSome = s.axt.train.isSome)
    (ha : t.mpc.active = s.mpc.active) : s.KeepsSite t :=
  ⟨.of_eq hq hn hx, ht, ha⟩

theorem State.AllAgrees.enter {s : State} (h : s.AllAgrees) (hs : s.ssq.site ≠ .passage) {new : SiteState}
    (hp : new ≠ .passage) (ha : new ≠ .armed) (cause : Cause) : (s.enter new cause).AllAgrees :=
  ⟨h.1.enter hs hp ha cause, State.enter_nodesOk h.2 new cause⟩

/-! ## A train's closure and an edge reported -/

theorem State.siteClosure_allAgrees {s : State} (ht : s.axt.train = none) (hn : s.NodesOk) :
    s.siteClosure.AllAgrees := by
  unfold State.siteClosure
  cases hd : s.ssq.disablePending
  case true =>
    exact ⟨State.enter_siteOk (by simp [ht]) (by simp) (by simp) _, State.enter_nodesOk (hn.modSsq rfl rfl) _ _⟩
  case false =>
    have hu : (s.enter s.restState .trainClosure).AllAgrees :=
      ⟨State.enter_siteOk (by simp [ht, s.restState_ne.1]) (fun h => absurd h s.restState_ne.2.1) (by simp [hd]) _,
        State.enter_nodesOk hn _ _⟩
    simp only [Bool.false_eq_true, if_false]
    generalize s.enter s.restState .trainClosure = u at hu
    have carry (hs : u.ssq.site = .patrol ∨ u.ssq.site = .dormant) :
        (if u.levelMode then u.modSsq fun q => { q with latch := false } else u.arm).AllAgrees := by
      obtain ⟨htu, hdu⟩ := (State.siteOk_iff.mp hu.1).1.no_train (by rintro hp; simp [hp] at hs)
      split
      · refine ⟨?_, hu.2.modSsq rfl rfl⟩
        obtain ⟨h1, h2, h3, h4, h5, h6, h7, h8, h9, h10⟩ := hu.1
        exact ⟨h1, h2, h3, h4, h5, fun ha => by simp_all, fun _ => rfl, h8, h9, h10⟩
      · exact ⟨State.arm_siteOk htu hdu, State.arm_nodesOk hu.2⟩
    split
    · split
      · exact carry (.inl ‹_›)
      · exact carry (.inr ‹_›)
      · exact hu
    · exact hu

theorem State.siteClosure_linksOk {s : State} (h : s.LinksOk) : s.siteClosure.LinksOk := by
  unfold State.siteClosure
  cases s.ssq.disablePending
  case true => exact State.enter_linksOk (h.modSsq rfl) _ _
  case false =>
    have hu := State.enter_linksOk h s.restState .trainClosure
    simp only [Bool.false_eq_true, if_false]
    generalize s.enter s.restState .trainClosure = u at hu
    have carry : (if u.levelMode then u.modSsq fun q => { q with latch := false } else u.arm).LinksOk := by
      split
      · exact hu.modSsq rfl
      · exact State.arm_linksOk hu
    split
    · split <;> assumption
    · exact hu

theorem State.AllAgrees.reportEdge {s : State} (h : s.AllAgrees) : s.reportEdge.AllAgrees := by
  unfold State.reportEdge
  split
  · exact h.enter (by simp [*]) (by decide) (by decide) _
  · exact h.enter (by simp [*]) (by decide) (by decide) _
  · rename_i hs
    split
    · rename_i hd
      refine ⟨?_, h.2.modSsq rfl rfl⟩
      obtain ⟨h1, h2, h3, h4, h5, h6, h7, h8, h9, h10⟩ := h.1
      exact ⟨h1, h2, h3, h4, fun _ => ⟨hs, hd⟩, h6, h7, h8, h9, h10⟩
    · exact h
  · exact h

theorem State.reportEdge_linksOk {s : State} (h : s.LinksOk) : s.reportEdge.LinksOk := by
  unfold State.reportEdge
  split
  · exact State.enter_linksOk h _ _
  · exact State.enter_linksOk h _ _
  · split
    · exact h.modSsq rfl
    · exact h
  · exact h

/-! ## The approach and the site control actions -/

/-- A false approach leaves ARMED, so no train is open (R9, R10). -/
theorem State.AllAgrees.falseApproach {s : State} (h : s.AllAgrees) (hs : s.ssq.site = .armed) (cause : Cause) :
    (s.falseApproach cause).AllAgrees := by
  obtain ⟨ht, hd⟩ := (State.siteOk_iff.mp h.1).1.no_train (by simp [hs])
  exact ⟨State.enter_siteOk (by simp [ht]) (by simp) (by simp [hd]) _, State.enter_nodesOk (h.2.modSsq rfl rfl) _ _⟩

theorem State.falseApproach_linksOk {s : State} (h : s.LinksOk) (cause : Cause) : (s.falseApproach cause).LinksOk :=
  State.enter_linksOk (h.modSsq rfl) _ _

theorem State.AllAgrees.enableSite {s : State} (h : s.AllAgrees) : s.enableSite.AllAgrees := by
  unfold State.enableSite
  split
  · exact h.enter (by simp [*]) s.restState_ne.1 s.restState_ne.2.1 _
  · refine ⟨?_, h.2.modSsq rfl rfl⟩
    obtain ⟨h1, h2, h3, h4, h5, h6, h7, h8, h9, h10⟩ := h.1
    exact ⟨h1, h2, h3, h4, h5, h6, h7, nofun, h9, h10⟩
  · exact h

theorem State.enableSite_linksOk {s : State} (h : s.LinksOk) : s.enableSite.LinksOk := by
  unfold State.enableSite
  split
  · exact State.enter_linksOk h _ _
  · exact h.modSsq rfl
  · exact h

theorem State.AllAgrees.disableSite {s : State} (h : s.AllAgrees) : s.disableSite.AllAgrees := by
  unfold State.disableSite
  split
  · exact h
  · rename_i hs
    refine ⟨?_, h.2.modSsq rfl rfl⟩
    obtain ⟨h1, h2, h3, h4, h5, h6, h7, h8, h9, h10⟩ := h.1
    exact ⟨h1, h2, h3, h4, h5, h6, h7, fun _ => hs, h9, h10⟩
  · exact h.enter (by assumption) (by decide) (by decide) _

theorem State.disableSite_linksOk {s : State} (h : s.LinksOk) : s.disableSite.LinksOk := by
  unfold State.disableSite
  split
  · exact h
  · exact h.modSsq rfl
  · exact State.enter_linksOk h _ _

theorem State.AllAgrees.dormancyOnSite {s : State} (h : s.AllAgrees) : s.dormancyOnSite.AllAgrees := by
  have hu : (s.modSsq fun q => { q with dormancy := true }).AllAgrees := by
    refine ⟨?_, h.2.modSsq rfl rfl⟩
    obtain ⟨h1, h2, h3, h4, h5, h6, h7, h8, h9, h10⟩ := h.1
    exact ⟨h1, h2, h3, h4, fun hr => ⟨(h5 hr).1, rfl⟩, h6, h7, h8, h9, h10⟩
  unfold State.dormancyOnSite
  dsimp only
  split
  · rename_i hs
    exact hu.enter (ne_of_eq_of_ne hs (by decide)) (by decide) (by decide) _
  · exact hu

theorem State.dormancyOnSite_linksOk {s : State} (h : s.LinksOk) : s.dormancyOnSite.LinksOk := by
  have hu := h.modSsq (f := fun q => { q with dormancy := true }) rfl
  unfold State.dormancyOnSite
  dsimp only
  split
  · exact State.enter_linksOk hu _ _
  · exact hu

theorem State.AllAgrees.dormancyOffSite {s : State} (h : s.AllAgrees) : s.dormancyOffSite.AllAgrees := by
  have hu : (s.modSsq fun q => { q with dormancy := false, restTimer := none }).AllAgrees := by
    refine ⟨?_, h.2.modSsq rfl rfl⟩
    obtain ⟨h1, h2, h3, h4, h5, h6, h7, h8, h9, h10⟩ := h.1
    exact ⟨h1, h2, h3, h4, nofun, h6, h7, h8, h9, h10⟩
  unfold State.dormancyOffSite
  dsimp only
  split
  · rename_i hs; exact hu.enter (ne_of_eq_of_ne hs (by decide)) (by decide) (by decide) _
  · rename_i hs; exact hu.enter (ne_of_eq_of_ne hs (by decide)) (by decide) (by decide) _
  · exact hu

theorem State.dormancyOffSite_linksOk {s : State} (h : s.LinksOk) : s.dormancyOffSite.LinksOk := by
  have hu := h.modSsq (f := fun q => { q with dormancy := false, restTimer := none }) rfl
  unfold State.dormancyOffSite
  dsimp only
  split
  · exact State.enter_linksOk hu _ _
  · exact State.enter_linksOk hu _ _
  · exact hu

end Sys2Proof.Machine
end

section
/-! SUPPORT. The commands that move no site: each keeps the sequencer, the nodes' fit, the train and the configuration. -/

namespace Sys2Proof.Machine

/-! ## Gauge nodes (R60 to R66) -/

theorem State.KeepsNodes.gaugeDuplicate {s : State} {g : Fin 4}
    (h : s.nodes[g].status = .settling ∨ s.nodes[g].status = .present) : s.KeepsNodes (s.gaugeDuplicate g) :=
  .modNode ⟨rfl, fun _ hf => ⟨hf.status, iff_of_true rfl h⟩⟩

theorem State.KeepsNodes.acceptGaugeSeq {s : State} {g : Fin 4} (f : GaugeFrame)
    (h : s.nodes[g].status = .settling ∨ s.nodes[g].status = .present) : s.KeepsNodes (s.acceptGaugeSeq g f) :=
  .modNode ⟨rfl, fun _ hf => ⟨hf.status, iff_of_true rfl h⟩⟩

/-- Two changes of one node are one change of it. -/
theorem State.modNode_modNode (s : State) (g : Fin 4) (f f' : GaugeNode → GaugeNode) :
    (s.modNode g f).modNode g f' = s.modNode g (f' ∘ f) := by
  simp only [State.modNode, vupd]
  simp

/-- A good frame in SETTLING or LOST is taken, and the settle discard takes it too or is over (R61, R65, R66). -/
theorem State.KeepsNodes.acceptThen {s : State} {g : Fin 4} (f : GaugeFrame) {h : GaugeNode → GaugeNode}
    (hn : s.nodes[g].status ≠ .off) (hs : ∀ n, (h n).sent = n.sent) (hl : ∀ n, (h n).lossTimer = n.lossTimer)
    (hst : ∀ n, (h n).status = .settling ∨ (h n).status = .present) :
    s.KeepsNodes ((s.acceptGaugeSeq g f).modNode g h) := by
  rw [State.acceptGaugeSeq, State.modNode_modNode]
  refine .modNode ⟨hs _, fun b hf => ⟨?_, ?_⟩⟩
  · have hne : ∀ n, (h n).status ≠ .off := fun n => by rcases hst n with h | h <;> rw [h] <;> decide
    exact iff_of_false (hne _) fun hb => hn (hf.status.mpr hb)
  · exact iff_of_true (by simp [hl]) (hst _)

theorem State.KeepsNodes.acceptThenSettle {s : State} {g : Fin 4} (f : GaugeFrame) (hn : s.nodes[g].status ≠ .off) :
    s.KeepsNodes ((s.acceptGaugeSeq g f).modNode g GaugeNode.settleFrame) := by
  refine .acceptThen f hn (fun _ => rfl) (fun _ => rfl) fun n => ?_
  unfold GaugeNode.settleFrame
  dsimp only
  split <;> simp

theorem State.KeepsNodes.gaugeMissing (g : Fin 4) (missing : Nat) (s : State) : s.KeepsNodes (s.gaugeMissing g missing) :=
  .modNode ⟨rfl, fun _ hf => ⟨hf.status, hf.loss⟩⟩

theorem State.gaugeMissing_status (g : Fin 4) (missing : Nat) (s : State) :
    ((s.gaugeMissing g missing).nodes[g]).status = s.nodes[g].status := by
  rw [State.gaugeMissing, State.modNode_nodes, vupd_get_self]

theorem State.KeepsNodes.settlingFrame {s : State} {g : Fin 4} (f : GaugeFrame) (h : s.nodes[g].status = .settling) :
    s.KeepsNodes (s.settlingFrame g f) := by
  unfold State.settlingFrame
  split
  · exact .gaugeDuplicate (.inl h)
  · exact .acceptThenSettle f (by rw [h]; decide)
  · rename_i m _
    exact (State.KeepsNodes.gaugeMissing g m s).trans
      (.acceptThenSettle f (by rw [State.gaugeMissing_status, h]; decide))

theorem State.KeepsNodes.deliver (g : Fin 4) (f : GaugeFrame) (s : State) : s.KeepsNodes (s.deliver g f) :=
  .of_eq (by simp) (by simp) (by simp)

theorem State.KeepsNodes.presentFrame {s : State} {g : Fin 4} (f : GaugeFrame) (h : s.nodes[g].status = .present) :
    s.KeepsNodes (s.presentFrame g f) := by
  unfold State.presentFrame
  split
  · exact .gaugeDuplicate (.inr h)
  · exact (State.KeepsNodes.acceptGaugeSeq f (.inr h)).trans (.deliver ..)
  · rename_i m _
    have hm := (State.gaugeMissing_status g m s).trans h
    exact (((State.KeepsNodes.gaugeMissing g m s).trans (.acceptGaugeSeq f (.inr hm))).trans
      (.of_eq (by simp) (by simp) (by simp))).trans (.deliver ..)

theorem State.KeepsNodes.resyncFrame {s : State} {g : Fin 4} (f : GaugeFrame) (h : s.nodes[g].status = .lost) :
    s.KeepsNodes (s.resyncFrame g f) := by
  have hn : s.nodes[g].status ≠ .off := by rw [h]; decide
  unfold State.resyncFrame
  dsimp only
  split
  · exact .acceptThenSettle f hn
  · exact (State.KeepsNodes.acceptThen f (h := fun n => { n with status := .present }) hn (fun _ => rfl) (fun _ => rfl)
      fun _ => .inr rfl).trans (.deliver ..)

theorem State.KeepsNodes.gaugeFrame (g : Fin 4) (t : Nat) (a : GaugeArrival) (s u : State)
    (h : execGaugeFrame g t a s = .next u) : s.KeepsNodes u := by
  have ha : s.KeepsNodes (s.advance t) := .of_eq rfl rfl rfl
  refine ha.trans ?_
  obtain rfl := Host.Outcome.next.inj h
  split
  · exact .of_eq rfl rfl rfl
  · exact .modNode ⟨rfl, fun _ hf => ⟨hf.status, hf.loss⟩⟩
  · exact .settlingFrame _ ‹_›
  · exact .presentFrame _ ‹_›
  · exact .resyncFrame _ ‹_›

theorem State.KeepsNodes.loseGauge {s : State} {g : Fin 4}
    (h : s.nodes[g].status = .settling ∨ s.nodes[g].status = .present) : s.KeepsNodes (s.loseGauge g) := by
  have hl : s.KeepsNodes (s.modNode g fun n => { n with status := .lost, lossTimer := none }) := by
    refine .modNode ⟨rfl, fun b hf => ⟨?_, by simp⟩⟩
    exact iff_of_false nofun fun hb => by
      have := hf.status.mpr hb
      rcases h with h | h <;> rw [h] at this <;> cases this
  refine hl.trans ?_
  unfold State.loseGauge
  generalize (s.modNode g fun n => { n with status := .lost, lossTimer := none }) = u
  dsimp only
  generalize hv : (nodeChannels g).foldl (fun s j => s.captureNodeLost j.2) u = v
  have huv : u.KeepsNodes v := by
    subst hv
    exact .of_eq (by simp [nodeChannels]) (by simp [nodeChannels]) (by simp [nodeChannels])
  have hw : v.KeepsNodes (v.modNode g fun n => { n with losses := sat16 (n.losses + 1) }) :=
    .modNode ⟨rfl, fun _ hf => ⟨hf.status, hf.loss⟩⟩
  exact (huv.trans hw).trans (.of_eq (by simp) (by simp) (by simp))

/-! ## Scanners (R130, R131, R136) -/

theorem State.modScanner_get (x : Side) (f : Scanner → Scanner) (s : State) :
    (s.modScanner x f).tsu.scanners.get x = f (s.tsu.scanners.get x) :=
  PerSide.get_upd_self ..

/-- A calibration that fails leaves its scanner with none in flight (R136). -/
theorem State.KeepsNodes.failCalibration (x : Side) (s : State) : s.KeepsNodes (s.failCalibration x) := by
  refine State.KeepsNodes.trans (t := s.modScanner x fun y =>
    { y with calState := .failed, progress := .idle, shutterTimer := none, shutterClosed := false })
    (.modScanner ⟨rfl, fun _ _ hf => ⟨hf.status, by simp, by simp, by simp, hf.loss⟩⟩) (.of_eq ?_ ?_ ?_)
  all_goals simp [State.failCalibration]

/-- A calibration that takes a sample goes on, or ends with a valid record (R136). -/
theorem State.KeepsNodes.accumulate {x : Side} (f : ScannerFrame) {s : State}
    (h : (s.tsu.scanners.get x).progress ≠ .idle) : s.KeepsNodes (s.accumulate x f) := by
  refine .modScanner ?_
  dsimp only
  split
  · exact ⟨rfl, fun _ _ hf => ⟨hf.status, by simp [Scanner.complete], by simp [Scanner.complete],
      by simp [Scanner.complete], hf.loss⟩⟩
  · exact ⟨rfl, fun _ _ hf => ⟨hf.status, fun _ => hf.armed h, by simpa using hf.shutter.mpr h, by simp, hf.loss⟩⟩

theorem State.KeepsNodes.calibrationFrame (x : Side) (f : ScannerFrame) (s : State) :
    s.KeepsNodes (s.calibrationFrame x f) := by
  unfold State.calibrationFrame
  split
  · exact .of_eq rfl rfl rfl
  · exact .of_eq rfl rfl rfl
  · exact .accumulate f (by simp [*])
  · exact .accumulate f (by simp [*])
  · exact .failCalibration ..

theorem State.KeepsNodes.ambientFrame (x : Side) (f : ScannerFrame) (t : Option Int) (s : State) :
    s.KeepsNodes (s.ambientFrame x f t) := by
  unfold State.ambientFrame
  split
  · split
    · exact .modScanner ⟨rfl, fun _ _ hf => ⟨hf.status, hf.armed, hf.shutter, hf.timer, hf.loss⟩⟩
    · exact .of_eq rfl rfl rfl
  · exact .of_eq rfl rfl rfl

/-- What takes an accepted frame after its sequence has been taken keeps the nodes (R130). -/
theorem State.KeepsNodes.acceptScannerFrame {x : Side} (f : ScannerFrame) {s u : State}
    (h : u.KeepsNodes (s.modScanner x fun y =>
      { y with prev := some f.seq, lossTimer := some (s.now + ms (s.cfg .tlost)) })) :
    u.KeepsNodes (s.acceptScannerFrame x f) := by
  refine h.trans ?_
  unfold State.acceptScannerFrame
  exact ((State.KeepsNodes.calibrationFrame x f _).trans (.of_eq (by simp) (by simp) (by simp))).trans (.ambientFrame ..)

theorem State.KeepsNodes.presentScannerFrame {x : Side} (f : ScannerFrame) {s : State}
    (h : (s.tsu.scanners.get x).status = .present) : s.KeepsNodes (s.presentScannerFrame x f) := by
  have accept {u : State} (hu : (u.tsu.scanners.get x).status = .present) : u.KeepsNodes (u.acceptScannerFrame x f) :=
    .acceptScannerFrame f (.modScanner ⟨rfl, fun _ _ hf => ⟨hf.status, hf.armed, hf.shutter, hf.timer,
      iff_of_true rfl hu⟩⟩)
  unfold State.presentScannerFrame
  split
  · exact accept h
  · exact .modScanner ⟨rfl, fun _ _ hf => ⟨hf.status, hf.armed, hf.shutter, hf.timer, iff_of_true rfl h⟩⟩
  · rename_i m _
    have hj : s.KeepsNodes (s.scannerJump x m) :=
      (State.KeepsNodes.modScanner (x := x) (f := fun y => { y with missing := sat16 (y.missing + m) })
        ⟨rfl, fun _ _ hf => ⟨hf.status, hf.armed, hf.shutter, hf.timer, hf.loss⟩⟩).trans (.of_eq rfl rfl rfl)
    refine hj.trans (accept ?_)
    rw [State.scannerJump, State.modGate_scanners, State.modScanner_get]
    exact h

theorem State.KeepsNodes.scannerFrame (x : Side) (t : Nat) (a : ScannerArrival) (s u : State)
    (h : execScannerFrame x t a s = .next u) : s.KeepsNodes u := by
  have ha : s.KeepsNodes (s.advance t) := .of_eq rfl rfl rfl
  refine ha.trans ?_
  generalize hv : s.advance t = v
  have bad : v.KeepsNodes (v.modScanner x fun y => { y with bad := sat16 (y.bad + 1) }) :=
    .modScanner ⟨rfl, fun _ _ hf => ⟨hf.status, hf.armed, hf.shutter, hf.timer, hf.loss⟩⟩
  simp only [execScannerFrame, hv] at h
  obtain rfl := Host.Outcome.next.inj h
  split
  · exact .of_eq rfl rfl rfl
  · split
    · exact .presentScannerFrame _ ‹_›
    · exact bad
  · rename_i hl
    split
    · rename_i f _
      refine .acceptScannerFrame f ?_
      have hm : ((v.modScanner x fun y => { y with status := .present }).modScanner x fun y =>
          { y with prev := some f.seq, lossTimer := some (v.now + ms (v.cfg .tlost)) }) = v.modScanner x fun y =>
          { y with status := .present, prev := some f.seq, lossTimer := some (v.now + ms (v.cfg .tlost)) } := by
        cases x <;> rfl
      refine Eq.mpr (congrArg _ hm) (.modScanner ⟨rfl, fun _ _ hf =>
        ⟨iff_of_false nofun fun hb => ?_, hf.armed, hf.shutter, hf.timer, iff_of_true rfl rfl⟩⟩)
      have := hf.status.mpr hb
      rw [hl] at this
      cases this
    · exact bad

theorem State.KeepsNodes.loseScanner {x : Side} {s : State} (h : (s.tsu.scanners.get x).status = .present) :
    s.KeepsNodes (s.loseScanner x) := by
  have hl : s.KeepsNodes (s.modScanner x fun y => { y with status := .lost, lossTimer := none }) := by
    refine .modScanner ⟨rfl, fun b _ hf => ⟨?_, hf.armed, hf.shutter, hf.timer, by simp⟩⟩
    exact iff_of_false nofun fun hb => by have := hf.status.mpr hb; rw [h] at this; cases this
  refine hl.trans ?_
  unfold State.loseScanner
  generalize (s.modScanner x fun y => { y with status := .lost, lossTimer := none }) = u
  have hg : u.KeepsNodes (u.closeGate x true false) := .of_eq (by simp) (by simp) (by simp)
  refine hg.trans ?_
  dsimp only
  generalize u.closeGate x true false = v
  have hf : v.KeepsNodes (if (v.tsu.scanners.get x).progress = .accumulating then v.failCalibration x else v) := by
    split
    · exact .failCalibration ..
    · exact .of_eq rfl rfl rfl
  exact hf.trans ((State.KeepsNodes.modScanner (x := x) (f := fun y => { y with losses := sat16 (y.losses + 1) })
    ⟨rfl, fun _ _ hk => ⟨hk.status, hk.armed, hk.shutter, hk.timer, hk.loss⟩⟩).trans (.of_eq (by simp) (by simp) (by simp)))

end Sys2Proof.Machine
end

section
/-! SUPPORT. The commands that move the site, and every step: the site state, the train, the timers, the nodes and what is sent
over the links agree after it (EveryStepKeepsTheSite). -/

namespace Sys2Proof.Machine

/-! ## Trains (R37, R42) -/

/-- A train start in slot `k` up to the site's entry to PASSAGE (R37, steps 3 to 5). -/
def State.trainOpened (k : Fin 4) (pr : Pair) (s : State) : State :=
  let s := s.allocate k (travelOf pr true) pr (HeaderFlags.start s.noApproach s.axt.continuation)
  let s := s.modAxt fun a => { a with
    continuation := false
    train := some (.start k s.rps.trainCounter pr (s.now + sec (s.cfg .tclear))) }
  ((s.resetCapturePointers).modTsu fun u => { u with pointer := 0 }).segStart

theorem State.startTrainIn_eq (k : Fin 4) (pr : Pair) (s : State) : s.startTrainIn k pr =
    if (s.trainOpened k pr).calibrationInFlight then
      ((s.trainOpened k pr).enter .passage .trainStart).writeTrain (Report.modFlags fun f => { f with calAborted := true })
    else (s.trainOpened k pr).enter .passage .trainStart := rfl

/-- A train start leaves the sequencer and the nodes as they were until the site enters PASSAGE. -/
theorem State.KeepsNodes.trainOpened (k : Fin 4) (pr : Pair) (s : State) : s.KeepsNodes (s.trainOpened k pr) :=
  .of_eq (by simp [State.trainOpened]) (by simp [State.trainOpened]) (by simp [State.trainOpened])

theorem State.trainOpened_open (k : Fin 4) (pr : Pair) (s : State) : (s.trainOpened k pr).axt.train.isSome := by
  simp [State.trainOpened]

theorem State.KeepsSite.startTrainIn (k : Fin 4) (pr : Pair) (s : State) :
    ((s.trainOpened k pr).enter .passage .trainStart).KeepsSite (s.startTrainIn k pr) := by
  rw [State.startTrainIn_eq]
  split
  · exact .of_eq (by simp) (by simp) (by simp) (by simp) (by simp)
  · exact .of_eq rfl rfl rfl rfl rfl

theorem State.KeepsSite.openCrossing (pr : Pair) (inward : Bool) (v : Nat) (s : State) :
    s.KeepsSite (s.openCrossing pr inward v) :=
  .of_eq (by simp) (by simp) (by simp) (by simp) (by simp)

theorem State.AllAgrees.trainStart {s : State} (h : s.AllAgrees) (pr : Pair) (v : Nat) : (s.trainStart pr v).AllAgrees := by
  unfold State.trainStart
  split
  · rename_i k _
    refine (State.KeepsSite.openCrossing ..).allAgrees ((State.KeepsSite.startTrainIn k pr s).allAgrees ⟨?_, ?_⟩)
    · exact State.enter_siteOk (by simp [State.trainOpened_open]) (by simp) (fun _ => rfl) _
    · exact State.enter_nodesOk ((State.KeepsNodes.trainOpened k pr s).nodesOk h.2) _ _
  · exact h

theorem State.trainStart_linksOk {s : State} (h : s.LinksOk) (pr : Pair) (v : Nat) : (s.trainStart pr v).LinksOk := by
  unfold State.trainStart
  split
  · rename_i k _
    refine (State.KeepsSite.openCrossing ..).nodes.linksOk ((State.KeepsSite.startTrainIn k pr s).nodes.linksOk ?_)
    exact State.enter_linksOk ((State.KeepsNodes.trainOpened k pr s).linksOk h) _ _
  · exact h

/-- A train's closure up to its last vehicle: header, captures, gates and stale channels (R42, R90, R158). -/
def State.trainEnding (t : OpenTrain) (kind : ClosureKind) (s : State) : State :=
  let s := s.writeTrain (Report.modHeader fun h => { h with closure := some kind, endTime := some s.ssq.clock })
  ((s.closeAllCaptures.closeGates true).recordStale t).segClose t t.n

/-- A train's closure up to the Site Sequencer's part in it (R42). -/
def State.trainClosed (t : OpenTrain) (kind : ClosureKind) (s : State) : State :=
  (((s.trainEnding t kind).setSlotState t.slot .closing).modEvu (·.joinSweep t.slot)).modAxt (·.closed kind)

theorem State.closeTrain_eq (t : OpenTrain) (kind : ClosureKind) (s : State) :
    s.closeTrain t kind = (s.trainClosed t kind).siteClosure := rfl

theorem State.KeepsNodes.trainClosed (t : OpenTrain) (kind : ClosureKind) (s : State) :
    s.KeepsNodes (s.trainClosed t kind) :=
  .of_eq (by simp [State.trainClosed, State.trainEnding]) (by simp [State.trainClosed, State.trainEnding])
    (by simp [State.trainClosed, State.trainEnding])

theorem State.trainClosed_train (t : OpenTrain) (kind : ClosureKind) (s : State) :
    (s.trainClosed t kind).axt.train = none := rfl

theorem State.AllAgrees.closeTrain {s : State} (h : s.AllAgrees) (t : OpenTrain) (kind : ClosureKind) :
    (s.closeTrain t kind).AllAgrees :=
  State.siteClosure_allAgrees (s.trainClosed_train t kind) ((State.KeepsNodes.trainClosed t kind s).nodesOk h.2)

theorem State.closeTrain_linksOk {s : State} (h : s.LinksOk) (t : OpenTrain) (kind : ClosureKind) :
    (s.closeTrain t kind).LinksOk :=
  State.siteClosure_linksOk ((State.KeepsNodes.trainClosed t kind s).linksOk h)

/-! ## Completion of a report (R109, R17) -/

/-- A report made COMPLETE up to the settle point and the move on (R109, R159). -/
def State.slotCompleted (k : Fin 4) (s : State) : State :=
  ((s.setSlotState k .complete).noticeComplete k).modEvu (·.leaveSweep k)

theorem State.completeSlot_eq (k : Fin 4) (s : State) :
    s.completeSlot k = ((s.slotCompleted k).settleIfBegun s.settleHolds).levelCarry := rfl

theorem State.KeepsSite.slotCompleted (k : Fin 4) (s : State) : s.KeepsSite (s.slotCompleted k) :=
  .of_eq (by simp [State.slotCompleted]) (by simp [State.slotCompleted]) (by simp [State.slotCompleted])
    (by simp [State.slotCompleted]) (by simp [State.slotCompleted])

theorem State.AllAgrees.completionTest {s : State} (h : s.AllAgrees) (k : Fin 4) : (s.completionTest k).AllAgrees := by
  unfold State.completionTest
  split
  · rw [State.completeSlot_eq]
    have hc := (State.KeepsSite.slotCompleted k s).allAgrees h
    exact ⟨((State.siteOk_iff.mp hc.1).1.settleIfBegun _).levelCarry,
      State.levelCarry_nodesOk ((State.KeepsNodes.settleIfBegun _ _).nodesOk hc.2)⟩
  · exact h

theorem State.completionTest_linksOk {s : State} (h : s.LinksOk) (k : Fin 4) : (s.completionTest k).LinksOk := by
  unfold State.completionTest
  split
  · rw [State.completeSlot_eq]
    exact State.levelCarry_linksOk ((State.KeepsNodes.settleIfBegun _ _).linksOk
      ((State.KeepsSite.slotCompleted k s).nodes.linksOk h))
  · exact h

/-- The end of an evaluation before the completion test (R105, steps 1 to 3 and the release). -/
theorem State.KeepsSite.evaluated (e : Fin 2) (ev : Evaluation) (s : State) : s.KeepsSite
    ((match s.liveReport ev.req.slot ev.req.number with
      | some r => s.completeLive ev r
      | none => s.completeGone ev).release e) := by
  split <;> exact .of_eq (by simp) (by simp) (by simp) (by simp) (by simp)

theorem State.KeepsSite.serveLanes (s : State) : s.KeepsSite s.serveLanes :=
  .of_eq (by simp) (by simp) (by simp) (by simp) (by simp)

theorem State.KeepsSite.modEvu (f : Evu → Evu) (s : State) : s.KeepsSite (s.modEvu f) := .of_eq rfl rfl rfl rfl rfl

theorem State.endPass_cases (k : Fin 4) (s : State) : s.KeepsSite (s.endPass k)
    ∨ ∃ u, s.KeepsSite u ∧ s.endPass k = u.completionTest k := by
  unfold State.endPass
  split
  · exact .inl (.modEvu ..)
  · exact .inr ⟨_, .modEvu .., rfl⟩

theorem State.AllAgrees.endPass {s : State} (h : s.AllAgrees) (k : Fin 4) : (s.endPass k).AllAgrees := by
  rcases s.endPass_cases k with hk | ⟨u, hk, he⟩
  · exact hk.allAgrees h
  · rw [he]; exact (hk.allAgrees h).completionTest k

theorem State.endPass_linksOk {s : State} (h : s.LinksOk) (k : Fin 4) : (s.endPass k).LinksOk := by
  rcases s.endPass_cases k with hk | ⟨u, hk, he⟩
  · exact hk.nodes.linksOk h
  · rw [he]; exact State.completionTest_linksOk (hk.nodes.linksOk h) k

theorem State.sweepAt_cases (k : Fin 4) (r : Report) (pos : SweepPos) (s : State) :
    s.KeepsSite (s.sweepVisit k r pos) ∧ (s.sweepAt k r pos = s.sweepVisit k r pos
      ∨ s.sweepAt k r pos = (s.sweepVisit k r pos).endPass k) := by
  refine ⟨.of_eq (by simp) (by simp) (by simp) (by simp) (by simp), ?_⟩
  unfold State.sweepAt
  dsimp only
  split
  · exact .inr rfl
  · exact .inl rfl

/-- A sweep step keeps the site, or ends a pass from a state that has it (R107, R108). -/
theorem execSweepStep_cases (s u : State) (h : execSweepStep s = .next u) : s.KeepsSite u
    ∨ ∃ k v, s.KeepsSite v ∧ u = v.endPass k := by
  have keep : s.KeepsSite s := .of_eq rfl rfl rfl rfl rfl
  obtain rfl := Host.Outcome.next.inj h
  split
  · exact .inl keep
  · rename_i k _
    split
    · exact .inl keep
    · split
      · exact .inl keep
      · rename_i h _
        dsimp only
        split
        · exact .inr ⟨k, _, .modEvu .., rfl⟩
        · obtain ⟨hv, he | he⟩ := s.sweepAt_cases k h.report (s.evu.sweepPos.norm h.report) <;> rw [he]
          · exact .inl hv
          · exact .inr ⟨k, _, hv, rfl⟩

/-! ## RESTART (R19) -/

theorem State.KeepsSite.abortSlots (s : State) : s.KeepsSite s.abortSlots :=
  .of_eq (by simp) (by simp) (by simp) (by simp) (by simp)

theorem State.quietSite_nodesOk {s : State} (h : s.NodesOk) : s.quietSite.NodesOk
    ∧ ∀ x, (s.quietSite.tsu.scanners.get x).progress = .idle := by
  have hw : s.withdrawCalibration.NodesOk := by
    obtain ⟨hq, hg, hx⟩ := State.nodesOk_iff.mp h
    rw [State.nodesOk_iff, (State.withdrawCalibration_frame s).2.1, (State.withdrawCalibration_frame s).2.2.2.2.1]
    exact ⟨hq, hg, fun x => by rw [State.withdrawCalibration_scanner]; exact (hx x).stopCalibration _⟩
  refine ⟨hw.modSsq rfl rfl, fun x => ?_⟩
  exact (congrArg Scanner.progress (s.withdrawCalibration_scanner x)).trans (Scanner.stopCalibration_idle _)

theorem State.quietSite_linksOk {s : State} (h : s.LinksOk) : s.quietSite.LinksOk := by
  refine State.LinksOk.modSsq (s := s.withdrawCalibration) ⟨fun g => ?_, fun x => ?_⟩ rfl
  · simpa using h.gauge g
  · rw [State.withdrawCalibration_scanner, Scanner.stopCalibration_sent, (State.withdrawCalibration_frame s).2.1]
    exact h.scanner x

theorem State.clearMeasuring_scanner (s : State) (x : Side) :
    s.clearMeasuring.tsu.scanners.get x = { s.tsu.scanners.get x with shutterClosed := false } := by
  cases x <;> rfl

/-- With no calibration in flight clearing the measuring state leaves the nodes' fit (R149). -/
theorem State.clearMeasuring_nodesOk {s : State} (h : s.NodesOk)
    (hi : ∀ x, (s.tsu.scanners.get x).progress = .idle) : s.clearMeasuring.NodesOk := by
  obtain ⟨hq, hg, hx⟩ := State.nodesOk_iff.mp h
  refine State.nodesOk_iff.mpr ⟨hq, hg, fun x => ?_⟩
  rw [State.clearMeasuring_scanner]
  exact ⟨(hx x).status, (hx x).armed, by simp [hi x], (hx x).timer, (hx x).loss⟩

theorem State.clearMeasuring_linksOk {s : State} (h : s.LinksOk) : s.clearMeasuring.LinksOk :=
  ⟨h.gauge, fun x => by rw [State.clearMeasuring_scanner]; exact h.scanner x⟩

/-- RESTART up to its change of the site state: nothing is measured, no train is open (R19, step 1). -/
def State.restarted (s : State) : State := s.quietSite.abortSlots.clearMeasuring

theorem State.restartSite_eq (s : State) :
    s.restartSite = ((s.restarted.changeSite s.restartState .restart).applyPending).levelCarry := rfl

theorem State.restarted_nodesOk {s : State} (h : s.NodesOk) : s.restarted.NodesOk := by
  obtain ⟨hn, hi⟩ := State.quietSite_nodesOk h
  refine State.clearMeasuring_nodesOk ((State.KeepsSite.abortSlots _).nodes.nodesOk hn) fun x => ?_
  simpa using hi x

theorem State.KeepsNodes.applyPending (s : State) : s.KeepsNodes s.applyPending :=
  .of_eq (by simp) (by simp) (by simp)

theorem State.restartState_ne (s : State) : s.restartState ≠ .passage ∧ s.restartState ≠ .armed := by
  unfold State.restartState
  split
  · decide
  · exact ⟨s.restState_ne.1, s.restState_ne.2.1⟩

theorem State.AllAgrees.restartSite {s : State} (h : s.AllAgrees) : s.restartSite.AllAgrees := by
  have ht : s.restarted.axt.train = none := rfl
  have hd : s.restarted.ssq.disablePending = false := by simp [State.restarted, State.quietSite]
  have hn := State.changeSite_nodesOk (State.restarted_nodesOk h.2) s.restartState .restart
  have hs := State.changeSite_seated (s := s.restarted) (new := s.restartState) (by simp [ht, s.restartState_ne.1])
    (fun ha => absurd ha s.restartState_ne.2) (by simp [hd]) .restart
  rw [State.restartSite_eq]
  exact ⟨(hs.congr (by simp) (by simp)).levelCarry,
    State.levelCarry_nodesOk ((State.KeepsNodes.applyPending _).nodesOk hn)⟩

theorem State.restartSite_linksOk {s : State} (h : s.LinksOk) : s.restartSite.LinksOk := by
  rw [State.restartSite_eq]
  exact State.levelCarry_linksOk ((State.KeepsNodes.applyPending _).linksOk (State.changeSite_linksOk
    (State.clearMeasuring_linksOk ((State.KeepsSite.abortSlots _).nodes.linksOk (State.quietSite_linksOk h))) _ _))

/-! ## Configuration (R10, R17) -/

/-- An item stands at its place in the list of all items. -/
theorem Item.all_idx (i : Item) : Item.all[i.idx.val]? = some i := by cases i <;> rfl

theorem Item.idx_inj {i j : Item} (h : i.idx = j.idx) : i = j :=
  Option.some.inj (by rw [← Item.all_idx i, ← Item.all_idx j, h])

theorem State.KeepsNodes.setActive (it : Item) (v : Nat) (s : State) : s.KeepsNodes (s.setActive it v) :=
  .of_eq rfl rfl rfl

theorem State.KeepsSite.setPending (it : Item) (v : Nat) (s : State) : s.KeepsSite (s.setPending it v) :=
  .of_eq rfl rfl rfl rfl rfl

theorem State.cfg_setActive (it j : Item) (v : Nat) (s : State) :
    (s.setActive it v).cfg j = if j = it then v else s.cfg j := by
  unfold State.cfg State.setActive
  split
  · subst_vars; simp
  · rename_i hne
    have : (it.idx : Nat) ≠ j.idx := fun he => hne (Item.idx_inj (Fin.ext he.symm))
    simp [this]

/-- A value made active moves the site on where it is the approach mode's, and leaves the mode as it was elsewhere (R10). -/
theorem State.AllAgrees.applyConfig {s : State} (h : s.AllAgrees) (it : Item) (v : Nat) (o : ReplyOutcome) :
    (s.applyConfig it v o).AllAgrees := by
  have hnodes := State.KeepsNodes.setActive it v s
  have hseat : (s.setActive it v).Seated := (State.siteOk_iff.mp h.1).1.congr rfl rfl
  unfold State.applyConfig
  split
  case h_2 => exact (State.KeepsSite.setPending ..).allAgrees h
  case h_3 => exact h
  have other (hit : it ≠ .approachMode) : (s.setActive it v).AllAgrees := by
    refine ⟨State.siteOk_iff.mpr ⟨hseat, ?_⟩, hnodes.nodesOk h.2⟩
    unfold State.MovedOn State.levelMode
    rw [State.cfg_setActive, if_neg hit.symm]
    exact h.1.level
  unfold State.afterActive
  split
  · rename_i p hp
    refine (State.KeepsSite.of_eq ?_ ?_ ?_ ?_ ?_).allAgrees (other (by rintro rfl; cases hp)) <;> simp
  · split
    · exact ⟨hseat.levelCarry, State.levelCarry_nodesOk (hnodes.nodesOk h.2)⟩
    · exact other (by assumption)

theorem State.applyConfig_linksOk {s : State} (h : s.LinksOk) (it : Item) (v : Nat) (o : ReplyOutcome) :
    (s.applyConfig it v o).LinksOk := by
  have hu := (State.KeepsNodes.setActive it v s).linksOk h
  unfold State.applyConfig
  split
  · unfold State.afterActive
    split
    · exact (State.KeepsNodes.of_eq (by simp) (by simp) (by simp)).linksOk hu
    · split
      · exact State.levelCarry_linksOk hu
      · exact hu
  · exact (State.KeepsSite.setPending ..).nodes.linksOk h
  · exact h

end Sys2Proof.Machine
end

section
/-! SUPPORT. Every step keeps the site: the commands of each kind, and the theorem for EveryStepKeepsTheSite. -/

namespace Sys2Proof.Machine

/-- What holds before and after the effect of a served request holds after the service. -/
theorem State.serve_of {motive : State → Prop} {s : State} (h : motive s) (p : Port) (serves : QueuedRequest → Bool)
    (effect : QueuedRequest → State → State) (he : ∀ r, motive (effect r s)) : motive (s.serve p serves effect) := by
  unfold State.serve
  split
  · split
    · exact he _
    · exact h
  · exact h

/-- The service of a SITE CONTROL request refuses it or acts on it (R172). -/
theorem State.serveControl_of {motive : State → Prop} {s : State} (h : motive s) (p : Port) (action : Nat)
    (act : QueuedRequest → State → State) (hr : ∀ r a, motive (s.answer p r a)) (ha : ∀ r, motive (act r s)) :
    motive (s.serveControl p action act) := by
  refine State.serve_of h p _ _ fun r => ?_
  split
  · exact hr ..
  · exact ha r

theorem State.KeepsSite.refl (s : State) : s.KeepsSite s := .of_eq rfl rfl rfl rfl rfl

theorem State.KeepsSite.answer (p : Port) (r : QueuedRequest) (a : Reply) (s : State) : s.KeepsSite (s.answer p r a) :=
  .of_eq rfl rfl rfl rfl rfl

theorem State.KeepsSite.advance (t : Nat) (s : State) : s.KeepsSite (s.advance t) := .of_eq rfl rfl rfl rfl rfl

theorem State.KeepsSite.modPort (p : Port) (f : PortMachine → PortMachine) (s : State) : s.KeepsSite (s.modPort p f) :=
  .of_eq rfl rfl rfl rfl rfl

/-- The commands that move no site: every row but power-on, the clock's, the site's, RESTART, CONFIG SET and those that report an
edge, close a train or may complete a report. -/
def movesNoSite : Instr → Bool
  | .powerOn | .clockSet _ | .enable _ | .disable _ | .dormancyOn _ | .dormancyOff _ | .restart _ | .configSet _ => false
  | .approachRisingEdge _ | .approachFallingEdge _ | .armingTimerExpiry | .sweepTimerExpiry => false
  | .sweepDurationExpiry | .restTimerExpiry | .siteClockTick | .wheelSensorEdge _ _ | .gateSensorEdge _ => false
  | .clearTimerExpiry | .standTimerExpiry | .evaluationCompletion _ | .sweepStep => false
  | _ => true

theorem State.KeepsSite.serveRead (p : Port) (kind : Nat) (reply : State → List Byte → Reply) (s : State) :
    s.KeepsSite (s.serveRead p kind reply) :=
  State.serve_of (motive := s.KeepsSite) (.refl s) p _ _ fun _ => .answer ..

/-- The commands that move no site keep the sequencer, the nodes, the train and the configuration. -/
theorem exec_keepsSite {c : Instr} (hc : movesNoSite c = true) {s u : State} (h : exec c s = .next u) : s.KeepsSite u := by
  cases c <;> simp only [movesNoSite, reduceCtorEq] at hc
  case gaugeFrame g t a =>
    refine ⟨.gaugeFrame g t a s u h, ?_, ?_⟩ <;> obtain rfl := Host.Outcome.next.inj h <;> split <;> simp
  case scannerFrame x t a =>
    refine ⟨.scannerFrame x t a s u h, ?_, ?_⟩ <;> obtain rfl := Host.Outcome.next.inj h <;> split <;>
      (try split) <;> simp
  all_goals obtain rfl := Host.Outcome.next.inj h
  case portFramingReady p => split <;> exact .of_eq (by simp) (by simp) (by simp) (by simp) (by simp)
  case frameReceived p t bytes => exact (State.KeepsSite.advance ..).trans (.modPort ..)
  case badKind p => exact State.serve_of (.refl s) p _ _ fun _ => .modPort ..
  case calibrationSet p =>
    exact State.serve_of (.refl s) p _ _ fun _ => .of_eq (by simp) (by simp) (by simp) (by simp) (by simp)
  case trainStream p =>
    exact State.serve_of (.refl s) p _ _ fun _ => .of_eq (by simp) (by simp) (by simp) (by simp) (by simp)
  case trainRelease p =>
    exact State.serve_of (.refl s) p _ _ fun _ => .of_eq (by simp) (by simp) (by simp) (by simp) (by simp)
  case alertTake p =>
    exact State.serve_of (.refl s) p _ _ fun _ => .of_eq (by simp) (by simp) (by simp) (by simp) (by simp)
  case outputFrameSent p => split <;> exact .of_eq rfl rfl rfl rfl rfl
  case streamPage p =>
    split
    · split
      · exact .refl s
      · split
        · exact .modPort ..
        · exact .refl s
    · exact .refl s
  case lineBreak p => split <;> exact .of_eq rfl rfl rfl rfl rfl
  case lineBreakEnd p => exact .modPort ..
  case pairTimerExpiry pr => split <;> exact .of_eq rfl rfl rfl rfl rfl
  case haltTimerExpiry =>
    split
    · split
      · split
        · refine .of_eq (by simp) (by simp) ?_ (by simp) (by simp)
          unfold State.declareHalt; dsimp only; split <;> simp
        · exact .refl s
      · exact .refl s
    · exact .refl s
  case gaugeLossTimerExpiry g =>
    split
    · split
      · rename_i d _ hs
        refine (State.KeepsSite.advance d s).trans ⟨.loseGauge ?_, by simp, by simp⟩
        simpa using hs
      · exact .refl s
    · exact .refl s
  case quietTimerExpiry k => split <;> exact .of_eq rfl rfl rfl rfl rfl
  case scannerLossTimerExpiry x =>
    split
    · split
      · rename_i d _ hs
        exact (State.KeepsSite.advance d s).trans ⟨.loseScanner hs, by simp, by simp⟩
      · exact .refl s
    · exact .refl s
  case shutterTimerExpiry x =>
    split
    · split
      · exact (State.KeepsSite.advance ..).trans ⟨.failCalibration .., by simp, by simp⟩
      · exact .refl s
    · exact .refl s
  case gateTimeExpiry =>
    split
    · split
      · exact .of_eq (by simp) (by simp) (by simp) (by simp) (by simp)
      · exact .refl s
    · exact .refl s
  all_goals exact .serveRead ..

/-! ## Every command -/

theorem execPowerOn_allAgrees (b : Bool) (q : List Instr) :
    State.AllAgrees { State.reset with ssq := { Ssq.reset with approachInput := b }, pending := q } := by
  have hs := (State.siteOk_iff.mp reset_siteOk).1
  refine ⟨State.siteOk_iff.mpr ⟨⟨hs.passage, hs.arm, hs.sweep, hs.duration, hs.rest, hs.latch, hs.offLatch, hs.disabling,
    hs.streaming⟩, fun _ _ => .inl rfl⟩, ?_⟩
  have hn := reset_nodesOk
  exact ⟨hn.streaming, hn.gauge, hn.scanner, hn.armed, hn.shutter, hn.timer, hn.gaugeLoss, hn.scanLoss⟩

theorem State.AllAgrees.modClock {s : State} (h : s.AllAgrees) (clock : Clock) (due : Nat) :
    (s.modSsq fun q => { q with clock := clock, clockDue := due }).AllAgrees := by
  obtain ⟨h1, h2, h3, h4, h5, h6, h7, h8, h9, h10⟩ := h.1
  exact ⟨⟨h1, h2, h3, h4, h5, h6, h7, h8, h9, h10⟩, h.2.modSsq rfl rfl⟩

/-- A rising edge of the approach input arms a site in service without a train, and is latched in PASSAGE (R8, R10). -/
theorem execApproachRisingEdge_allAgrees {t : Nat} {s u : State} (h : s.AllAgrees)
    (he : execApproachRisingEdge t s = .next u) : u.AllAgrees := by
  obtain ⟨h1, h2, h3, h4, h5, h6, h7, h8, h9, -⟩ := h.1
  have hn : ((s.advance t).modSsq fun q => { q with approachInput := true }).NodesOk :=
    ((State.KeepsSite.advance t s).nodes.nodesOk h.2).modSsq rfl rfl
  have arms (hp : s.ssq.site ≠ .passage) :
      ((s.advance t).modSsq fun q => { q with approachInput := true }).arm.AllAgrees := by
    obtain ⟨ht, hd⟩ := (State.siteOk_iff.mp h.1).1.no_train hp
    exact ⟨State.arm_siteOk ht hd, State.arm_nodesOk hn⟩
  obtain rfl := Host.Outcome.next.inj he
  split <;> rename_i hs <;> change s.ssq.site = _ at hs
  · exact ⟨⟨h1, h2, h3, h4, h5, h6, h7, h8, h9, fun _ _ => .inl hs⟩, hn⟩
  · exact arms (by simp [hs])
  · exact arms (by simp [hs])
  · exact arms (by simp [hs])
  · split
    · exact ⟨⟨h1, h2, h3, h4, h5, h6, h7, h8, h9, fun _ _ => .inr (.inl hs)⟩, hn⟩
    · exact ⟨⟨h1, fun _ => hs, h3, h4, h5, h6, h7, h8, h9, fun _ _ => .inr (.inl hs)⟩, hn.modSsq rfl rfl⟩
  · exact ⟨⟨h1, h2, h3, h4, h5, fun _ => rfl, fun ho => by simp [hs] at ho, h8, h9, fun _ _ => .inr (.inr hs)⟩,
      hn.modSsq rfl rfl⟩

theorem execApproachFallingEdge_allAgrees {t : Nat} {s u : State} (h : s.AllAgrees)
    (he : execApproachFallingEdge t s = .next u) : u.AllAgrees := by
  obtain ⟨h1, h2, h3, h4, h5, h6, h7, h8, h9, -⟩ := h.1
  have ha : ((s.advance t).modSsq fun q => { q with approachInput := false }).AllAgrees :=
    ⟨⟨h1, h2, h3, h4, h5, h6, h7, h8, h9, fun _ => nofun⟩, ((State.KeepsSite.advance t s).nodes.nodesOk h.2).modSsq rfl rfl⟩
  obtain rfl := Host.Outcome.next.inj he
  split
  · rename_i hs
    rw [Bool.and_eq_true, decide_eq_true_eq] at hs
    exact ha.falseApproach hs.2 _
  · exact ha

/-- An edge in service changes its pair machine, and what it completes, if anything, goes to the open train or to the site
(R20). -/
theorem State.pairEdge_cases (pr : Pair) (outer : Bool) (s : State) : ∃ m c,
    (s.axt.train.isSome ∧ s.pairEdge pr outer = (s.modPair pr fun _ => m).passageCrossing pr c)
    ∨ (s.axt.train.isSome = false ∧ s.pairEdge pr outer = (s.modPair pr fun _ => m).idleCrossing pr c) := by
  obtain ⟨m, c, h⟩ : ∃ m c, s.pairEdge pr outer = if s.axt.train.isSome then
    (s.modPair pr fun _ => m).passageCrossing pr c else (s.modPair pr fun _ => m).idleCrossing pr c := ⟨_, _, rfl⟩
  refine ⟨m, c, ?_⟩
  cases ht : s.axt.train.isSome <;> simpa [ht] using h

theorem State.KeepsSite.modPair (pr : Pair) (f : PairMachine → PairMachine) (s : State) : s.KeepsSite (s.modPair pr f) :=
  .of_eq rfl rfl rfl rfl rfl

theorem State.KeepsSite.modTrain (f : OpenTrain → OpenTrain) (s : State) : s.KeepsSite (s.modTrain f) :=
  .of_eq rfl rfl rfl (by simp) rfl

theorem State.KeepsSite.passageCrossing (pr : Pair) (c : Option (Bool × Nat)) (s : State) :
    s.KeepsSite (s.passageCrossing pr c) := by
  have hr : s.KeepsSite s.restartClear := .modTrain ..
  unfold State.passageCrossing
  split
  · exact hr.trans (.openCrossing ..)
  · exact hr

theorem State.KeepsSite.countStray (s : State) : s.KeepsSite (s.modAxt fun a => { a with stray := sat16 (a.stray + 1) }) :=
  .of_eq rfl rfl rfl rfl rfl

theorem State.AllAgrees.pairEdge {s : State} (h : s.AllAgrees) (pr : Pair) (outer : Bool) :
    (s.pairEdge pr outer).AllAgrees := by
  obtain ⟨m, c, ⟨-, he⟩ | ⟨-, he⟩⟩ := s.pairEdge_cases pr outer <;> rw [he] <;>
    have hm := (State.KeepsSite.modPair pr (fun _ => m) s).allAgrees h
  · exact (State.KeepsSite.passageCrossing ..).allAgrees hm
  · unfold State.idleCrossing
    split
    · exact hm.trainStart ..
    · exact ((State.KeepsSite.countStray _).allAgrees hm).reportEdge
    · exact hm.reportEdge

theorem State.pairEdge_linksOk {s : State} (h : s.LinksOk) (pr : Pair) (outer : Bool) : (s.pairEdge pr outer).LinksOk := by
  obtain ⟨m, c, ⟨-, he⟩ | ⟨-, he⟩⟩ := s.pairEdge_cases pr outer <;> rw [he] <;>
    have hm := (State.KeepsSite.modPair pr (fun _ => m) s).nodes.linksOk h
  · exact (State.KeepsSite.passageCrossing ..).nodes.linksOk hm
  · unfold State.idleCrossing
    split
    · exact State.trainStart_linksOk hm ..
    · exact State.reportEdge_linksOk ((State.KeepsSite.countStray _).nodes.linksOk hm)
    · exact State.reportEdge_linksOk hm

theorem State.KeepsSite.gateEdge (t : OpenTrain) (s : State) : s.KeepsSite (s.restartClear.restartHalt.gateEdge t) :=
  .of_eq (by simp) (by simp) (by simp) (by simp) (by simp)

theorem State.AllAgrees.serveAction {s : State} {p : Port} {outcome : State → ReplyOutcome} {effect : State → State}
    (he : ∀ v : State, v.AllAgrees → (effect v).AllAgrees) (h : s.AllAgrees) (r : QueuedRequest) :
    (s.serveAction p outcome effect r).AllAgrees :=
  he _ ((State.KeepsSite.answer ..).allAgrees h)

theorem State.serveAction_linksOk {s : State} {p : Port} {outcome : State → ReplyOutcome} {effect : State → State}
    (he : ∀ v : State, v.LinksOk → (effect v).LinksOk) (h : s.LinksOk) (r : QueuedRequest) :
    (s.serveAction p outcome effect r).LinksOk :=
  he _ ((State.KeepsSite.answer ..).nodes.linksOk h)

/-- Every command keeps the site state, the train, the timers, the latch, the streams and the nodes in agreement. -/
theorem exec_allAgrees {c : Instr} {s u : State} (hs : s.AllAgrees) (h : exec c s = .next u) : u.AllAgrees := by
  have keep {v : State} (hk : s.KeepsSite v) : v.AllAgrees := hk.allAgrees hs
  have at_ (d : Nat) : (s.advance d).AllAgrees := keep (.advance d s)
  have control (p : Port) (action : Nat) (act : QueuedRequest → State → State) (ha : ∀ r, (act r s).AllAgrees) :
      (s.serveControl p action act).AllAgrees := State.serveControl_of hs p action act (fun _ _ => keep (.answer ..)) ha
  cases hc : movesNoSite c
  case true => exact keep (exec_keepsSite hc h)
  cases c <;> simp only [movesNoSite, reduceCtorEq] at hc
  case approachRisingEdge => exact execApproachRisingEdge_allAgrees hs h
  case approachFallingEdge => exact execApproachFallingEdge_allAgrees hs h
  case sweepStep =>
    rcases execSweepStep_cases s u h with hk | ⟨k, v, hk, rfl⟩
    · exact keep hk
    · exact (keep hk).endPass k
  all_goals obtain rfl := Host.Outcome.next.inj h
  case powerOn => exact execPowerOn_allAgrees ..
  case clockSet p =>
    refine State.serve_of hs p _ _ fun r => ?_
    split
    · exact (keep (.answer ..)).modClock ..
    · exact keep (.answer ..)
  case enable p => exact control _ _ _ (State.AllAgrees.serveAction (fun _ => State.AllAgrees.enableSite) hs)
  case disable p => exact control _ _ _ (State.AllAgrees.serveAction (fun _ => State.AllAgrees.disableSite) hs)
  case dormancyOn p => exact control _ _ _ (State.AllAgrees.serveAction (fun _ => State.AllAgrees.dormancyOnSite) hs)
  case dormancyOff p => exact control _ _ _ (State.AllAgrees.serveAction (fun _ => State.AllAgrees.dormancyOffSite) hs)
  case restart p =>
    exact control _ _ _ (State.AllAgrees.serveAction (fun _ => State.AllAgrees.restartSite) (keep (.modPort ..)))
  case configSet p =>
    refine State.serve_of hs p _ _ fun r => ?_
    unfold State.serveConfigSet
    split
    · exact keep (.answer ..)
    · split
      · exact keep (.answer ..)
      · exact (keep (.answer ..)).applyConfig ..
  case armingTimerExpiry =>
    split
    · split
      · exact (at_ _).falseApproach ‹_› _
      · exact hs
    · exact hs
  case sweepTimerExpiry =>
    split
    · split
      · rename_i ho; exact (at_ _).enter (ne_of_eq_of_ne ho (by decide)) (by decide) (by decide) _
      · exact hs
    · exact hs
  case sweepDurationExpiry =>
    split
    · split
      · rename_i ho; exact (at_ _).enter (ne_of_eq_of_ne ho (by decide)) (by decide) (by decide) _
      · exact hs
    · exact hs
  case restTimerExpiry =>
    split
    · split
      · rename_i ho; exact (at_ _).enter (ne_of_eq_of_ne ho (by decide)) (by decide) (by decide) _
      · exact hs
    · exact hs
  case siteClockTick => exact (at_ _).modClock ..
  case wheelSensorEdge w t =>
    split
    · exact at_ t
    · exact (at_ t).pairEdge ..
  case gateSensorEdge t =>
    split
    · exact (State.KeepsSite.gateEdge ..).allAgrees (at_ t)
    · split
      · exact at_ t
      · exact (at_ t).reportEdge
  case clearTimerExpiry =>
    split
    · split
      · unfold State.clearTest
        split
        · exact (at_ _).closeTrain ..
        · split
          · exact (at_ _).closeTrain ..
          · exact (State.KeepsSite.modTrain ..).allAgrees (at_ _)
      · exact hs
    · exact hs
  case standTimerExpiry =>
    split
    · split
      · exact (at_ _).closeTrain ..
      · exact hs
    · exact hs
  case evaluationCompletion e =>
    split
    · exact hs
    · rename_i ev _
      exact (State.KeepsSite.serveLanes _).allAgrees ((keep (.evaluated e ev s)).completionTest _)

/-- Every command sends stream-on and stream-off over each link in turn (R3). -/
theorem exec_linksOk {c : Instr} {s u : State} (hs : s.LinksOk) (h : exec c s = .next u) : u.LinksOk := by
  have keep {v : State} (hk : s.KeepsSite v) : v.LinksOk := hk.nodes.linksOk hs
  have at_ (d : Nat) : (s.advance d).LinksOk := keep (.advance d s)
  have control (p : Port) (action : Nat) (act : QueuedRequest → State → State) (ha : ∀ r, (act r s).LinksOk) :
      (s.serveControl p action act).LinksOk := State.serveControl_of hs p action act (fun _ _ => keep (.answer ..)) ha
  cases hc : movesNoSite c
  case true => exact keep (exec_keepsSite hc h)
  cases c <;> simp only [movesNoSite, reduceCtorEq] at hc
  case sweepStep =>
    rcases execSweepStep_cases s u h with hk | ⟨k, v, hk, rfl⟩
    · exact keep hk
    · exact State.endPass_linksOk (keep hk) k
  all_goals obtain rfl := Host.Outcome.next.inj h
  case powerOn => exact ⟨reset_linksOk.gauge, reset_linksOk.scanner⟩
  case clockSet p =>
    refine State.serve_of hs p _ _ fun r => ?_
    split
    · exact (keep (.answer ..)).modSsq rfl
    · exact keep (.answer ..)
  case enable p => exact control _ _ _ (State.serveAction_linksOk (fun _ => State.enableSite_linksOk) hs)
  case disable p => exact control _ _ _ (State.serveAction_linksOk (fun _ => State.disableSite_linksOk) hs)
  case dormancyOn p => exact control _ _ _ (State.serveAction_linksOk (fun _ => State.dormancyOnSite_linksOk) hs)
  case dormancyOff p => exact control _ _ _ (State.serveAction_linksOk (fun _ => State.dormancyOffSite_linksOk) hs)
  case restart p =>
    exact control _ _ _ (State.serveAction_linksOk (fun _ => State.restartSite_linksOk) (keep (.modPort ..)))
  case configSet p =>
    refine State.serve_of hs p _ _ fun r => ?_
    unfold State.serveConfigSet
    split
    · exact keep (.answer ..)
    · split
      · exact keep (.answer ..)
      · exact State.applyConfig_linksOk (keep (.answer ..)) ..
  case approachRisingEdge t =>
    have hu := (at_ t).modSsq (f := fun q => { q with approachInput := true }) rfl
    split
    · exact hu
    · exact State.arm_linksOk hu
    · exact State.arm_linksOk hu
    · exact State.arm_linksOk hu
    · split
      · exact hu
      · exact hu.modSsq rfl
    · exact hu.modSsq rfl
  case approachFallingEdge t =>
    have hu := (at_ t).modSsq (f := fun q => { q with approachInput := false }) rfl
    split
    · exact State.falseApproach_linksOk hu _
    · exact hu
  case armingTimerExpiry =>
    split
    · split
      · exact State.falseApproach_linksOk (at_ _) _
      · exact hs
    · exact hs
  case sweepTimerExpiry =>
    split
    · split
      · exact State.enter_linksOk (at_ _) _ _
      · exact hs
    · exact hs
  case sweepDurationExpiry =>
    split
    · split
      · exact State.enter_linksOk (at_ _) _ _
      · exact hs
    · exact hs
  case restTimerExpiry =>
    split
    · split
      · exact State.enter_linksOk (at_ _) _ _
      · exact hs
    · exact hs
  case siteClockTick => exact (at_ _).modSsq rfl
  case wheelSensorEdge w t =>
    split
    · exact at_ t
    · exact State.pairEdge_linksOk (at_ t) ..
  case gateSensorEdge t =>
    split
    · exact (State.KeepsSite.gateEdge ..).nodes.linksOk (at_ t)
    · split
      · exact at_ t
      · exact State.reportEdge_linksOk (at_ t)
  case clearTimerExpiry =>
    split
    · split
      · unfold State.clearTest
        split
        · exact State.closeTrain_linksOk (at_ _) ..
        · split
          · exact State.closeTrain_linksOk (at_ _) ..
          · exact (State.KeepsSite.modTrain ..).nodes.linksOk (at_ _)
      · exact hs
    · exact hs
  case standTimerExpiry =>
    split
    · split
      · exact State.closeTrain_linksOk (at_ _) ..
      · exact hs
    · exact hs
  case evaluationCompletion e =>
    split
    · exact hs
    · rename_i ev _
      exact (State.KeepsSite.serveLanes _).nodes.linksOk (State.completionTest_linksOk (keep (.evaluated e ev s)) _)

/-- A step idles or runs the command at the front of the queue; either way what every command keeps is kept. -/
theorem step_of {motive : State → Prop} (hidle : ∀ s, motive s → motive s.idle)
    (hpop : ∀ s q, motive s → motive { s with pending := q })
    (hexec : ∀ c s t, motive s → exec c s = .next t → motive t) {s t : State} (hs : motive s) (h : step s = .next t) :
    motive t := by
  unfold step at h
  split at h
  · obtain rfl := Host.Outcome.next.inj h
    exact hidle s hs
  · exact hexec _ _ _ (hpop s _ hs) h

theorem State.KeepsSite.idle (s : State) : s.KeepsSite s.idle := .of_eq rfl rfl rfl rfl rfl

theorem State.KeepsSite.pop (s : State) (q : List Instr) : s.KeepsSite { s with pending := q } :=
  .of_eq rfl rfl rfl rfl rfl

/-- Settles O55: a move of the site sets its conditions up anew (`changeSite_seated`, `changeSite_nodesOk`,
`changeSite_linksOk`), the move on of R10 restores the last one, and every other operation leaves them. -/
theorem everyStepKeepsTheSite : Obligations.EveryStepKeepsTheSite :=
  ⟨fun _ _ hs hn h => step_of (motive := State.AllAgrees) (fun v => (State.KeepsSite.idle v).allAgrees)
      (fun v q => (State.KeepsSite.pop v q).allAgrees) (fun _ _ _ => exec_allAgrees) ⟨hs, hn⟩ h,
    fun _ _ hs h => step_of (motive := State.LinksOk) (fun v => (State.KeepsSite.idle v).nodes.linksOk)
      (fun v q => (State.KeepsSite.pop v q).nodes.linksOk) (fun _ _ _ => exec_linksOk) hs h⟩

end Sys2Proof.Machine
end

section
/-! SUPPORT. The slot states and the calibration records of the channels, through the operations that write reports (R150, R157)
and those that touch a channel. -/

namespace Sys2Proof.Machine

/-- The states of the report slots, `none` for a FREE one (R150). -/
def State.slotStates (s : State) (k : Fin 4) : Option SlotState := (s.rps.slots[k]).map (·.st)

/-- A channel's calibration record and the one that waits for the settle point (R75). -/
def State.calRecords (s : State) (k : Fin 16) : CalRecord × Option CalRecord :=
  (s.channels[k].cal, s.channels[k].pendingCal)

theorem State.slotClosing_eq (s : State) (k : Fin 4) : s.slotClosing k = (s.slotStates k == some .closing) := by
  unfold State.slotClosing State.slotStates
  cases s.rps.slots[k] <;> rfl

theorem State.anyClosing_congr {s t : State} (h : t.slotStates = s.slotStates) : t.anyClosing = s.anyClosing := by
  simp only [State.anyClosing, State.slotClosing_eq, h]

theorem State.anyClosing_iff {s : State} : s.anyClosing = true ↔ ∃ k, s.slotClosing k = true := by
  unfold State.anyClosing
  constructor
  · intro h
    simp only [Bool.or_eq_true] at h
    rcases h with ((h | h) | h) | h <;> exact ⟨_, h⟩
  · rintro ⟨k, hk⟩
    have hk4 : k = 0 ∨ k = 1 ∨ k = 2 ∨ k = 3 := by omega
    rcases hk4 with rfl | rfl | rfl | rfl <;> simp [hk]

theorem State.slotStates_of_rps {s t : State} (h : t.rps = s.rps) : t.slotStates = s.slotStates := by
  funext k; simp only [State.slotStates, h]

theorem State.calRecords_of_channels {s t : State} (h : t.channels = s.channels) : t.calRecords = s.calRecords := by
  funext k; simp only [State.calRecords, h]

@[simp] theorem State.slotStates_advance (t : Nat) (s : State) : (s.advance t).slotStates = s.slotStates := rfl
@[simp] theorem State.slotStates_modSsq (f : Ssq → Ssq) (s : State) : (s.modSsq f).slotStates = s.slotStates := rfl
@[simp] theorem State.slotStates_modAxt (f : Axt → Axt) (s : State) : (s.modAxt f).slotStates = s.slotStates := rfl
@[simp] theorem State.slotStates_modVsg (f : Vsg → Vsg) (s : State) : (s.modVsg f).slotStates = s.slotStates := rfl
@[simp] theorem State.slotStates_modEvu (f : Evu → Evu) (s : State) : (s.modEvu f).slotStates = s.slotStates := rfl
@[simp] theorem State.slotStates_modTsu (f : Tsu → Tsu) (s : State) : (s.modTsu f).slotStates = s.slotStates := rfl
@[simp] theorem State.slotStates_modTrain (f : OpenTrain → OpenTrain) (s : State) :
    (s.modTrain f).slotStates = s.slotStates := rfl
@[simp] theorem State.slotStates_modNode (g : Fin 4) (f : GaugeNode → GaugeNode) (s : State) :
    (s.modNode g f).slotStates = s.slotStates := rfl
@[simp] theorem State.slotStates_modChannel (k : Fin 16) (f : Channel → Channel) (s : State) :
    (s.modChannel k f).slotStates = s.slotStates := rfl
@[simp] theorem State.slotStates_modUnit (k : Fin 16) (f : CaptureUnit → CaptureUnit) (s : State) :
    (s.modUnit k f).slotStates = s.slotStates := rfl

/-! ## Writes and requests -/

/-- A write, taken or dropped, changes no slot's state (R157). -/
@[simp] theorem State.write_slotStates (k : Fin 4) (number : Nat) (f : Report → Report) (s : State) :
    (s.write k number f).slotStates = s.slotStates := by
  unfold State.write
  split
  · split
    · rename_i h hk _
      funext j
      unfold State.slotStates
      by_cases hj : j = k
      · subst hj; simp only [State.modRps, Fin.getElem_fin, Vector.getElem_set_self] at hk ⊢; rw [hk]; rfl
      · have : (k : Nat) ≠ j := fun he => hj (Fin.ext he.symm)
        simp [State.modRps, this]
    · rfl
  · rfl

@[simp] theorem State.writeTrain_slotStates (f : Report → Report) (s : State) :
    (s.writeTrain f).slotStates = s.slotStates := by
  unfold State.writeTrain; split <;> simp

@[simp] theorem State.markChanged_slotStates (l : Lane) (k : Fin 4) (number target : Nat) (s : State) :
    (s.markChanged l k number target).slotStates = s.slotStates := rfl

@[simp] theorem State.markRemoved_slotStates (k : Fin 4) (number target : Nat) (s : State) :
    (s.markRemoved k number target).slotStates = s.slotStates := rfl

@[simp] theorem State.post_slotStates (d : AlertDraft) (s : State) : (s.post d).slotStates = s.slotStates :=
  State.slotStates_of_rps (by simp)

@[simp] theorem State.postAll_slotStates (ds : List AlertDraft) (s : State) : (s.postAll ds).slotStates = s.slotStates :=
  State.slotStates_of_rps (by simp)

@[simp] theorem State.arbitrate_slotStates (s : State) : s.arbitrate.slotStates = s.slotStates :=
  State.slotStates_of_rps (by simp)

@[simp] theorem State.lodge_slotStates (r : Request) (s : State) : (s.lodge r).slotStates = s.slotStates := by
  unfold State.lodge State.dropRequest; dsimp only; split
  · rfl
  · split <;> simp

@[simp] theorem State.submit_slotStates (r : Request) (s : State) : (s.submit r).slotStates = s.slotStates := by
  unfold State.submit; split <;> simp

@[simp] theorem State.sweepVisit_slotStates (k : Fin 4) (r : Report) (pos : SweepPos) (s : State) :
    (s.sweepVisit k r pos).slotStates = s.slotStates := by
  rcases State.sweepVisit_cases k r pos s with ⟨-, h⟩ | ⟨-, -, -, h⟩ | ⟨-, -, -, h⟩ <;> rw [h] <;>
    simp [State.moveSweep]

@[simp] theorem State.retrySweep_slotStates (s : State) : s.retrySweep.slotStates = s.slotStates := by
  unfold State.retrySweep
  split
  · rfl
  · split <;> simp

@[simp] theorem State.serveLanes_slotStates (s : State) : s.serveLanes.slotStates = s.slotStates := by
  rcases s.serveLanes_cases with h | ⟨-, -, h⟩ <;> rw [h] <;> simp

@[simp] theorem State.file_slotStates (r : Request) (s : State) : (s.file r).slotStates = s.slotStates := by
  unfold State.file; split <;> simp

@[simp] theorem State.request_slotStates (r : Request) (s : State) : (s.request r).slotStates = s.slotStates := by
  unfold State.request; split <;> simp

/-! ## Gates and captures -/

@[simp] theorem State.disposeGate_slotStates (t : OpenTrain) (p : GatePair) (x : Side) (r : GateRecord) (s : State) :
    (s.disposeGate t p x r).slotStates = s.slotStates := by
  unfold State.disposeGate
  split
  · rfl
  · split
    · split <;> rfl
    · split <;> simp [State.writeGateRecord]

@[simp] theorem State.finishPair_slotStates (t : OpenTrain) (s : State) : (s.finishPair t).slotStates = s.slotStates := by
  unfold State.finishPair
  split
  · split
    · dsimp only; split
      · split <;> simp
      · rfl
    · rfl
  · rfl

@[simp] theorem State.closeGate_slotStates (x : Side) (gapped truncated : Bool) (s : State) :
    (s.closeGate x gapped truncated).slotStates = s.slotStates := by
  unfold State.closeGate
  split
  · split <;> simp
  · rfl

@[simp] theorem State.closeGates_slotStates (truncated : Bool) (s : State) :
    (s.closeGates truncated).slotStates = s.slotStates := by simp [State.closeGates]

@[simp] theorem State.gateEdge_slotStates (t : OpenTrain) (s : State) : (s.gateEdge t).slotStates = s.slotStates := by
  simp [State.gateEdge]

@[simp] theorem State.writeCribRecord_slotStates (t : OpenTrain) (slot : Fin 4) (k : Fin 16) (a : Nat) (r : CribRecord)
    (s : State) : (s.writeCribRecord t slot k a r).slotStates = s.slotStates := by
  unfold State.writeCribRecord; dsimp only; split <;> simp

@[simp] theorem State.disposeCapture_slotStates (t : OpenTrain) (k : Fin 16) (kind : CloseKind) (c : Capture) (s : State) :
    (s.disposeCapture t k kind c).slotStates = s.slotStates := by
  unfold State.disposeCapture
  split
  · rfl
  · dsimp only
    split
    · rfl
    · split
      · rfl
      · split <;> simp

/-- A change of a channel that touches neither of its records. -/
theorem State.modChannel_calRecords {f : Channel → Channel} (hc : ∀ c, (f c).cal = c.cal)
    (hp : ∀ c, (f c).pendingCal = c.pendingCal) (k : Fin 16) (s : State) :
    (s.modChannel k f).calRecords = s.calRecords := by
  funext j
  unfold State.calRecords
  rw [State.modChannel_channels]
  by_cases hj : j = k
  · subst hj; rw [vupd_get_self, hc, hp]
  · rw [vupd_get_ne _ hj]

@[simp] theorem State.closeCapture_keeps (t : OpenTrain) (k : Fin 16) (kind : CloseKind) (c : Capture) (s : State) :
    (s.closeCapture t k kind c).slotStates = s.slotStates ∧ (s.closeCapture t k kind c).calRecords = s.calRecords := by
  refine ⟨by simp [State.closeCapture], ?_⟩
  unfold State.closeCapture
  rw [State.calRecords_of_channels (State.disposeCapture_frame ..).2.2.2.2.2.1]
  exact State.modChannel_calRecords (s := s.modUnit k fun u => { u with capture := none }) (k := k)
    (f := fun ch => { ch with quiet := some (s.now + ms (s.cfg .tquiet)) }) (fun _ => rfl) (fun _ => rfl)

@[simp] theorem State.followCapture_keeps (t : OpenTrain) (k : Fin 16) (y : Nat) (ovr : Bool) (c : Capture) (s : State) :
    (s.followCapture t k y ovr c).slotStates = s.slotStates
      ∧ (s.followCapture t k y ovr c).calRecords = s.calRecords := by
  have opened (u : State) : (u.openCapture t k y ovr).slotStates = u.slotStates
      ∧ (u.openCapture t k y ovr).calRecords = u.calRecords := ⟨rfl, rfl⟩
  unfold State.followCapture
  dsimp only
  split
  · simp
  · split
    · split <;> simp [opened]
    · exact ⟨rfl, rfl⟩

@[simp] theorem State.captureSample_keeps (k : Fin 16) (y : Nat) (ovr : Bool) (s : State) :
    (s.captureSample k y ovr).slotStates = s.slotStates ∧ (s.captureSample k y ovr).calRecords = s.calRecords := by
  unfold State.captureSample
  split
  · exact ⟨rfl, rfl⟩
  · split
    · exact ⟨rfl, rfl⟩
    · split
      · split <;> exact ⟨rfl, rfl⟩
      · split
        · simp
        · exact ⟨rfl, rfl⟩

@[simp] theorem State.closeIfOpen_keeps (k : Fin 16) (kind : Capture → CloseKind) (s : State) :
    (s.closeIfOpen k kind).slotStates = s.slotStates ∧ (s.closeIfOpen k kind).calRecords = s.calRecords := by
  unfold State.closeIfOpen
  split
  · simp
  · exact ⟨rfl, rfl⟩

@[simp] theorem State.closeAllCaptures_keeps (s : State) :
    s.closeAllCaptures.slotStates = s.slotStates ∧ s.closeAllCaptures.calRecords = s.calRecords := by
  unfold State.closeAllCaptures
  induction allChannels generalizing s with
  | nil => exact ⟨rfl, rfl⟩
  | cons k ks ih => simpa using ih (s.closeIfOpen k closureKindOf)

@[simp] theorem State.channelSample_keeps (k : Fin 16) (x : Int) (ovr : Bool) (s : State) :
    (s.channelSample k x ovr).slotStates = s.slotStates ∧ (s.channelSample k x ovr).calRecords = s.calRecords := by
  have track (u : State) : (u.trackBaseline k x ovr).slotStates = u.slotStates
      ∧ (u.trackBaseline k x ovr).calRecords = u.calRecords := by
    unfold State.trackBaseline
    split
    · refine ⟨rfl, ?_⟩
      apply State.modChannel_calRecords <;> intro <;> rfl
    · exact ⟨rfl, rfl⟩
  simp [State.channelSample, track]

@[simp] theorem State.deliver_keeps (g : Fin 4) (f : GaugeFrame) (s : State) :
    (s.deliver g f).slotStates = s.slotStates ∧ (s.deliver g f).calRecords = s.calRecords := by
  simp [State.deliver, nodeChannels]

@[simp] theorem State.resyncFrame_keeps (g : Fin 4) (f : GaugeFrame) (s : State) :
    (s.resyncFrame g f).slotStates = s.slotStates ∧ (s.resyncFrame g f).calRecords = s.calRecords := by
  unfold State.resyncFrame
  dsimp only
  split
  · exact ⟨rfl, rfl⟩
  · rw [(State.deliver_keeps ..).1, (State.deliver_keeps ..).2]; exact ⟨rfl, rfl⟩

@[simp] theorem State.presentFrame_keeps (g : Fin 4) (f : GaugeFrame) (s : State) :
    (s.presentFrame g f).slotStates = s.slotStates ∧ (s.presentFrame g f).calRecords = s.calRecords := by
  unfold State.presentFrame
  split
  · exact ⟨rfl, rfl⟩
  · rw [(State.deliver_keeps ..).1, (State.deliver_keeps ..).2]; exact ⟨rfl, rfl⟩
  · rw [(State.deliver_keeps ..).1, (State.deliver_keeps ..).2]; exact ⟨rfl, rfl⟩

@[simp] theorem State.loseGauge_keeps (g : Fin 4) (s : State) :
    (s.loseGauge g).slotStates = s.slotStates ∧ (s.loseGauge g).calRecords = s.calRecords := by
  refine ⟨by simp [State.loseGauge, State.captureNodeLost, nodeChannels], ?_⟩
  unfold State.loseGauge
  rw [State.calRecords_of_channels (State.post_frame ..).2.2.2.2.2.1]
  refine Eq.trans (b := ((nodeChannels g).foldl (fun s j => s.captureNodeLost j.2)
    (s.modNode g fun n => { n with status := .lost, lossTimer := none })).calRecords) rfl ?_
  simp only [nodeChannels, List.foldl, State.captureNodeLost, State.closeIfOpen_keeps]
  rfl

/-! ## Segmenter and tracker -/

@[simp] theorem State.segClose_slotStates (t : OpenTrain) (upto : Nat) (s : State) :
    (s.segClose t upto).slotStates = s.slotStates := by
  unfold State.segClose
  split
  · rfl
  · dsimp only; split
    · split <;> simp
    · rfl

@[simp] theorem State.segCount_slotStates (t : OpenTrain) (n : Nat) (s : State) :
    (s.segCount t n).slotStates = s.slotStates := by
  unfold State.segCount
  split
  · rfl
  · dsimp only; split
    · split <;> simp
    · rfl

@[simp] theorem State.segForward_slotStates (t : OpenTrain) (a v time : Nat) (spacing : Option (Nat × SpacingClass))
    (s : State) : (s.segForward t a v time spacing).slotStates = s.slotStates := by
  have push (u : State) : (u.segPush t a spacing).slotStates = u.slotStates := by
    unfold State.segPush
    split
    · rfl
    · simp [State.segMid]
    · rfl
  simp [State.segForward, push]

@[simp] theorem State.segReverse_slotStates (t : OpenTrain) (n : Nat) (s : State) :
    (s.segReverse t n).slotStates = s.slotStates := by
  have removed (u : State) : (u.segRemove t).slotStates = u.slotStates := by
    unfold State.segRemove
    dsimp only
    split <;> split <;> simp
  unfold State.segReverse
  dsimp only
  split <;> split <;> simp [removed]

@[simp] theorem State.setSpeed_slotStates (v : Nat) (s : State) : (s.setSpeed v).slotStates = s.slotStates := by
  simp [State.setSpeed]

@[simp] theorem State.reversal_slotStates (s : State) : s.reversal.slotStates = s.slotStates := by
  simp only [State.reversal, State.writeTrain_slotStates, State.segInterrupt, State.slotStates_modVsg,
    State.closeGates_slotStates]
  rfl

@[simp] theorem State.setMotion_slotStates (t : OpenTrain) (pr : Pair) (travel : Direction) (v : Nat) (s : State) :
    (s.setMotion t pr travel v).slotStates = s.slotStates := by
  have crossed (f) : (s.modTrain f).resumeGates.slotStates = s.slotStates := rfl
  unfold State.setMotion
  dsimp only
  split <;> split <;> simp [crossed]

@[simp] theorem State.countCrossing_slotStates (t : OpenTrain) (pr : Pair) (inward : Bool) (v : Nat) (s : State) :
    (s.countCrossing t pr inward v).slotStates = s.slotStates := by
  have clamped (n : Nat) (u : State) : (u.clampPointers n).slotStates = u.slotStates := rfl
  unfold State.countCrossing
  split
  · split
    · unfold State.forwardEntry State.flagCountConflict State.newAxle State.rePass
      dsimp only
      split
      · simp
      · split
        · split <;> simp
        · split <;> simp
    · unfold State.reverseEntry State.flagCountConflict
      split <;> simp [clamped]
  · split
    · rfl
    · unfold State.forwardExit; split <;> rfl

@[simp] theorem State.openCrossing_slotStates (pr : Pair) (inward : Bool) (v : Nat) (s : State) :
    (s.openCrossing pr inward v).slotStates = s.slotStates := by
  unfold State.openCrossing; split <;> simp

@[simp] theorem State.segStart_slotStates (s : State) : s.segStart.slotStates = s.slotStates := by
  simp [State.segStart]

@[simp] theorem State.recordStale_slotStates (t : OpenTrain) (s : State) :
    (s.recordStale t).slotStates = s.slotStates := by
  simp [State.recordStale]

@[simp] theorem State.declareHalt_slotStates (t : OpenTrain) (s : State) :
    (s.declareHalt t).slotStates = s.slotStates := by
  unfold State.declareHalt
  dsimp only
  split
  · rw [State.writeTrain_slotStates]; rfl
  · rfl

/-! ## The scanners and the engine -/

@[simp] theorem State.loseScanner_slotStates (x : Side) (s : State) : (s.loseScanner x).slotStates = s.slotStates := by
  have failed (u : State) : (u.failCalibration x).slotStates = u.slotStates := by
    rw [State.failCalibration, State.post_slotStates]; rfl
  have scanner (f) (u : State) : (u.modScanner x f).slotStates = u.slotStates := rfl
  unfold State.loseScanner
  dsimp only
  split <;> simp [failed, scanner]

theorem State.evaluated_slotStates (ev : Evaluation) (s : State) :
    (match s.liveReport ev.req.slot ev.req.number with
      | some r => s.completeLive ev r
      | none => s.completeGone ev).slotStates = s.slotStates := by
  have dirty (u : State) : (u.settleDirty ev).slotStates = u.slotStates := by
    unfold State.settleDirty
    dsimp only
    split
    · rfl
    · split
      · simp
      · split
        · split <;> simp
        · simp
  have follow (r : Report) (u : State) : (u.followOn ev r).slotStates = u.slotStates := by
    unfold State.followOn State.markCovering
    split
    · split
      · dsimp only; split <;> simp
      · rfl
    · rfl
  split
  · unfold State.completeLive
    dsimp only
    split <;> simp [dirty, follow]
  · unfold State.completeGone
    split <;> simp

end Sys2Proof.Machine
end

section
/-! SUPPORT. The configuration stays in range and free of conflicts (R17, R75, R176): EveryStepKeepsTheConfiguration. -/

namespace Sys2Proof.Machine

/-! ## What the condition reads -/

/-- Between two states of one event the configuration and the calibration records are as they were, and the settle point does not
begin. -/
structure State.KeepsConfig (s t : State) : Prop where
  active  : t.mpc.active = s.mpc.active
  pending : t.mpc.pendingCfg = s.mpc.pendingCfg
  cals    : t.calRecords = s.calRecords
  settles : t.settleHolds = true → s.settleHolds = true

theorem State.cfg_congr {s t : State} (h : t.mpc.active = s.mpc.active) : t.cfg = s.cfg := by
  funext i; simp only [State.cfg, h]

theorem State.futureCfg_congr {s t : State} (ha : t.mpc.active = s.mpc.active)
    (hp : t.mpc.pendingCfg = s.mpc.pendingCfg) : t.futureCfg = s.futureCfg := by
  funext i; simp only [State.futureCfg, State.cfg, ha, hp]

theorem State.KeepsConfig.configOk {s t : State} (h : s.KeepsConfig t) (hs : s.ConfigOk) : t.ConfigOk := by
  have hc (k : Fin 16) : t.channels[k].cal = s.channels[k].cal ∧ t.channels[k].pendingCal = s.channels[k].pendingCal :=
    Prod.ext_iff.mp (congrFun h.cals k)
  have hf := State.futureCfg_congr h.active h.pending
  have ha := State.cfg_congr h.active
  constructor
  case active => rw [ha]; exact hs.active
  case future => rw [hf]; exact hs.future
  case now => rw [ha]; exact hs.now
  case then_ => rw [hf]; exact hs.then_
  case settled => rw [h.pending]; exact fun hh => hs.settled (h.settles hh)
  case applied => exact fun hh k => (hc k).2.trans (hs.applied (h.settles hh) k)
  case cals => exact fun k => (hc k).1 ▸ hs.cals k
  case pending => exact fun k c hk => hs.pending k c ((hc k).2.symm.trans hk)

theorem State.KeepsConfig.trans {s t u : State} (h : s.KeepsConfig t) (h' : t.KeepsConfig u) : s.KeepsConfig u :=
  ⟨h'.active.trans h.active, h'.pending.trans h.pending, h'.cals.trans h.cals, fun hu => h.settles (h'.settles hu)⟩

theorem State.KeepsConfig.refl (s : State) : s.KeepsConfig s := ⟨rfl, rfl, rfl, id⟩

theorem State.settleHolds_congr {s t : State} (hs : t.ssq.site = s.ssq.site) (hk : t.slotStates = s.slotStates) :
    t.settleHolds = s.settleHolds := by
  simp only [State.settleHolds, hs, State.anyClosing_congr hk]

/-- An operation that moves no site, completes no report and touches no configuration. -/
theorem State.KeepsConfig.of_eq {s t : State} (ha : t.mpc.active = s.mpc.active) (hp : t.mpc.pendingCfg = s.mpc.pendingCfg)
    (hc : t.calRecords = s.calRecords) (hs : t.ssq.site = s.ssq.site) (hk : t.slotStates = s.slotStates) :
    s.KeepsConfig t :=
  ⟨ha, hp, hc, fun h => (State.settleHolds_congr hs hk).symm.trans h⟩

/-! ## The settle point -/

/-- ConfigOk but for its two conditions on the settle point. -/
structure State.Configured (s : State) : Prop where
  active  : ∀ i : Item, i.lo ≤ s.cfg i ∧ s.cfg i ≤ i.hi
  future  : ∀ i : Item, i.lo ≤ s.futureCfg i ∧ s.futureCfg i ≤ i.hi
  now     : PairsOrdered s.cfg
  then_   : PairsOrdered s.futureCfg
  cals    : ∀ k : Fin 16, (s.channels[k]).cal.Admitted
  pending : ∀ (k : Fin 16) (c : CalRecord), (s.channels[k]).pendingCal = some c → c.Admitted

theorem State.ConfigOk.configured {s : State} (h : s.ConfigOk) : s.Configured :=
  ⟨h.active, h.future, h.now, h.then_, h.cals, h.pending⟩

/-- Nothing waits for the settle point. -/
structure State.NothingPending (s : State) : Prop where
  items : ∀ i : Item, s.mpc.pendingCfg.get i.idx = none
  cals  : ∀ k : Fin 16, (s.channels[k]).pendingCal = none

theorem State.configOk_iff {s : State} : s.ConfigOk ↔ s.Configured ∧ (s.settleHolds = true → s.NothingPending) :=
  ⟨fun h => ⟨h.configured, fun hs => ⟨h.settled hs, h.applied hs⟩⟩,
    fun ⟨h, hs⟩ => ⟨h.active, h.future, h.now, h.then_, fun hh => (hs hh).items, fun hh => (hs hh).cals, h.cals, h.pending⟩⟩

theorem State.Configured.congr {s t : State} (h : s.Configured) (ha : t.mpc.active = s.mpc.active)
    (hp : t.mpc.pendingCfg = s.mpc.pendingCfg) (hc : t.calRecords = s.calRecords) : t.Configured := by
  have hk (k : Fin 16) : t.channels[k].cal = s.channels[k].cal ∧ t.channels[k].pendingCal = s.channels[k].pendingCal :=
    Prod.ext_iff.mp (congrFun hc k)
  have hf := State.futureCfg_congr ha hp
  have hn := State.cfg_congr ha
  exact ⟨hn ▸ h.active, hf ▸ h.future, hn ▸ h.now, hf ▸ h.then_, fun k => (hk k).1 ▸ h.cals k,
    fun k c he => h.pending k c ((hk k).2.symm.trans he)⟩

theorem State.futureCfg_settled (s : State) : s.settled.cfg = s.futureCfg := by
  funext i
  simp [State.cfg, State.futureCfg, State.settled]

theorem State.nothingPending_settled (s : State) : s.settled.NothingPending := by
  constructor
  · intro i; simp [State.settled, Vector.get]
  · intro k; simp [State.settled]

/-- With nothing pending the future value of an item is its active one (R176). -/
theorem State.NothingPending.futureCfg {s : State} (h : s.NothingPending) : s.futureCfg = s.cfg := by
  funext i
  have := h.items i
  simp only [Vector.get_eq_getElem] at this
  simp [State.futureCfg, this]

/-- At the settle point the future values become the active ones (R17). -/
theorem State.Configured.applyPending {s : State} (h : s.Configured) : s.applyPending.ConfigOk := by
  rw [State.applyPending_eq_settled]
  have hp := s.nothingPending_settled
  refine State.configOk_iff.mpr ⟨?_, fun _ => hp⟩
  constructor
  case active => rw [s.futureCfg_settled]; exact h.future
  case future => rw [hp.futureCfg, s.futureCfg_settled]; exact h.future
  case now => rw [s.futureCfg_settled]; exact h.then_
  case then_ => rw [hp.futureCfg, s.futureCfg_settled]; exact h.then_
  case cals =>
    intro k
    have hk : (s.settled.channels[k]).cal = (s.channels[k]).pendingCal.getD (s.channels[k]).cal := by
      simp [State.settled]
    rw [hk]
    cases hc : (s.channels[k]).pendingCal with
    | none => exact h.cals k
    | some c => exact h.pending k c hc
  case pending =>
    intro k c hk
    rw [hp.cals k] at hk
    cases hk

/-- A settle point that begins applies what is pending; one that held before leaves nothing to apply (R17). -/
theorem State.Configured.settleIfBegun {s : State} (h : s.Configured) {b : Bool}
    (hb : b = true → s.settleHolds = true → s.NothingPending) : (s.settleIfBegun b).ConfigOk := by
  unfold State.settleIfBegun
  split
  · exact h.applyPending
  · rename_i hn
    refine State.configOk_iff.mpr ⟨h, fun hs => ?_⟩
    cases b
    · exact absurd (by rw [hs]; rfl) hn
    · exact hb rfl hs

theorem State.NothingPending.congr {s t : State} (h : s.NothingPending) (hp : t.mpc.pendingCfg = s.mpc.pendingCfg)
    (hc : t.calRecords = s.calRecords) : t.NothingPending :=
  ⟨fun i => by rw [hp]; exact h.items i, fun k => (Prod.ext_iff.mp (congrFun hc k)).2.trans (h.cals k)⟩

/-! ## The moves of the site -/

theorem State.changeSite_calRecords (new : SiteState) (cause : Cause) (s : State) :
    (s.changeSite new cause).calRecords = s.calRecords := State.calRecords_of_channels (by simp)

/-- A move to a state in which the settle point cannot hold leaves nothing to apply (R17). -/
theorem State.changeSite_configOk {s : State} (h : s.Configured) {new : SiteState} (hn : new.settles = false)
    (cause : Cause) : (s.changeSite new cause).ConfigOk := by
  refine State.configOk_iff.mpr ⟨h.congr (by simp) (by simp) (State.changeSite_calRecords ..), fun hs => ?_⟩
  rw [State.settleHolds, State.changeSite_site, hn] at hs
  cases hs

theorem State.arm_configOk {s : State} (h : s.Configured) : s.arm.ConfigOk := by
  unfold State.arm
  refine State.changeSite_configOk (new := .armed) ?_ rfl _
  exact h.congr rfl rfl rfl

theorem State.ConfigOk.levelCarry {s : State} (h : s.ConfigOk) : s.levelCarry.ConfigOk := by
  rcases s.levelCarry_cases with ⟨he, -⟩ | ⟨he, -⟩ <;> rw [he]
  · exact State.arm_configOk h.configured
  · exact h

/-- An entry applies what is pending where the settle point begins (R17). -/
theorem State.ConfigOk.enter {s : State} (h : s.ConfigOk) (new : SiteState) (cause : Cause) :
    (s.enter new cause).ConfigOk := by
  have hc := State.changeSite_calRecords new cause s
  refine (State.Configured.settleIfBegun (h.configured.congr (by simp) (by simp) hc) fun hb _ => ?_).levelCarry
  exact (((State.configOk_iff.mp h).2 hb).congr (by simp) hc)

theorem State.KeepsConfig.modSsq {s : State} {f : Ssq → Ssq} (hf : (f s.ssq).site = s.ssq.site) :
    s.KeepsConfig (s.modSsq f) :=
  .of_eq rfl rfl rfl hf rfl

theorem State.ConfigOk.modSsq {s : State} (h : s.ConfigOk) {f : Ssq → Ssq} (hf : (f s.ssq).site = s.ssq.site) :
    (s.modSsq f).ConfigOk :=
  (State.KeepsConfig.modSsq hf).configOk h

theorem State.ConfigOk.siteClosure {s : State} (h : s.ConfigOk) : s.siteClosure.ConfigOk := by
  unfold State.siteClosure
  split
  · exact (h.modSsq (by rfl)).enter _ _
  · have hu := h.enter s.restState .trainClosure
    dsimp only
    generalize s.enter s.restState .trainClosure = u at hu
    have carry : (if u.levelMode then u.modSsq fun q => { q with latch := false } else u.arm).ConfigOk := by
      split
      · exact hu.modSsq (by rfl)
      · exact State.arm_configOk hu.configured
    split
    · split <;> assumption
    · exact hu

theorem State.ConfigOk.reportEdge {s : State} (h : s.ConfigOk) : s.reportEdge.ConfigOk := by
  unfold State.reportEdge
  split
  · exact h.enter _ _
  · exact h.enter _ _
  · split
    · exact h.modSsq (by rfl)
    · exact h
  · exact h

theorem State.ConfigOk.falseApproach {s : State} (h : s.ConfigOk) (cause : Cause) : (s.falseApproach cause).ConfigOk :=
  (h.modSsq (by rfl)).enter _ _

theorem State.ConfigOk.enableSite {s : State} (h : s.ConfigOk) : s.enableSite.ConfigOk := by
  unfold State.enableSite
  split
  · exact h.enter _ _
  · exact h.modSsq (by rfl)
  · exact h

theorem State.ConfigOk.disableSite {s : State} (h : s.ConfigOk) : s.disableSite.ConfigOk := by
  unfold State.disableSite
  split
  · exact h
  · exact h.modSsq (by rfl)
  · exact h.enter _ _

theorem State.ConfigOk.dormancyOnSite {s : State} (h : s.ConfigOk) : s.dormancyOnSite.ConfigOk := by
  have hu : (s.modSsq fun q => { q with dormancy := true }).ConfigOk := h.modSsq (by rfl)
  unfold State.dormancyOnSite
  dsimp only
  split
  · exact hu.enter _ _
  · exact hu

theorem State.ConfigOk.dormancyOffSite {s : State} (h : s.ConfigOk) : s.dormancyOffSite.ConfigOk := by
  have hu : (s.modSsq fun q => { q with dormancy := false, restTimer := none }).ConfigOk := h.modSsq (by rfl)
  unfold State.dormancyOffSite
  dsimp only
  split
  · exact hu.enter _ _
  · exact hu.enter _ _
  · exact hu

/-! ## Slots that change their state -/

theorem State.setSlotState_slotStates (k : Fin 4) (st : SlotState) (s : State) (j : Fin 4) :
    (s.setSlotState k st).slotStates j = if j = k then (s.slotStates k).map (fun _ => st) else s.slotStates j := by
  unfold State.slotStates State.setSlotState
  split
  · rename_i hj
    simp only [hj, State.modRps, Fin.getElem_fin, Vector.getElem_set_self]
    cases s.rps.slots[(k : Nat)] <;> rfl
  · rename_i hj
    have : (k : Nat) ≠ j := fun he => hj (Fin.ext he.symm)
    simp [State.modRps, this]

/-- A slot that becomes CLOSING lets no settle point begin (R17). -/
theorem State.settleHolds_closing {s : State} {k : Fin 4} (h : (s.setSlotState k .closing).settleHolds = true) :
    s.settleHolds = true := by
  simp only [State.settleHolds, Bool.and_eq_true, Bool.not_eq_true'] at h ⊢
  refine ⟨h.1, Bool.eq_false_iff.mpr fun ha => ?_⟩
  obtain ⟨j, hj⟩ := State.anyClosing_iff.mp ha
  refine Bool.eq_false_iff.mp h.2 (State.anyClosing_iff.mpr ⟨j, ?_⟩)
  rw [State.slotClosing_eq] at hj ⊢
  rw [State.setSlotState_slotStates]
  split
  · rename_i he
    rw [← he, eq_of_beq hj]; rfl
  · exact hj

theorem State.KeepsConfig.trainClosed (t : OpenTrain) (kind : ClosureKind) (s : State) :
    s.KeepsConfig (s.trainClosed t kind) := by
  have he : (s.trainEnding t kind).calRecords = s.calRecords := by
    refine (State.calRecords_of_channels (s := (s.writeTrain (Report.modHeader fun h =>
      { h with closure := some kind, endTime := some s.ssq.clock })).closeAllCaptures) ?_).trans ?_
    · simp [State.trainEnding]
    · rw [(State.closeAllCaptures_keeps _).2]; exact State.calRecords_of_channels (by simp)
  refine ⟨by simp [State.trainClosed, State.trainEnding], by simp [State.trainClosed, State.trainEnding], he, fun h => ?_⟩
  have h' := State.settleHolds_closing (s := s.trainEnding t kind) (k := t.slot) h
  rwa [State.settleHolds_congr (s := s) (by simp [State.trainEnding]) (by simp [State.trainEnding])] at h'

theorem State.ConfigOk.closeTrain {s : State} (h : s.ConfigOk) (t : OpenTrain) (kind : ClosureKind) :
    (s.closeTrain t kind).ConfigOk :=
  ((State.KeepsConfig.trainClosed t kind s).configOk h).siteClosure

theorem State.ConfigOk.completionTest {s : State} (h : s.ConfigOk) (k : Fin 4) : (s.completionTest k).ConfigOk := by
  have hc : (s.slotCompleted k).calRecords = s.calRecords :=
    State.calRecords_of_channels (by simp [State.slotCompleted])
  unfold State.completionTest
  split
  · rw [State.completeSlot_eq]
    refine (State.Configured.settleIfBegun (h.configured.congr (by simp [State.slotCompleted])
      (by simp [State.slotCompleted]) hc) fun hb _ => ?_).levelCarry
    exact ((State.configOk_iff.mp h).2 hb).congr (by simp [State.slotCompleted]) hc
  · exact h

/-- A train start may discard the only CLOSING slot, but it ends in PASSAGE, where no settle point holds (R17, R37). -/
theorem State.ConfigOk.trainStart {s : State} (h : s.ConfigOk) (pr : Pair) (v : Nat) : (s.trainStart pr v).ConfigOk := by
  unfold State.trainStart
  split
  · rename_i k _
    have ho : (s.trainOpened k pr).Configured := h.configured.congr (by simp [State.trainOpened])
      (by simp [State.trainOpened]) (State.calRecords_of_channels (by simp [State.trainOpened]))
    have hp : ((s.trainOpened k pr).changeSite .passage .trainStart).ConfigOk := State.changeSite_configOk ho rfl _
    have he : ((s.trainOpened k pr).enter .passage .trainStart).ConfigOk := by
      refine (State.Configured.settleIfBegun hp.configured fun _ hs => ?_).levelCarry
      exact (State.configOk_iff.mp hp).2 hs
    have hs : (s.startTrainIn k pr).ConfigOk := by
      rw [State.startTrainIn_eq]
      split
      · exact State.KeepsConfig.configOk (.of_eq (by simp) (by simp) (State.calRecords_of_channels (by simp)) (by simp)
          (by simp)) he
      · exact he
    exact State.KeepsConfig.configOk (.of_eq (by simp) (by simp) (State.calRecords_of_channels (by simp)) (by simp)
      (by simp)) hs
  · exact h

theorem State.KeepsConfig.modEvu (f : Evu → Evu) (s : State) : s.KeepsConfig (s.modEvu f) := .of_eq rfl rfl rfl rfl rfl

theorem State.ConfigOk.endPass {s : State} (h : s.ConfigOk) (k : Fin 4) : (s.endPass k).ConfigOk := by
  have evu (f : Evu → Evu) : (s.modEvu f).ConfigOk := (State.KeepsConfig.modEvu f s).configOk h
  unfold State.endPass
  split
  · exact evu _
  · exact (evu _).completionTest k

/-! ## RESTART (R19) -/

theorem State.ConfigOk.restartSite {s : State} (h : s.ConfigOk) : s.restartSite.ConfigOk := by
  have hc : s.restarted.calRecords = s.calRecords := by
    refine Eq.trans ?_ (State.calRecords_of_channels (s := s) (t := s.quietSite.abortSlots) (by simp))
    funext k
    simp [State.restarted, State.calRecords, State.clearMeasuring, vmap_eq_map]
  rw [State.restartSite_eq]
  refine (State.Configured.applyPending (State.Configured.congr (s := s) h.configured ?_ ?_ ?_)).levelCarry
  · simp [State.restarted]
  · simp [State.restarted]
  · rw [State.changeSite_calRecords, hc]

end Sys2Proof.Machine
end

section
/-! SUPPORT. CONFIG SET and CALIBRATION SET: the clamp, the conflict test and the application of a value (R75, R176). -/

namespace Sys2Proof.Machine

theorem Item.lo_le_hi (i : Item) : i.lo ≤ i.hi := by cases i <;> decide

/-- The value an item takes lies in its range (R176, step 1). -/
theorem Item.clamp_range (i : Item) (v : Nat) : i.lo ≤ i.clamp v ∧ i.clamp v ≤ i.hi := by
  have := i.lo_le_hi
  unfold Item.clamp clampNat
  omega

/-- A test of two items that names neither of them passes where it passed before. -/
theorem pairTest_eq_false {it a b : Item} {p : Prop} [Decidable p] (h : it ≠ a → it ≠ b → ¬p) :
    ((it == a || it == b) && decide p) = false ↔ ¬p := by
  simp only [Bool.and_eq_false_iff, Bool.or_eq_false_iff, beq_eq_false_iff_ne, decide_eq_false_iff_not]
  exact or_iff_right_of_imp fun ⟨ha, hb⟩ => h ha hb

theorem State.futureWith_ne {s : State} {it j : Item} (h : it ≠ j) (v : Nat) : s.futureWith it v j = s.futureCfg j :=
  if_neg h.symm

/-- With the future values in order, a value fails the conflict test exactly where it puts them out of order (R176, step 2). -/
theorem State.configConflict_eq_false {s : State} (h : PairsOrdered s.futureCfg) (it : Item) (v : Nat) :
    s.configConflict it v = false ↔ PairsOrdered (s.futureWith it v) := by
  obtain ⟨h1, h2, h3, h4, h5⟩ := h
  have t1 := pairTest_eq_false (it := it) (a := .toff) (b := .ton) (p := s.futureWith it v .ton ≤ s.futureWith it v .toff)
    fun ha hb => by rw [State.futureWith_ne ha, State.futureWith_ne hb]; omega
  have t2 := pairTest_eq_false (it := it) (a := .pstart) (b := .pend)
    (p := s.futureWith it v .pend ≤ s.futureWith it v .pstart)
    fun ha hb => by rw [State.futureWith_ne ha, State.futureWith_ne hb]; omega
  have t3 := pairTest_eq_false (it := it) (a := .pend) (b := .lmax)
    (p := s.futureWith it v .lmax < s.futureWith it v .pend)
    fun ha hb => by rw [State.futureWith_ne ha, State.futureWith_ne hb]; omega
  have t4 := pairTest_eq_false (it := it) (a := .shortMax) (b := .midMax)
    (p := s.futureWith it v .midMax ≤ s.futureWith it v .shortMax)
    fun ha hb => by rw [State.futureWith_ne ha, State.futureWith_ne hb]; omega
  have t5 := pairTest_eq_false (it := it) (a := .tsweep) (b := .zmax)
    (p := s.futureWith it v .zmax ≤ s.futureWith it v .tsweep)
    fun ha hb => by rw [State.futureWith_ne ha, State.futureWith_ne hb]; omega
  simp only [State.configConflict, Bool.or_eq_false_iff, t1, t2, t3, t4, t5, PairsOrdered, not_le, not_lt, and_assoc]

theorem State.configOutcome_now {s : State} {it : Item} {v : Nat} (h : s.configOutcome it v = .now) :
    s.configConflict it v = false ∧ (it.immediate = true ∨ s.settleHolds = true) := by
  unfold State.configOutcome at h
  split at h
  · cases h
  · split at h
    · rename_i hc hi
      exact ⟨Bool.eq_false_iff.mpr hc, by simpa using hi⟩
    · cases h

theorem State.configOutcome_deferred {s : State} {it : Item} {v : Nat} (h : s.configOutcome it v = .deferred) :
    s.configConflict it v = false ∧ s.settleHolds = false := by
  unfold State.configOutcome at h
  split at h
  · cases h
  · split at h
    · cases h
    · rename_i hc hi
      simp only [Bool.or_eq_true, not_or, Bool.not_eq_true] at hi
      exact ⟨Bool.eq_false_iff.mpr hc, hi.2⟩

theorem State.futureCfg_setPending (it j : Item) (v : Nat) (s : State) :
    (s.setPending it v).futureCfg j = s.futureWith it v j := by
  unfold State.futureWith
  split
  · subst_vars; simp [State.futureCfg, State.setPending]
  · rename_i hne
    have : (it.idx : Nat) ≠ j.idx := fun he => hne (Item.idx_inj (Fin.ext he.symm))
    simp [State.futureCfg, State.setPending, State.cfg, this]

/-- A value held pending: the future values take it, the active ones stay (R176, step 3). -/
theorem State.ConfigOk.setPending {s : State} (h : s.ConfigOk) {it : Item} {v : Nat} (hv : it.lo ≤ v ∧ v ≤ it.hi)
    (hp : PairsOrdered (s.futureWith it v)) (hs : s.settleHolds = false) : (s.setPending it v).ConfigOk := by
  have hf : (s.setPending it v).futureCfg = s.futureWith it v := funext fun j => s.futureCfg_setPending it j v
  refine State.configOk_iff.mpr ⟨⟨h.active, fun j => ?_, h.now, hf ▸ hp, h.cals, h.pending⟩, fun hh => ?_⟩
  · rw [hf]
    unfold State.futureWith
    split
    · subst_vars; exact hv
    · exact h.future j
  · exact absurd (hs.symm.trans hh) nofun

/-- Masks are in none of the five pairs. -/
theorem PairsOrdered.of_immediate {f g : Item → Nat} {it : Item} (hit : it.immediate = true) (h : PairsOrdered f)
    (hfg : ∀ j, j ≠ it → g j = f j) : PairsOrdered g := by
  have ne (j : Item) (hj : j.immediate = false) : g j = f j := hfg j fun he => by
    subst he
    exact absurd (hj.symm.trans hit) nofun
  unfold PairsOrdered at h ⊢
  rwa [ne .toff rfl, ne .ton rfl, ne .pstart rfl, ne .pend rfl, ne .lmax rfl, ne .shortMax rfl, ne .midMax rfl,
    ne .tsweep rfl, ne .zmax rfl]

/-- A value made active: at the settle point nothing is pending, and a mask takes part in no conflict test (R176, step 3). -/
theorem State.ConfigOk.setActive {s : State} (h : s.ConfigOk) {it : Item} {v : Nat} (hv : it.lo ≤ v ∧ v ≤ it.hi)
    (hp : PairsOrdered (s.futureWith it v)) (hs : it.immediate = true ∨ s.settleHolds = true) :
    (s.setActive it v).ConfigOk := by
  have hc (j : Item) : (s.setActive it v).cfg j = if j = it then v else s.cfg j := s.cfg_setActive it j v
  have hfne (j : Item) (hj : j ≠ it) : (s.setActive it v).futureCfg j = s.futureCfg j := by
    show (s.mpc.pendingCfg[j.idx]).getD ((s.setActive it v).cfg j) = _
    rw [hc, if_neg hj]; rfl
  have hactive (j : Item) : j.lo ≤ (s.setActive it v).cfg j ∧ (s.setActive it v).cfg j ≤ j.hi := by
    rw [hc]
    split
    · subst_vars; exact hv
    · exact h.active j
  have hfuture (j : Item) : j.lo ≤ (s.setActive it v).futureCfg j ∧ (s.setActive it v).futureCfg j ≤ j.hi := by
    have := h.future j
    unfold State.futureCfg at this ⊢
    rw [show (s.setActive it v).mpc.pendingCfg = s.mpc.pendingCfg from rfl]
    cases hj : s.mpc.pendingCfg[j.idx] with
    | none => exact hactive j
    | some x => rwa [hj] at this
  have hnp : s.settleHolds = true → (s.setActive it v).NothingPending := fun hh => ⟨h.settled hh, h.applied hh⟩
  refine State.configOk_iff.mpr ⟨?_, hnp⟩
  have ordered : PairsOrdered (s.setActive it v).cfg ∧ PairsOrdered (s.setActive it v).futureCfg := by
    rcases hs with hi | hh
    · exact ⟨h.now.of_immediate hi fun j hj => by rw [hc, if_neg hj], h.then_.of_immediate hi hfne⟩
    · have hw : (s.setActive it v).cfg = s.futureWith it v := by
        funext j
        have hn : s.NothingPending := ⟨h.settled hh, h.applied hh⟩
        rw [hc, State.futureWith, hn.futureCfg]
      rw [(hnp hh).futureCfg, hw]
      exact ⟨hp, hp⟩
  exact ⟨hactive, hfuture, ordered.1, ordered.2, h.cals, h.pending⟩

theorem State.ConfigOk.applyConfig {s : State} (h : s.ConfigOk) {it : Item} {v : Nat} (hv : it.lo ≤ v ∧ v ≤ it.hi) :
    (s.applyConfig it v (s.configOutcome it v)).ConfigOk := by
  unfold State.applyConfig
  split
  · rename_i ho
    obtain ⟨hc, hs⟩ := State.configOutcome_now ho
    have ha := h.setActive hv ((State.configConflict_eq_false h.then_ it v).mp hc) hs
    unfold State.afterActive
    split
    · exact State.KeepsConfig.configOk (.of_eq (by simp) (by simp) (State.calRecords_of_channels (by simp)) (by simp)
        (State.slotStates_of_rps (by simp))) ha
    · split
      · exact ha.levelCarry
      · exact ha
  · rename_i ho
    obtain ⟨hc, hs⟩ := State.configOutcome_deferred ho
    exact h.setPending hv ((State.configConflict_eq_false h.then_ it v).mp hc) hs
  · exact h

theorem State.configOutcome_answer (p : Port) (r : QueuedRequest) (a : Reply) (s : State) (it : Item) (v : Nat) :
    (s.answer p r a).configOutcome it v = s.configOutcome it v := rfl

theorem State.KeepsConfig.answer (p : Port) (r : QueuedRequest) (a : Reply) (s : State) : s.KeepsConfig (s.answer p r a) :=
  .of_eq rfl rfl rfl rfl rfl

theorem State.ConfigOk.serveConfigSet {s : State} (h : s.ConfigOk) (p : Port) (r : QueuedRequest) :
    (s.serveConfigSet p r).ConfigOk := by
  unfold State.serveConfigSet
  split
  · exact (State.KeepsConfig.answer ..).configOk h
  · split
    · exact (State.KeepsConfig.answer ..).configOk h
    · rename_i it v _ _
      dsimp only
      rw [← State.configOutcome_answer p r (.one (s.configOutcome it (it.clamp v)) (configBody it v (it.clamp v)))]
      exact ((State.KeepsConfig.answer ..).configOk h).applyConfig (it.clamp_range v)

/-! ## Calibration records (R75) -/

/-- A record taken with its break points in order is one that R75 admits. -/
theorem takenRecord_admitted {c : Option CalRecord} (h : (takenRecord c).ordered = true) : (takenRecord c).Admitted := by
  cases c with
  | none => exact CalRecord.default_admitted
  | some c =>
    obtain ⟨hb1, hb2⟩ := Bool.and_eq_true_iff.mp h
    have h1 : c.clamp.b1 < c.clamp.b2 := of_decide_eq_true hb1
    have h2 : c.clamp.b2 < c.clamp.b3 := of_decide_eq_true hb2
    have clamped (lo hi v : Nat) (hlo : lo ≤ hi) : lo ≤ clampNat lo hi v ∧ clampNat lo hi v ≤ hi := by
      unfold clampNat; omega
    exact ⟨(clamped 1 524287 _ (by decide)).1, h1, h2, (clamped 1 524287 _ (by decide)).2,
      (clamped 0 65535 _ (by decide)).2, (clamped 0 65535 _ (by decide)).2, (clamped 0 65535 _ (by decide)).2,
      (clamped 0 65535 _ (by decide)).2⟩

/-- A channel whose records are changed to admitted ones, none of them pending while the settle point holds. -/
theorem State.ConfigOk.modChannel {s : State} (h : s.ConfigOk) {k : Fin 16} {f : Channel → Channel}
    (hc : (f s.channels[k]).cal.Admitted) (hp : ∀ c, (f s.channels[k]).pendingCal = some c → c.Admitted)
    (hs : s.settleHolds = true → (f s.channels[k]).pendingCal = none) : (s.modChannel k f).ConfigOk := by
  have get (j : Fin 16) : (s.modChannel k f).channels[j] = if j = k then f s.channels[k] else s.channels[j] := by
    rw [State.modChannel_channels]
    split
    · subst_vars; exact vupd_get_self ..
    · exact vupd_get_ne _ ‹_› _
  refine State.configOk_iff.mpr ⟨⟨h.active, h.future, h.now, h.then_, fun j => ?_, fun j c => ?_⟩,
    fun hh => ⟨h.settled hh, fun j => ?_⟩⟩ <;> rw [get] <;> split
  · exact hc
  · exact h.cals j
  · exact hp c
  · exact h.pending j c
  · exact hs hh
  · exact h.applied hh j

theorem State.ConfigOk.serveCalSet {s : State} (h : s.ConfigOk) (p : Port) (r : QueuedRequest) :
    (s.serveCalSet p r).ConfigOk := by
  have keep (a : Reply) : (s.answer p r a).ConfigOk := (State.KeepsConfig.answer ..).configOk h
  unfold State.serveCalSet
  split
  · exact keep _
  · rename_i k c _
    generalize ha : s.answer p r _ = u
    have hu : u.ConfigOk := ha ▸ keep _
    have hsu : u.settleHolds = s.settleHolds := by rw [← ha]; rfl
    unfold State.applyCal State.calOutcome
    cases ho : (takenRecord c).ordered
    · exact hu
    · have hadm := takenRecord_admitted ho
      cases hs : s.settleHolds
      · exact hu.modChannel (hu.cals k) (fun x hx => Option.some.inj hx ▸ hadm) fun hh =>
          absurd (hs.symm.trans (hsu.symm.trans hh)) nofun
      · exact hu.modChannel hadm (fun x => hu.pending k x) fun hh => hu.applied hh k

end Sys2Proof.Machine
end

section
/-! SUPPORT. Every step keeps the configuration: the commands of each kind, and the theorem for EveryStepKeepsTheConfiguration. -/

namespace Sys2Proof.Machine

/-- An operation that changes neither the report store nor a channel. -/
theorem State.KeepsConfig.of_blocks {s t : State} (ha : t.mpc.active = s.mpc.active)
    (hp : t.mpc.pendingCfg = s.mpc.pendingCfg) (hc : t.channels = s.channels) (hs : t.ssq.site = s.ssq.site)
    (hr : t.rps = s.rps) : s.KeepsConfig t :=
  .of_eq ha hp (State.calRecords_of_channels hc) hs (State.slotStates_of_rps hr)

theorem State.KeepsConfig.advance (t : Nat) (s : State) : s.KeepsConfig (s.advance t) := .of_eq rfl rfl rfl rfl rfl

theorem State.KeepsConfig.modPort (p : Port) (f : PortMachine → PortMachine) (s : State) : s.KeepsConfig (s.modPort p f) :=
  .of_eq rfl rfl rfl rfl rfl

theorem State.KeepsConfig.modTrain (f : OpenTrain → OpenTrain) (s : State) : s.KeepsConfig (s.modTrain f) :=
  .of_eq rfl rfl rfl rfl rfl

theorem State.KeepsConfig.modPair (pr : Pair) (f : PairMachine → PairMachine) (s : State) :
    s.KeepsConfig (s.modPair pr f) := .of_eq rfl rfl rfl rfl rfl

theorem State.KeepsConfig.countStray (s : State) :
    s.KeepsConfig (s.modAxt fun a => { a with stray := sat16 (a.stray + 1) }) := .of_eq rfl rfl rfl rfl rfl

theorem State.KeepsConfig.modScanner (x : Side) (f : Scanner → Scanner) (s : State) : s.KeepsConfig (s.modScanner x f) :=
  .of_eq rfl rfl rfl rfl rfl

theorem State.KeepsConfig.serveRead (p : Port) (kind : Nat) (reply : State → List Byte → Reply) (s : State) :
    s.KeepsConfig (s.serveRead p kind reply) :=
  State.serve_of (motive := s.KeepsConfig) (.refl s) p _ _ fun _ => .answer ..

theorem State.KeepsConfig.serveLanes (s : State) : s.KeepsConfig s.serveLanes :=
  .of_eq (by simp) (by simp) (State.calRecords_of_channels (by simp)) (by simp) (by simp)

/-! ## Nodes and timers -/

theorem State.KeepsConfig.gaugeFrame {g : Fin 4} {t : Nat} {a : GaugeArrival} {s u : State}
    (h : execGaugeFrame g t a s = .next u) : s.KeepsConfig u := by
  refine (State.KeepsConfig.advance t s).trans ?_
  obtain rfl := Host.Outcome.next.inj h
  generalize s.advance t = v
  have node (f : GaugeNode → GaugeNode) : v.KeepsConfig (v.modNode g f) := .of_eq rfl rfl rfl rfl rfl
  split
  · exact .refl v
  · exact node _
  · unfold State.settlingFrame
    split
    · exact node _
    · exact .of_eq rfl rfl rfl rfl rfl
    · exact .of_eq rfl rfl rfl rfl rfl
  · refine .of_eq (by simp) (by simp) ?_ (by simp) ?_ <;> simp
  · refine .of_eq (by simp) (by simp) ?_ (by simp) ?_ <;> simp

theorem State.KeepsConfig.failCalibration (x : Side) (s : State) : s.KeepsConfig (s.failCalibration x) :=
  .of_blocks (by simp) (by simp) (by simp) (by simp) (by simp)

theorem State.KeepsConfig.acceptScannerFrame (x : Side) (f : ScannerFrame) (s : State) :
    s.KeepsConfig (s.acceptScannerFrame x f) :=
  .of_blocks (by simp) (by simp) (by simp) (by simp) (by simp)

theorem State.KeepsConfig.scannerFrame {x : Side} {t : Nat} {a : ScannerArrival} {s u : State}
    (h : execScannerFrame x t a s = .next u) : s.KeepsConfig u := by
  refine (State.KeepsConfig.advance t s).trans ?_
  obtain rfl := Host.Outcome.next.inj h
  generalize s.advance t = v
  split
  · exact .refl v
  · split
    · unfold State.presentScannerFrame
      split
      · exact .acceptScannerFrame ..
      · exact .modScanner ..
      · rename_i m _
        have hj : v.KeepsConfig (v.scannerJump x m) := .of_eq rfl rfl rfl rfl rfl
        exact hj.trans (.acceptScannerFrame ..)
    · exact .modScanner ..
  · split
    · exact (State.KeepsConfig.modScanner ..).trans (.acceptScannerFrame ..)
    · exact .modScanner ..

theorem State.KeepsConfig.loseGauge (g : Fin 4) (s : State) : s.KeepsConfig (s.loseGauge g) :=
  .of_eq (by simp) (by simp) (by simp) (by simp) (by simp)

theorem State.KeepsConfig.loseScanner (x : Side) (s : State) : s.KeepsConfig (s.loseScanner x) :=
  .of_eq (by simp) (by simp) (State.calRecords_of_channels (by simp)) (by simp) (by simp)

theorem State.KeepsConfig.declareHalt (t : OpenTrain) (s : State) : s.KeepsConfig (s.declareHalt t) :=
  .of_eq (by simp) (by simp) (State.calRecords_of_channels (by simp)) (by simp) (by simp)

/-! ## Edges -/

theorem State.KeepsConfig.passageCrossing (pr : Pair) (c : Option (Bool × Nat)) (s : State) :
    s.KeepsConfig (s.passageCrossing pr c) := by
  have hr : s.KeepsConfig s.restartClear := .modTrain ..
  unfold State.passageCrossing
  split
  · exact hr.trans (.of_eq (by simp) (by simp) (State.calRecords_of_channels (by simp)) (by simp) (by simp))
  · exact hr

theorem State.ConfigOk.pairEdge {s : State} (h : s.ConfigOk) (pr : Pair) (outer : Bool) :
    (s.pairEdge pr outer).ConfigOk := by
  obtain ⟨m, c, ⟨-, he⟩ | ⟨-, he⟩⟩ := s.pairEdge_cases pr outer <;> rw [he] <;>
    have hm := (State.KeepsConfig.modPair pr (fun _ => m) s).configOk h
  · exact (State.KeepsConfig.passageCrossing ..).configOk hm
  · unfold State.idleCrossing
    split
    · exact hm.trainStart ..
    · exact ((State.KeepsConfig.countStray _).configOk hm).reportEdge
    · exact hm.reportEdge

theorem State.KeepsConfig.gateEdge (t : OpenTrain) (s : State) : s.KeepsConfig (s.restartClear.restartHalt.gateEdge t) :=
  (State.KeepsConfig.of_eq (s := s) (t := s.restartClear.restartHalt) rfl rfl rfl rfl rfl).trans
    (.of_eq (by simp) (by simp) (State.calRecords_of_channels (by simp)) (by simp) (by simp))

/-! ## The sweep and the store -/

theorem State.ConfigOk.sweepStep {s u : State} (h : s.ConfigOk) (he : execSweepStep s = .next u) : u.ConfigOk := by
  obtain rfl := Host.Outcome.next.inj he
  split
  · exact h
  · rename_i k _
    split
    · exact h
    · split
      · exact h
      · rename_i r _
        dsimp only
        split
        · exact ((State.KeepsConfig.modEvu ..).configOk h).endPass k
        · have hv : (s.sweepVisit k r.report (s.evu.sweepPos.norm r.report)).ConfigOk :=
            State.KeepsConfig.configOk
              (.of_eq (by simp) (by simp) (State.calRecords_of_channels (by simp)) (by simp) (by simp)) h
          unfold State.sweepAt
          dsimp only
          split
          · exact hv.endPass k
          · exact hv

/-- A slot that leaves COMPLETE for RELEASED was not CLOSING and is not (R150, R160). -/
theorem State.anyClosing_released {s : State} {k : Fin 4} {h : HeldSlot} (hk : s.rps.slots.get k = some h)
    (hst : h.st = .complete) : (s.modRps fun x =>
      { x with slots := x.slots.set k (some { h with st := .released }) }).anyClosing = s.anyClosing := by
  have hj (j : Fin 4) : (s.modRps fun x =>
      { x with slots := x.slots.set k (some { h with st := .released }) }).slotClosing j = s.slotClosing j := by
    unfold State.slotClosing State.modRps
    by_cases hjk : j = k
    · subst hjk
      rw [Vector.get_eq_getElem] at hk
      simp [hk, hst]
    · have : (k : Nat) ≠ j := fun he => hjk (Fin.ext he.symm)
      simp [this]
  simp only [State.anyClosing, hj]

/-- A release takes a COMPLETE slot, so no CLOSING one is gone by it (R160). -/
theorem State.KeepsConfig.serveRelease (p : Port) (r : QueuedRequest) (s : State) : s.KeepsConfig (s.serveRelease p r) := by
  unfold State.serveRelease
  split
  · split
    · exact .answer ..
    · split
      · split
        · rename_i k _ h hk hst
          refine ⟨rfl, rfl, rfl, fun hh => Eq.trans ?_ hh⟩
          exact congrArg (fun b => s.ssq.site.settles && !b)
            (State.anyClosing_released (s := s.answer p r (.bare .done)) hk hst).symm
        · exact .answer ..
      · exact .answer ..
  · exact .answer ..

theorem State.KeepsConfig.evaluated (e : Fin 2) (ev : Evaluation) (s : State) :
    s.KeepsConfig ((match s.liveReport ev.req.slot ev.req.number with
      | some r => s.completeLive ev r
      | none => s.completeGone ev).release e) := by
  have h : s.KeepsConfig (match s.liveReport ev.req.slot ev.req.number with
      | some r => s.completeLive ev r
      | none => s.completeGone ev) :=
    .of_eq (by split <;> simp) (by split <;> simp) (State.calRecords_of_channels (by split <;> simp)) (by split <;> simp)
      (State.evaluated_slotStates ev s)
  exact h.trans (.modEvu ..)

/-! ## Every command -/

theorem State.ConfigOk.serveAction {s : State} {p : Port} {outcome : State → ReplyOutcome} {effect : State → State}
    (he : ∀ v : State, v.ConfigOk → (effect v).ConfigOk) (h : s.ConfigOk) (r : QueuedRequest) :
    (s.serveAction p outcome effect r).ConfigOk :=
  he _ ((State.KeepsConfig.answer ..).configOk h)

/-- The commands that move no site keep the configuration, or are a CALIBRATION SET (R75). -/
theorem exec_configOk_of_movesNoSite {c : Instr} (hc : movesNoSite c = true) {s u : State} (hs : s.ConfigOk)
    (h : exec c s = .next u) : u.ConfigOk := by
  have keep {v : State} (hk : s.KeepsConfig v) : v.ConfigOk := hk.configOk hs
  have blocks {v : State} (ha : v.mpc.active = s.mpc.active) (hp : v.mpc.pendingCfg = s.mpc.pendingCfg)
      (hc : v.channels = s.channels) (hq : v.ssq.site = s.ssq.site) (hr : v.rps = s.rps) : v.ConfigOk :=
    keep (.of_blocks ha hp hc hq hr)
  cases c <;> simp only [movesNoSite, reduceCtorEq] at hc
  case gaugeFrame g t a => exact keep (.gaugeFrame h)
  case scannerFrame x t a => exact keep (.scannerFrame h)
  all_goals obtain rfl := Host.Outcome.next.inj h
  case calibrationSet p => exact State.serve_of hs p _ _ (hs.serveCalSet p)
  case trainRelease p => exact State.serve_of hs p _ _ fun r => keep (.serveRelease p r s)
  case portFramingReady p => split <;> exact blocks (by simp) (by simp) (by simp) (by simp) (by simp)
  case frameReceived p t bytes => exact keep ((State.KeepsConfig.advance ..).trans (.modPort ..))
  case badKind p => exact State.serve_of hs p _ _ fun _ => keep (.modPort ..)
  case trainStream p =>
    exact State.serve_of hs p _ _ fun _ => blocks (by simp) (by simp) (by simp) (by simp) (by simp)
  case alertTake p =>
    exact State.serve_of hs p _ _ fun _ => blocks (by simp) (by simp) (by simp) (by simp) (by simp)
  case outputFrameSent p => split <;> exact blocks rfl rfl rfl rfl rfl
  case streamPage p =>
    split
    · split
      · exact hs
      · split
        · exact keep (.modPort ..)
        · exact hs
    · exact hs
  case lineBreak p => split <;> exact blocks rfl rfl rfl rfl rfl
  case lineBreakEnd p => exact keep (.modPort ..)
  case pairTimerExpiry pr => split <;> exact blocks rfl rfl rfl rfl rfl
  case haltTimerExpiry =>
    split
    · split
      · split
        · exact keep ((State.KeepsConfig.advance ..).trans (.declareHalt ..))
        · exact hs
      · exact hs
    · exact hs
  case gaugeLossTimerExpiry g =>
    split
    · split
      · exact keep ((State.KeepsConfig.advance ..).trans (.loseGauge ..))
      · exact hs
    · exact hs
  case quietTimerExpiry k =>
    split
    · rename_i d _
      have hc := State.modChannel_calRecords (f := fun c => { c with quiet := none }) (fun _ => rfl) (fun _ => rfl) k
        (s.advance d)
      exact keep ((State.KeepsConfig.advance d s).trans (.of_eq rfl rfl hc rfl rfl))
    · exact hs
  case scannerLossTimerExpiry x =>
    split
    · split
      · exact keep ((State.KeepsConfig.advance ..).trans (.loseScanner ..))
      · exact hs
    · exact hs
  case shutterTimerExpiry x =>
    split
    · split
      · exact keep ((State.KeepsConfig.advance ..).trans (.failCalibration ..))
      · exact hs
    · exact hs
  case gateTimeExpiry =>
    split
    · split
      · exact keep (.of_eq (by simp) (by simp) (State.calRecords_of_channels (by simp)) (by simp) (by simp))
      · exact hs
    · exact hs
  all_goals exact keep (.serveRead ..)

/-- Every command keeps the configuration in its ranges and free of conflicts, with nothing pending at the settle point (R17). -/
theorem exec_configOk {c : Instr} {s u : State} (hs : s.ConfigOk) (h : exec c s = .next u) : u.ConfigOk := by
  have keep {v : State} (hk : s.KeepsConfig v) : v.ConfigOk := hk.configOk hs
  have at_ (d : Nat) : (s.advance d).ConfigOk := keep (.advance d s)
  have control (p : Port) (action : Nat) (act : QueuedRequest → State → State) (ha : ∀ r, (act r s).ConfigOk) :
      (s.serveControl p action act).ConfigOk := State.serveControl_of hs p action act (fun _ _ => keep (.answer ..)) ha
  cases hc : movesNoSite c
  case true => exact exec_configOk_of_movesNoSite hc hs h
  cases c <;> simp only [movesNoSite, reduceCtorEq] at hc
  case sweepStep => exact hs.sweepStep h
  all_goals obtain rfl := Host.Outcome.next.inj h
  case powerOn =>
    exact State.KeepsConfig.configOk (s := State.reset) (.of_eq rfl rfl rfl rfl rfl) reset_configOk
  case clockSet p =>
    refine State.serve_of hs p _ _ fun r => ?_
    split
    · exact (keep (.answer ..)).modSsq rfl
    · exact keep (.answer ..)
  case enable p => exact control _ _ _ (State.ConfigOk.serveAction (fun _ => State.ConfigOk.enableSite) hs)
  case disable p => exact control _ _ _ (State.ConfigOk.serveAction (fun _ => State.ConfigOk.disableSite) hs)
  case dormancyOn p => exact control _ _ _ (State.ConfigOk.serveAction (fun _ => State.ConfigOk.dormancyOnSite) hs)
  case dormancyOff p => exact control _ _ _ (State.ConfigOk.serveAction (fun _ => State.ConfigOk.dormancyOffSite) hs)
  case restart p =>
    exact control _ _ _ (State.ConfigOk.serveAction (fun _ => State.ConfigOk.restartSite) (keep (.modPort ..)))
  case configSet p => exact State.serve_of hs p _ _ (hs.serveConfigSet p)
  case approachRisingEdge t =>
    have hu := (at_ t).modSsq (f := fun q => { q with approachInput := true }) rfl
    split
    · exact hu
    · exact State.arm_configOk hu.configured
    · exact State.arm_configOk hu.configured
    · exact State.arm_configOk hu.configured
    · split
      · exact hu
      · exact hu.modSsq rfl
    · exact hu.modSsq rfl
  case approachFallingEdge t =>
    have hu := (at_ t).modSsq (f := fun q => { q with approachInput := false }) rfl
    split
    · exact hu.falseApproach _
    · exact hu
  case armingTimerExpiry =>
    split
    · split
      · exact (at_ _).falseApproach _
      · exact hs
    · exact hs
  case sweepTimerExpiry =>
    split
    · split
      · exact (at_ _).enter _ _
      · exact hs
    · exact hs
  case sweepDurationExpiry =>
    split
    · split
      · exact (at_ _).enter _ _
      · exact hs
    · exact hs
  case restTimerExpiry =>
    split
    · split
      · exact (at_ _).enter _ _
      · exact hs
    · exact hs
  case siteClockTick => exact (at_ _).modSsq rfl
  case wheelSensorEdge w t =>
    split
    · exact at_ t
    · exact (at_ t).pairEdge ..
  case gateSensorEdge t =>
    split
    · exact (State.KeepsConfig.gateEdge ..).configOk (at_ t)
    · split
      · exact at_ t
      · exact (at_ t).reportEdge
  case clearTimerExpiry =>
    split
    · split
      · unfold State.clearTest
        split
        · exact (at_ _).closeTrain ..
        · split
          · exact (at_ _).closeTrain ..
          · exact (State.KeepsConfig.modTrain ..).configOk (at_ _)
      · exact hs
    · exact hs
  case standTimerExpiry =>
    split
    · split
      · exact (at_ _).closeTrain ..
      · exact hs
    · exact hs
  case evaluationCompletion e =>
    split
    · exact hs
    · rename_i ev _
      exact (State.KeepsConfig.serveLanes _).configOk ((keep (.evaluated e ev s)).completionTest _)

/-- Settles O58: a settle point that begins takes the future values (`State.Configured.applyPending`), CONFIG SET and CALIBRATION
SET take only what their tests admit, and every other operation leaves the configuration. -/
theorem everyStepKeepsTheConfiguration : Obligations.EveryStepKeepsTheConfiguration := by
  intro s t hs h
  exact step_of (motive := State.ConfigOk) (fun v => State.KeepsConfig.configOk (t := v.idle) (.of_eq rfl rfl rfl rfl rfl))
    (fun v q => State.KeepsConfig.configOk (t := { v with pending := q }) (.of_eq rfl rfl rfl rfl rfl))
    (fun _ _ _ => exec_configOk) hs h

end Sys2Proof.Machine
end

section
/-! SUPPORT. SettingsMoveOnlyByTheirCommands: what each command does to the clock, the dormancy setting and the open train. -/

namespace Sys2Proof.Machine

/-- The commands that move the site clock (R18). -/
def movesClock (c : Instr) : Prop := c = .siteClockTick ∨ c = .powerOn ∨ ∃ p, c = .clockSet p

/-- The commands that move the dormancy setting (R7). -/
def movesDormancy (c : Instr) : Prop := c = .powerOn ∨ ∃ p, c = .dormancyOn p ∨ c = .dormancyOff p

/-- The commands that open or end a train (R37, R40 to R42). -/
def movesTrain (c : Instr) : Prop :=
  (∃ w t, c = .wheelSensorEdge w t) ∨ c = .clearTimerExpiry ∨ c = .standTimerExpiry ∨ c = .powerOn ∨ ∃ p, c = .restart p

/-- What a control request leaves unchanged: its answer and its effect both keep the value `f`. -/
theorem State.serveControl_keeps {α : Type} (f : State → α) {s : State} (p : Port) (action : Nat)
    (outcome : State → ReplyOutcome) {effect : State → State} (ha : ∀ r a, f (s.answer p r a) = f s)
    (he : ∀ r a, f (effect (s.answer p r a)) = f (s.answer p r a)) :
    f (s.serveControl p action (State.serveAction p outcome effect)) = f s :=
  State.serveControl_of (motive := fun v => f v = f s) rfl p action _ ha fun r =>
    (he r _).trans (ha r _)

theorem exec_clock {c : Instr} {s t : State} (h : exec c s = .next t) : movesClock c ∨ t.ssq.clock = s.ssq.clock := by
  have control (p : Port) (action : Nat) (outcome : State → ReplyOutcome) {effect : State → State}
      (he : ∀ v, (effect v).ssq.clock = v.ssq.clock) :
      (s.serveControl p action (State.serveAction p outcome effect)).ssq.clock = s.ssq.clock :=
    State.serveControl_keeps (fun v => v.ssq.clock) p action outcome (fun _ _ => rfl) fun _ _ => he _
  cases hc : movesNoSite c
  case true => exact .inr (congrArg Ssq.clock (exec_keepsSite hc h).nodes.ssq)
  cases c <;> simp only [movesNoSite, reduceCtorEq] at hc
  case powerOn => exact .inl (.inr (.inl rfl))
  case siteClockTick => exact .inl (.inl rfl)
  case clockSet p => exact .inl (.inr (.inr ⟨p, rfl⟩))
  all_goals
    right
    obtain rfl := Host.Outcome.next.inj h
  case enable p => exact control p _ _ fun v => by simp
  case disable p => exact control p _ _ fun v => by simp
  case dormancyOn p => exact control p _ _ fun v => by simp
  case dormancyOff p => exact control p _ _ fun v => by simp
  case restart p =>
    exact State.serveControl_of (motive := fun v => v.ssq.clock = s.ssq.clock) rfl p _ _ (fun _ _ => rfl) fun r => by simp [State.serveAction]
  case configSet p => exact State.serve_of (motive := fun v => v.ssq.clock = s.ssq.clock) rfl p _ _ fun r => by simp
  case sweepStep =>
    split
    · rfl
    · split
      · rfl
      · split
        · rfl
        · dsimp only; split <;> simp
  all_goals (repeat' split) <;> simp

theorem exec_dormancy {c : Instr} {s t : State} (h : exec c s = .next t) :
    movesDormancy c ∨ t.ssq.dormancy = s.ssq.dormancy := by
  have control (p : Port) (action : Nat) (outcome : State → ReplyOutcome) {effect : State → State}
      (he : ∀ v, (effect v).ssq.dormancy = v.ssq.dormancy) :
      (s.serveControl p action (State.serveAction p outcome effect)).ssq.dormancy = s.ssq.dormancy :=
    State.serveControl_keeps (fun v => v.ssq.dormancy) p action outcome (fun _ _ => rfl) fun _ _ => he _
  cases hc : movesNoSite c
  case true => exact .inr (congrArg Ssq.dormancy (exec_keepsSite hc h).nodes.ssq)
  cases c <;> simp only [movesNoSite, reduceCtorEq] at hc
  case powerOn => exact .inl (.inl rfl)
  case dormancyOn p => exact .inl (.inr ⟨p, .inl rfl⟩)
  case dormancyOff p => exact .inl (.inr ⟨p, .inr rfl⟩)
  all_goals
    right
    obtain rfl := Host.Outcome.next.inj h
  case clockSet p =>
    refine State.serve_of (motive := fun v => v.ssq.dormancy = s.ssq.dormancy) rfl p _ _ fun r => ?_
    split <;> simp
  case enable p => exact control p _ _ fun v => by simp
  case disable p => exact control p _ _ fun v => by simp
  case restart p =>
    exact State.serveControl_of (motive := fun v => v.ssq.dormancy = s.ssq.dormancy) rfl p _ _ (fun _ _ => rfl) fun r => by simp [State.serveAction]
  case configSet p => exact State.serve_of (motive := fun v => v.ssq.dormancy = s.ssq.dormancy) rfl p _ _ fun r => by simp
  case sweepStep =>
    split
    · rfl
    · split
      · rfl
      · split
        · rfl
        · dsimp only; split <;> simp
  all_goals (repeat' split) <;> simp

theorem exec_train {c : Instr} {s t : State} (h : exec c s = .next t) :
    movesTrain c ∨ t.axt.train.isSome = s.axt.train.isSome := by
  have control (p : Port) (action : Nat) (outcome : State → ReplyOutcome) {effect : State → State}
      (he : ∀ v, (effect v).axt.train.isSome = v.axt.train.isSome) :
      (s.serveControl p action (State.serveAction p outcome effect)).axt.train.isSome = s.axt.train.isSome :=
    State.serveControl_keeps (fun v => v.axt.train.isSome) p action outcome (fun _ _ => rfl) fun _ _ => he _
  cases hc : movesNoSite c
  case true => exact .inr (exec_keepsSite hc h).train
  cases c <;> simp only [movesNoSite, reduceCtorEq] at hc
  case wheelSensorEdge w t => exact .inl (.inl ⟨w, t, rfl⟩)
  case clearTimerExpiry => exact .inl (.inr (.inl rfl))
  case standTimerExpiry => exact .inl (.inr (.inr (.inl rfl)))
  case powerOn => exact .inl (.inr (.inr (.inr (.inl rfl))))
  case restart p => exact .inl (.inr (.inr (.inr (.inr ⟨p, rfl⟩))))
  all_goals
    right
    obtain rfl := Host.Outcome.next.inj h
  case clockSet p =>
    refine State.serve_of (motive := fun v => v.axt.train.isSome = s.axt.train.isSome) rfl p _ _ fun r => ?_
    split <;> rfl
  case enable p => exact control p _ _ fun v => by simp
  case disable p => exact control p _ _ fun v => by simp
  case dormancyOn p => exact control p _ _ fun v => by simp
  case dormancyOff p => exact control p _ _ fun v => by simp
  case configSet p =>
    exact State.serve_of (motive := fun v => v.axt.train.isSome = s.axt.train.isSome) rfl p _ _ fun r => by simp
  case sweepStep =>
    split
    · rfl
    · split
      · rfl
      · split
        · rfl
        · dsimp only; split <;> simp
  all_goals (repeat' split) <;> simp

/-- A wheel sensor edge ends no open train: it is restarted or crossed, never closed (R20, R25, R40). -/
theorem execWheelSensorEdge_open {w : WheelSensor} {d : Nat} {s t : State} (h : execWheelSensorEdge w d s = .next t)
    (hs : s.axt.train.isSome) : t.axt.train.isSome := by
  obtain rfl := Host.Outcome.next.inj h
  split
  · exact hs
  · obtain ⟨m, c, ⟨-, he⟩ | ⟨hn, -⟩⟩ :=
      (s.advance d).pairEdge_cases (sensorPlace w).1 (sensorPlace w).2
    · rw [he, State.passageCrossing_open]; exact hs
    · exact absurd (hs.symm.trans hn) nofun

/-- A command that may end a train opens none where none is open: a closure needs the open train, RESTART and power-on leave
none. -/
theorem exec_no_train {c : Instr} {s t : State} (h : exec c s = .next t) (hs : s.axt.train = none)
    (hc : c = .clearTimerExpiry ∨ c = .standTimerExpiry ∨ c = .powerOn ∨ ∃ p, c = .restart p) : t.axt.train = none := by
  rcases hc with rfl | rfl | rfl | ⟨p, rfl⟩ <;> obtain rfl := Host.Outcome.next.inj h
  · simp [hs]
  · simp [hs]
  · rfl
  · refine State.serveControl_of (motive := fun v => v.axt.train = none) hs p _ _ (fun _ _ => hs) fun r => ?_
    simp [State.serveAction, State.restartSite_eq, State.restarted, State.clearMeasuring, Axt.reset]

/-- Settles O6, by the commands of each kind: those that move no site keep the sequencer and the train (`exec_keepsSite`), and the
rest change of the three only what is theirs. -/
theorem settingsMoveOnlyByTheirCommands : Obligations.SettingsMoveOnlyByTheirCommands := by
  refine ⟨fun c s t h hne => (exec_clock h).resolve_right hne, fun c s t h hne => (exec_dormancy h).resolve_right hne,
    fun c s t h => ⟨fun hs ht => ?_, fun hs ht => ?_⟩⟩
  · rcases exec_train h with (hw | hc) | hk
    · exact hw
    · exact absurd (exec_no_train h hs hc) ht
    · rw [hs] at hk
      exact absurd (Option.isNone_iff_eq_none.mp (by simpa using hk)) ht
  · rcases exec_train h with (⟨w, d, rfl⟩ | hc) | hk
    · have := execWheelSensorEdge_open h (Option.isSome_iff_ne_none.mpr hs)
      simp [ht] at this
    · exact hc
    · rw [ht] at hk
      exact absurd (Option.isNone_iff_eq_none.mp (by simpa using hk.symm)) hs

end Sys2Proof.Machine
end

section
/-! SUPPORT. NoticesNeedRoom: a notice is sent or lost (R173, R178), and the first notice of a port (R2). -/

namespace Sys2Proof.Machine

theorem PortMachine.notice_eq {pm : PortMachine} (h : pm.Orderly) (kind : Byte) (payload : List Byte) :
    pm.notice kind payload =
      if pm.broken = true ∨ 16 ≤ pm.waitingNotices then { pm with noticeLoss := min (pm.noticeLoss + 1) 65535 }
      else pm.sends [noticeFrame kind payload] := by
  have lost : (pm.broken || decide (Config.noticeDepth ≤ pm.waitingNotices)) = true ↔
      pm.broken = true ∨ 16 ≤ pm.waitingNotices := by
    rw [Bool.or_eq_true, decide_eq_true_eq]; rfl
  unfold PortMachine.notice
  by_cases hc : pm.broken = true ∨ 16 ≤ pm.waitingNotices
  · rw [if_pos hc, if_pos (lost.mpr hc)]
    rfl
  · rw [if_neg hc, if_neg (mt lost.mp hc), PortMachine.push_eq_sends h]
    rfl

/-- The mark that a port has framed does not change what it sends. -/
theorem PortMachine.sends_ready (pm : PortMachine) (fs : List OutFrame) :
    ({ pm with ready := true } : PortMachine).sends fs = { pm.sends fs with ready := true } := rfl

theorem PortMachine.Room.ready {pm : PortMachine} {n : Nat} (h : pm.Room n) :
    ({ pm with ready := true } : PortMachine).Room n := ⟨h.unbroken, h.orderly, h.room⟩

/-- Settles O10: the notice of a port is a push or a loss (`PortMachine.notice_eq`), and the first one finds room. -/
theorem noticesNeedRoom : Obligations.NoticesNeedRoom := by
  refine ⟨fun kind payload pm h => PortMachine.notice_eq h kind payload, fun p s h => ?_⟩
  refine congrArg Host.Outcome.next ?_
  by_cases hr : (s.mpc.ports.get p).ready = true
  · rw [if_pos hr, if_pos hr]
  · rw [if_neg hr, if_neg hr]
    have hn := PortMachine.notice_eq_sends (n := 0) h.ready 0x40
      (siteStatePayload .offline none .powerOn s.ssq.disablePending s.ssq.clock)
    rw [PortMachine.sends_ready] at hn
    cases p <;> simp only [State.noticeTo, State.modPort, State.withPort, PerPort.upd, PerPort.get] at hn ⊢ <;> rw [hn] <;> rfl

end Sys2Proof.Machine
end

section
/-! SUPPORT. The moves of the site in the words of the statements: a change of the site state that finds room for its notice, the
settle point it begins, and the move on of R10. -/

namespace Sys2Proof.Machine

/-! ## Room -/

theorem State.Room.congr {s t : State} {n : Nat} (h : s.Room n) (hp : t.mpc.ports = s.mpc.ports) : t.Room n := by
  unfold State.Room; rw [hp]; exact h

theorem PortMachine.Room.mono {pm : PortMachine} {m n : Nat} (h : pm.Room n) (hm : m ≤ n) : pm.Room m :=
  ⟨h.unbroken, h.orderly, le_trans (Nat.add_le_add_left hm _) h.room⟩

theorem State.Room.mono {s : State} {m n : Nat} (h : s.Room n) (hm : m ≤ n) : s.Room m := ⟨h.1.mono hm, h.2.mono hm⟩

theorem State.Room.telling {s : State} {n : Nat} (h : s.Room (n + 1)) (f : OutFrame) : (s.telling [f]).Room n :=
  ⟨h.1.sends f, h.2.sends f⟩

/-- A reply is no notice: it takes none of the room for notices (R173). -/
theorem PortMachine.Room.answered {pm : PortMachine} {n : Nat} (h : pm.Room n) (r : QueuedRequest) (o : Byte)
    (body : List Byte) : (pm.answered [replyFrame r o body]).Room n where
  unbroken := h.unbroken
  orderly := PortMachine.orderly_sends _ _
  room := by
    refine le_trans (Nat.add_le_add_right ?_ n) h.room
    obtain ⟨_, _, ho⟩ : pm.broken = false ∧ True ∧ pm.Orderly := ⟨h.unbroken, trivial, h.orderly⟩
    rcases pm with ⟨_, _, l, w⟩
    unfold PortMachine.Orderly at ho
    cases l with
    | none => cases ho rfl; exact Nat.le_refl 0
    | some f =>
      simp [PortMachine.waitingNotices, PortMachine.answered, PortMachine.sends, PortMachine.outbox, replyFrame]

theorem State.Room.replying {s : State} {n : Nat} (h : s.Room n) (p : Port) (r : QueuedRequest) (o : Byte)
    (body : List Byte) : (s.replying p (replyFrame r o body)).Room n := by
  obtain ⟨hs, hm⟩ := h
  cases p
  · exact ⟨hs.answered r o body, hm⟩
  · exact ⟨hs, hm.answered r o body⟩

/-! ## Moves -/

/-- Only in ARMED is a calibration in flight, so elsewhere there is none to withdraw (R12). -/
theorem State.NodesOk.uncalled {s : State} (h : s.NodesOk) (ha : s.ssq.site ≠ .armed) : s.uncalled = s :=
  State.withdrawCalibration_of_idle fun x => not_not.mp fun hx => ha (h.armed x hx)

/-- A move withdraws the calibration call, stops the four timers, resumes the streams where they start and stops them where they
stop, and takes the entry actions of its state (R1, R3, R12). -/
theorem State.NodesOk.movedTo {s : State} (h : s.NodesOk) (new : SiteState) : s.movedTo new =
    (let v := s.uncalled.inSite new
     if new.streams = true then (if s.ssq.site.streams = true then v else v.resumed) else v.stopped).entryActions := by
  have hu : (if s.ssq.site = .armed then s.uncalled else s) = s.uncalled := by
    split
    · rfl
    · exact (h.uncalled ‹_›).symm
  have hst : (s.uncalled.inSite new).ssq.streaming = s.ssq.site.streams := h.streaming
  rw [State.movedTo_eq h, hu]
  congr 1
  dsimp only
  cases hn : new.streams <;> cases hs : s.ssq.site.streams <;> simp
  rw [hs] at hst
  unfold State.stopped
  rw [if_neg (by simp [hst])]

/-- The rest timer as an entry to PATROL starts it (R15). -/
def State.resting (s : State) : State :=
  { s with ssq := { s.ssq with
      restTimer := if s.ssq.dormancy = true then some (s.now + 1000000 * s.cfg .tclear) else none } }

/-- The sweep timer as an entry to DORMANT starts it (R15). -/
def State.sleeping (s : State) : State :=
  { s with ssq := { s.ssq with sweepTimer := some (s.now + 1000000 * s.cfg .tsweep) } }

/-- The latch and the pair machines as an entry to OFFLINE leaves them (R6, R20). -/
def State.outOfService (s : State) : State :=
  let idle (m : PairMachine) : PairMachine := { m with st := .idle, timer := none }
  { s with
    ssq := { s.ssq with latch := false }
    axt := { s.axt with pairs := { west := idle s.axt.pairs.west, east := idle s.axt.pairs.east } } }

theorem sec_eq (n : Nat) : sec n = 1000000 * n := Nat.mul_comm ..

theorem State.entryActions_patrol {s : State} (h : s.ssq.site = .patrol) (hr : s.ssq.restTimer = none) :
    s.entryActions = s.resting := by
  unfold State.entryActions State.resting
  rw [h, ← sec_eq, ← hr]
  dsimp only
  split <;> rfl

theorem State.entryActions_dormant {s : State} (h : s.ssq.site = .dormant) : s.entryActions = s.sleeping := by
  unfold State.entryActions State.sleeping
  rw [h, ← sec_eq]; rfl

theorem State.entryActions_offline {s : State} (h : s.ssq.site = .offline) : s.entryActions = s.outOfService := by
  unfold State.entryActions
  rw [h]; rfl

/-- The arming timer as an entry to ARMED starts it (R8, R10). -/
def State.arming (s : State) : State :=
  { s with ssq := { s.ssq with
      armTimer := if s.levelMode = true then none else some (s.now + 1000000 * s.cfg .tarm) } }

theorem State.arming_level {s : State} (hl : s.levelMode = true) (ht : s.ssq.armTimer = none) : s.arming = s := by
  unfold State.arming
  rw [if_pos hl, ← ht]

theorem State.entryActions_armed {s : State} (h : s.ssq.site = .armed) (ht : s.ssq.armTimer = none) :
    s.entryActions = s.arming.called := by
  unfold State.entryActions State.arming
  rw [h, ← sec_eq, ← State.callCalibration_eq_called, ← ht]
  dsimp only
  split <;> rfl

theorem State.NodesOk.movedTo_patrol {s : State} (h : s.NodesOk) : s.movedTo .patrol =
    (if s.ssq.site.streams = true then s.uncalled.inSite .patrol else (s.uncalled.inSite .patrol).resumed).resting := by
  rw [h.movedTo]
  cases s.ssq.site.streams
  · exact State.entryActions_patrol rfl rfl
  · exact State.entryActions_patrol rfl rfl

theorem State.NodesOk.movedTo_dormant {s : State} (h : s.NodesOk) :
    s.movedTo .dormant = (s.uncalled.inSite .dormant).stopped.sleeping := by
  rw [h.movedTo, State.entryActions_dormant]
  · rfl
  · exact (by unfold State.stopped; split <;> rfl : (s.uncalled.inSite .dormant).stopped.ssq.site = .dormant)

theorem State.NodesOk.movedTo_offline {s : State} (h : s.NodesOk) :
    s.movedTo .offline = (s.uncalled.inSite .offline).stopped.outOfService := by
  rw [h.movedTo, State.entryActions_offline]
  · rfl
  · exact (by unfold State.stopped; split <;> rfl : (s.uncalled.inSite .offline).stopped.ssq.site = .offline)

theorem State.NodesOk.movedTo_armed {s : State} (h : s.NodesOk) : s.movedTo .armed =
    (if s.ssq.site.streams = true then s.uncalled.inSite .armed else (s.uncalled.inSite .armed).resumed).arming.called := by
  rw [h.movedTo]
  cases s.ssq.site.streams
  · exact State.entryActions_armed rfl rfl
  · exact State.entryActions_armed rfl rfl

/-! ## An entry -/

/-- A change of the site state that finds room: the move and its notice (R3, R4). -/
def State.entered (new : SiteState) (cause : Cause) (s : State) : State :=
  (s.movedTo new).telling [siteNotice new s.ssq.site cause s.ssq.disablePending s.ssq.clock]

theorem State.changeSite_eq_entered {s : State} {n : Nat} (h : s.Room (n + 1)) (new : SiteState) (cause : Cause) :
    s.changeSite new cause = s.entered new cause := by
  rw [State.changeSite_eq_telling h, State.movedTo_ssq]
  rfl

/-- The latch set (R8). -/
def State.latched (s : State) : State := { s with ssq := { s.ssq with latch := true } }

/-- A site that goes to ARMED: the latch set, the timers but the arming timer stopped, the streams running, the calibration called,
the notice sent (R8, R10, R12). -/
theorem State.arm_eq {s : State} {n : Nat} (hn : s.NodesOk) (hr : s.Room (n + 1)) (ha : s.ssq.site ≠ .armed) : s.arm =
    (if s.ssq.site.streams = true then s.latched.inSite .armed else (s.latched.inSite .armed).resumed).arming.called.telling
      [siteNotice .armed s.ssq.site .approach s.ssq.disablePending s.ssq.clock] := by
  have hl : s.latched.NodesOk := hn.modSsq (f := fun q => { q with latch := true }) rfl rfl
  have he : s.arm = s.latched.entered .armed .approach := State.changeSite_eq_entered (s := s.latched) (hr.congr rfl) ..
  rw [he, State.entered, hl.movedTo_armed, hl.uncalled ha]
  rfl

/-- R10 moves the site on to ARMED. -/
def State.Carries (s : State) : Prop := s.levelMode = true ∧ s.ssq.approachInput = true
  ∧ (s.ssq.site = .patrol ∨ s.ssq.site = .dormant ∨ s.ssq.site = .sweep)

/-- Either the move on of R10 is not made, or both ports have room for its notice. -/
def State.CarryFits (s : State) : Prop := s.Room 1 ∨ ¬s.Carries

theorem State.levelMode_false {s : State} (h : s.cfg .approachMode = 0) : s.levelMode = false := by
  unfold State.levelMode; rw [h]; rfl

theorem State.levelCarry_of_not {s : State} (h : ¬s.Carries) : s.levelCarry = s := by
  unfold State.levelCarry
  split
  · rename_i hc
    obtain ⟨hl, hi⟩ := Bool.and_eq_true_iff.mp hc
    split
    · rename_i hs; exact absurd ⟨hl, hi, .inl hs⟩ h
    · rename_i hs; exact absurd ⟨hl, hi, .inr (.inl hs)⟩ h
    · rename_i hs; exact absurd ⟨hl, hi, .inr (.inr hs)⟩ h
    · rfl
  · rfl

theorem State.levelCarry_of_carries {s : State} (h : s.Carries) : s.levelCarry = s.arm := by
  obtain ⟨hl, hi, hs⟩ := h
  unfold State.levelCarry
  rw [if_pos (by simp [hl, hi])]
  rcases hs with hs | hs | hs <;> rw [hs]

theorem State.carriedOn_of_not {s : State} (h : ¬s.Carries) : s.carriedOn = s := if_neg h

theorem State.carriedOn_of_carries {s : State} (h : s.Carries) : s.carriedOn =
    (if s.ssq.site = .dormant then (s.latched.inSite .armed).resumed else s.latched.inSite .armed).called.telling
      [siteNotice .armed s.ssq.site .approach s.ssq.disablePending s.ssq.clock] := if_pos h

/-- The move on of R10 with its notice, where it is made (R10, R12). -/
theorem State.levelCarry_eq_carriedOn {s : State} (hn : s.NodesOk) (hf : s.CarryFits) : s.levelCarry = s.carriedOn := by
  by_cases hc : s.Carries
  case neg => rw [State.levelCarry_of_not hc, State.carriedOn_of_not hc]
  have hroom : s.Room 1 := hf.resolve_right (not_not.mpr hc)
  rw [State.levelCarry_of_carries hc, State.carriedOn_of_carries hc]
  obtain ⟨hl, -, hs⟩ := hc
  have h1 : (s.latched.inSite .armed).arming = s.latched.inSite .armed := State.arming_level hl rfl
  have h2 : (s.latched.inSite .armed).resumed.arming = (s.latched.inSite .armed).resumed := State.arming_level hl rfl
  rw [State.arm_eq hn hroom (by rintro h; simp [h] at hs)]
  rcases hs with hs | hs | hs <;>
    simp only [hs, SiteState.streams, if_true, if_false, reduceCtorEq, Bool.false_eq_true, h1, h2]

/-- A settle point that an entry may begin: the state that leaves a state where it does not hold for one where it may (R17). -/
theorem State.settleIfBegun_eq {s t : State} (hk : t.anyClosing = s.anyClosing) :
    t.settleIfBegun s.settleHolds =
      if s.ssq.site.settles = false ∧ t.ssq.site.settles = true then t.settledUnlessClosing else t := by
  unfold State.settleIfBegun State.settleHolds State.settledUnlessClosing
  rw [hk, State.applyPending_eq_settled]
  cases s.ssq.site.settles <;> cases t.ssq.site.settles <;> cases s.anyClosing <;> rfl

/-- An entry with room for its notice and, where it moves on to ARMED, for a second (R4, R10, R17). -/
theorem State.enter_eq {s : State} {n : Nat} (hn : s.NodesOk) (hr : s.Room (n + 1)) (new : SiteState) (cause : Cause)
    (hf : (if s.ssq.site.settles = false ∧ new.settles = true then (s.entered new cause).settledUnlessClosing
      else s.entered new cause).CarryFits) :
    s.enter new cause = (if s.ssq.site.settles = false ∧ new.settles = true then (s.entered new cause).settledUnlessClosing
      else s.entered new cause).carriedOn := by
  have hX : ((s.changeSite new cause).settleIfBegun s.settleHolds) =
      (if s.ssq.site.settles = false ∧ new.settles = true then (s.entered new cause).settledUnlessClosing
        else s.entered new cause) := by
    rw [State.settleIfBegun_eq (State.anyClosing_congr (State.slotStates_of_rps (by simp))), State.changeSite_site,
      State.changeSite_eq_entered hr]
  rw [State.enter, hX]
  refine State.levelCarry_eq_carriedOn ?_ hf
  rw [← hX]
  exact (State.KeepsNodes.settleIfBegun _ _).nodesOk (State.changeSite_nodesOk hn new cause)

/-- With room for two notices every entry fits. -/
theorem State.Room.carryFits {s t : State} {f : OutFrame} (h : s.Room 2) (hp : t.mpc.ports = (s.telling [f]).mpc.ports) :
    t.CarryFits := .inl ((h.telling f).congr hp)

/-- Where R10 moves no site on, room for the entry's own notice is enough. -/
theorem State.RoomToRest.carryFits {s t : State} {f : OutFrame} (h : s.RoomToRest)
    (hp : t.mpc.ports = (s.telling [f]).mpc.ports) (hi : t.ssq.approachInput = s.ssq.approachInput)
    (hm : t.cfg .approachMode = s.cfg .approachMode ∨ t.cfg .approachMode = s.futureCfg .approachMode) : t.CarryFits := by
  rcases h with h | ⟨-, h | ⟨h, h'⟩⟩
  · exact h.carryFits hp
  · exact .inr fun hc => absurd ((hi.trans h).symm.trans hc.2.1) nofun
  · exact .inr fun hc => absurd ((State.levelMode_false (hm.elim (·.trans h) (·.trans h'))).symm.trans hc.1) nofun

theorem State.RoomToRest.room {s : State} (h : s.RoomToRest) : s.Room 1 :=
  h.elim (·.mono (by decide)) (·.1)

end Sys2Proof.Machine
end

section
/-! SUPPORT. The site control actions: EnableBringsIntoService, DisableTakesOutOfService, DormancyActions. -/

namespace Sys2Proof.Machine

/-! ## A served action -/

/-- A SITE CONTROL request that a row serves: its reply, showing the state after the action, then the action (R172, R173). -/
theorem State.serveControl_eq {s : State} {p : Port} {r : QueuedRequest} {a : Byte} {n : Nat} (h : s.Asks p r 0x03 [a])
    (hn : a.toNat = n) (hle : n ≤ 4) (act : QueuedRequest → State → State) : s.serveControl p n act = act r s := by
  have hserves : r.controls n = true := by
    simp [QueuedRequest.controls, h.hasKind 3 rfl, h.payload, hn]
  have hrefusal : siteControlRefusal r.payload = none := by
    rw [h.payload]
    exact if_neg (by omega)
  rw [State.serveControl, State.serve_eq h.head, if_pos hserves, hrefusal]

theorem State.serveAction_eq {s : State} {p : Port} (h : (s.mpc.ports.get p).Orderly) (outcome : State → ReplyOutcome)
    (effect : State → State) (r : QueuedRequest) : s.serveAction p outcome effect r =
      effect (s.replying p (replyFrame r (BitVec.ofNat 8 (outcome s).code) (siteControlBody (effect s)))) :=
  congrArg effect (State.answer_one h ..)

/-- The reply shows the sequencer alone. -/
theorem siteControlBody_of_ssq {s t : State} (h : t.ssq = s.ssq) : siteControlBody t = siteControlBody s := by
  unfold siteControlBody; rw [h]

theorem State.NodesOk.replying {s : State} (h : s.NodesOk) (p : Port) (f : OutFrame) : (s.replying p f).NodesOk :=
  ⟨h.streaming, h.gauge, h.scanner, h.armed, h.shutter, h.timer, h.gaugeLoss, h.scanLoss⟩

/-! ## Entries that make one move -/

theorem State.resting_of_off {s : State} (h : s.ssq.dormancy = false) (hr : s.ssq.restTimer = none) : s.resting = s := by
  unfold State.resting
  rw [if_neg (by simp [h]), ← hr]

theorem State.entered_ssq (new : SiteState) (cause : Cause) (s : State) :
    (s.entered new cause).ssq = s.ssq.moved new s.now s.levelMode s.cfg := s.movedTo_ssq new

theorem State.entered_active (new : SiteState) (cause : Cause) (s : State) :
    (s.entered new cause).mpc.active = s.mpc.active := by
  show (s.movedTo new).mpc.active = _
  rw [s.movedTo_mpc]

theorem State.entered_site (new : SiteState) (cause : Cause) (s : State) : (s.entered new cause).ssq.site = new := by
  rw [State.entered_ssq]; rfl

theorem State.entered_ports (new : SiteState) (cause : Cause) (s : State) :
    (s.entered new cause).mpc.ports =
      (s.telling [siteNotice new s.ssq.site cause s.ssq.disablePending s.ssq.clock]).mpc.ports := by
  unfold State.entered State.telling
  rw [s.movedTo_mpc]

/-- The settle point begins at an entry from a state where it cannot hold to one where it may (R17). -/
def SiteState.begins (old new : SiteState) : Bool := !old.settles && new.settles

/-- An entry that begins no settle point and whose move on of R10, if it is made, finds room. -/
theorem State.enter_eq_entered {s : State} {n : Nat} (hn : s.NodesOk) (hr : s.Room (n + 1)) {new : SiteState}
    (hs : s.ssq.site.begins new = false) {cause : Cause} (hf : (s.entered new cause).CarryFits) :
    s.enter new cause = (s.entered new cause).carriedOn := by
  have hnot : ¬(s.ssq.site.settles = false ∧ new.settles = true) := by
    rintro ⟨h1, h2⟩
    simp [SiteState.begins, h1, h2] at hs
  rw [State.enter_eq hn hr new cause (by rwa [if_neg hnot]), if_neg hnot]

/-- An entry that begins the settle point where no slot is CLOSING. -/
theorem State.enter_eq_settled {s : State} {n : Nat} (hn : s.NodesOk) (hr : s.Room (n + 1)) {new : SiteState}
    (hs : s.ssq.site.begins new = true) {cause : Cause} (hf : (s.entered new cause).settledUnlessClosing.CarryFits) :
    s.enter new cause = (s.entered new cause).settledUnlessClosing.carriedOn := by
  have h : s.ssq.site.settles = false ∧ new.settles = true := by simpa [SiteState.begins] using hs
  rw [State.enter_eq hn hr new cause (by rwa [if_pos h]), if_pos h]

theorem State.settledUnlessClosing_ssq (s : State) : s.settledUnlessClosing.ssq = s.ssq := by
  unfold State.settledUnlessClosing; split <;> rfl

theorem State.settled_ports (s : State) : s.settled.mpc.ports = s.mpc.ports := by
  unfold State.settled; dsimp only

theorem State.settledUnlessClosing_ports (s : State) : s.settledUnlessClosing.mpc.ports = s.mpc.ports := by
  unfold State.settledUnlessClosing
  split
  · rfl
  · exact s.settled_ports

/-- A site that a move leaves in none of PATROL, DORMANT and SWEEP is not moved on. -/
theorem State.not_carries_of_site {s : State} (h : s.ssq.site = .offline ∨ s.ssq.site = .armed ∨ s.ssq.site = .passage) :
    ¬s.Carries := by
  intro hc
  have hs := hc.2.2
  rcases h with h | h | h <;> rw [h] at hs <;> simp at hs

/-! ## Ports beside the moves -/

/-- The ports replaced: notices and replies, none of which a move of the site reads. -/
def State.withPorts (ps : PerPort PortMachine) (s : State) : State := { s with mpc := { s.mpc with ports := ps } }

theorem State.telling_eq_withPorts (fs : List OutFrame) (s : State) :
    s.telling fs = s.withPorts { s := s.mpc.ports.s.sends fs, m := s.mpc.ports.m.sends fs } := rfl

theorem State.replying_eq_withPorts (p : Port) (f : OutFrame) (s : State) :
    s.replying p f = s.withPorts (s.mpc.ports.upd p fun _ => (s.mpc.ports.get p).answered [f]) := rfl

theorem State.called_withPorts (ps : PerPort PortMachine) (s : State) :
    (s.withPorts ps).called = s.called.withPorts ps := by
  show (if s.scannerFresh .a = true ∧ s.scannerFresh .b = true then _ else _) = _
  unfold State.called
  split <;> rfl

theorem State.stopped_withPorts (ps : PerPort PortMachine) (s : State) :
    (s.withPorts ps).stopped = s.stopped.withPorts ps := by
  show (if s.ssq.streaming = true then _ else _) = _
  unfold State.stopped
  split <;> rfl

theorem State.settledUnlessClosing_withPorts (ps : PerPort PortMachine) (s : State) :
    (s.withPorts ps).settledUnlessClosing = s.settledUnlessClosing.withPorts ps := by
  show (if s.anyClosing = true then _ else _) = _
  unfold State.settledUnlessClosing
  split
  · rfl
  · unfold State.settled State.withPorts; dsimp only

theorem State.called_ports (s : State) : s.called.mpc = s.mpc := by
  unfold State.called; split <;> rfl

theorem State.called_ssq (s : State) : s.called.ssq = s.ssq := by
  unfold State.called; split <;> rfl

theorem State.called_telling (fs : List OutFrame) (s : State) : (s.telling fs).called = s.called.telling fs := by
  rw [State.telling_eq_withPorts, State.telling_eq_withPorts, State.called_withPorts, s.called_ports]

theorem State.called_replying (p : Port) (f : OutFrame) (s : State) :
    (s.replying p f).called = s.called.replying p f := by
  rw [State.replying_eq_withPorts, State.replying_eq_withPorts, State.called_withPorts, s.called_ports]

theorem State.stopped_mpc (s : State) : s.stopped.mpc = s.mpc := by
  unfold State.stopped; split <;> rfl

theorem State.stopped_replying (p : Port) (f : OutFrame) (s : State) :
    (s.replying p f).stopped = s.stopped.replying p f := by
  rw [State.replying_eq_withPorts, State.replying_eq_withPorts, State.stopped_withPorts, s.stopped_mpc]

theorem State.settledUnlessClosing_telling (fs : List OutFrame) (s : State) :
    (s.telling fs).settledUnlessClosing = s.settledUnlessClosing.telling fs := by
  rw [State.telling_eq_withPorts, State.telling_eq_withPorts, State.settledUnlessClosing_withPorts, s.settledUnlessClosing_ports]

theorem State.settledUnlessClosing_replying (p : Port) (f : OutFrame) (s : State) :
    (s.replying p f).settledUnlessClosing = s.settledUnlessClosing.replying p f := by
  rw [State.replying_eq_withPorts, State.replying_eq_withPorts, State.settledUnlessClosing_withPorts, s.settledUnlessClosing_ports]

theorem State.telling_telling (fs gs : List OutFrame) (s : State) :
    (s.telling fs).telling gs = s.telling (fs ++ gs) := by
  unfold State.telling
  simp only [PortMachine.sends_sends]

/-! ## Two notices -/

/-- The move on of R10 after an entry: two notices in a row. -/
theorem State.entered_carries {new : SiteState} {cause : Cause} {s : State} : (s.entered new cause).Carries ↔
    s.levelMode = true ∧ s.ssq.approachInput = true ∧ (new = .patrol ∨ new = .dormant ∨ new = .sweep) := by
  unfold State.Carries
  rw [State.levelMode_congr (s.entered_active new cause), State.entered_ssq]
  rfl

/-- After an entry whose notice stands the move on of R10 sends its own behind it. -/
theorem State.carriedOn_telling {s : State} {fs : List OutFrame} (h : (s.telling fs).Carries) : (s.telling fs).carriedOn =
    (if s.ssq.site = .dormant then (s.latched.inSite .armed).resumed else s.latched.inSite .armed).called.telling
      (fs ++ [siteNotice .armed s.ssq.site .approach s.ssq.disablePending s.ssq.clock]) := by
  rw [State.carriedOn_of_carries h, ← State.telling_telling]
  by_cases hd : s.ssq.site = .dormant
  · have hd' : (s.telling fs).ssq.site = .dormant := hd
    rw [if_pos hd, if_pos hd']
    exact congrArg (State.telling _) (State.called_telling fs (s.latched.inSite .armed).resumed)
  · have hd' : (s.telling fs).ssq.site ≠ .dormant := hd
    rw [if_neg hd, if_neg hd']
    exact congrArg (State.telling _) (State.called_telling fs (s.latched.inSite .armed))

/-! ## The moves between the states, without their notices -/

theorem State.entered_patrol_of_stopped {s : State} (hn : s.NodesOk) (hs : s.ssq.site.streams = false) (cause : Cause) :
    s.entered .patrol cause = (s.inSite .patrol).resumed.resting.telling
      [siteNotice .patrol s.ssq.site cause s.ssq.disablePending s.ssq.clock] := by
  rw [State.entered, hn.movedTo_patrol, hn.uncalled (by rintro h; rw [h] at hs; cases hs), hs]
  rfl

theorem State.entered_patrol_of_streaming {s : State} (hn : s.NodesOk) (hs : s.ssq.site.streams = true) (cause : Cause) :
    s.entered .patrol cause = (s.uncalled.inSite .patrol).resting.telling
      [siteNotice .patrol s.ssq.site cause s.ssq.disablePending s.ssq.clock] := by
  rw [State.entered, hn.movedTo_patrol, if_pos hs]

theorem State.stopped_of_off {s : State} (h : s.ssq.streaming = false) : s.stopped = s := if_neg (by simp [h])

theorem State.entered_dormant {s : State} (hn : s.NodesOk) (ha : s.ssq.site ≠ .armed) (cause : Cause) :
    s.entered .dormant cause = (s.inSite .dormant).stopped.sleeping.telling
      [siteNotice .dormant s.ssq.site cause s.ssq.disablePending s.ssq.clock] := by
  rw [State.entered, hn.movedTo_dormant, hn.uncalled ha]

/-! ## ENABLE (R5) -/

/-- From OFFLINE, ENABLE enters the state of rest. -/
theorem State.enableSite_eq {s : State} (hn : s.NodesOk) (hr : s.Room 2) (hs : s.ssq.site = .offline) :
    s.enableSite = (s.entered s.restState .enable).carriedOn := by
  unfold State.enableSite
  rw [hs]
  exact State.enter_eq_entered hn hr (by rw [hs]; rfl) (hr.carryFits (s.entered_ports ..))

theorem State.enableSite_patrol {s : State} (hn : s.NodesOk) (hr : s.Room 2) (hs : s.ssq.site = .offline)
    (hd : s.ssq.dormancy = false) (hc : ¬(s.levelMode = true ∧ s.ssq.approachInput = true)) : s.enableSite =
      (s.inSite .patrol).resumed.telling [siteNotice .patrol .offline .enable s.ssq.disablePending s.ssq.clock] := by
  have hrest : s.restState = .patrol := by unfold State.restState; rw [hd]; rfl
  rw [State.enableSite_eq hn hr hs, hrest, State.carriedOn_of_not fun h => hc ⟨(entered_carries.mp h).1, (entered_carries.mp h).2.1⟩,
    State.entered_patrol_of_stopped hn (by rw [hs]; rfl), hs, State.resting_of_off (s := (s.inSite .patrol).resumed) hd rfl]

theorem State.enableSite_dormant {s : State} (hn : s.NodesOk) (hr : s.Room 2) (hs : s.ssq.site = .offline)
    (hd : s.ssq.dormancy = true) (hc : ¬(s.levelMode = true ∧ s.ssq.approachInput = true)) : s.enableSite =
      (s.inSite .dormant).sleeping.telling [siteNotice .dormant .offline .enable s.ssq.disablePending s.ssq.clock] := by
  have hrest : s.restState = .dormant := by unfold State.restState; rw [hd]; rfl
  have hoff : (s.inSite .dormant).ssq.streaming = false := hn.streaming.trans (by rw [hs]; rfl)
  rw [State.enableSite_eq hn hr hs, hrest, State.carriedOn_of_not fun h => hc ⟨(entered_carries.mp h).1, (entered_carries.mp h).2.1⟩,
    State.entered_dormant hn (by simp [hs]), hs, State.stopped_of_off hoff]

theorem State.enableSite_armed {s : State} (hn : s.NodesOk) (hr : s.Room 2) (hs : s.ssq.site = .offline)
    (hc : s.levelMode = true ∧ s.ssq.approachInput = true) : s.enableSite =
      (s.latched.inSite .armed).resumed.called.telling
        [siteNotice s.restState .offline .enable s.ssq.disablePending s.ssq.clock,
          siteNotice .armed s.restState .approach s.ssq.disablePending s.ssq.clock] := by
  have hoff : (s.inSite .dormant).ssq.streaming = false := hn.streaming.trans (by rw [hs]; rfl)
  rw [State.enableSite_eq hn hr hs]
  cases hd : s.ssq.dormancy
  · have hrest : s.restState = .patrol := by unfold State.restState; rw [hd]; rfl
    have hca : (s.entered .patrol .enable).Carries := entered_carries.mpr ⟨hc.1, hc.2, .inl rfl⟩
    rw [hrest]
    rw [State.entered_patrol_of_stopped hn (by rw [hs]; rfl), hs] at hca ⊢
    exact State.carriedOn_telling hca
  · have hrest : s.restState = .dormant := by unfold State.restState; rw [hd]; rfl
    have hca : (s.entered .dormant .enable).Carries := entered_carries.mpr ⟨hc.1, hc.2, .inr (.inl rfl)⟩
    rw [hrest]
    rw [State.entered_dormant hn (by simp [hs]), hs, State.stopped_of_off hoff] at hca ⊢
    exact State.carriedOn_telling hca

/-- The reply of a served SITE CONTROL action shows the sequencer after it (assumption 25). -/
theorem State.serveControl_replying {s : State} {p : Port} {r : QueuedRequest} {a : Byte} {n : Nat} {o : ReplyOutcome}
    {body : List Byte} (h : s.Asks p r 0x03 [a]) (hn : a.toNat = n) (hle : n ≤ 4) {outcome : State → ReplyOutcome}
    {effect : State → State} (ho : outcome s = o) (hb : siteControlBody (effect s) = body) :
    s.serveControl p n (State.serveAction p outcome effect) =
      effect (s.replying p (replyFrame r (BitVec.ofNat 8 o.code) body)) := by
  subst ho hb
  rw [State.serveControl_eq h hn hle, State.serveAction_eq h.orderly]

/-- Settles O23, by the site state: ENABLE acts on the state that holds its reply as on the one that asks. -/
theorem enableBringsIntoService : Obligations.EnableBringsIntoService := by
  intro p s r ha hsite hn hr reply notice latched rest carries
  have run {o : ReplyOutcome} {body : List Byte} (ho : enableOutcome s = o) (hb : siteControlBody s.enableSite = body) :
      exec (.enable p) s = .next (s.replying p (replyFrame r (BitVec.ofNat 8 o.code) body)).enableSite :=
    congrArg Host.Outcome.next (State.serveControl_replying ha rfl (by decide) ho hb)
  have hv (f : OutFrame) : (s.replying p f).NodesOk := hn.replying p f
  have hw (o : Byte) (b : List Byte) : (s.replying p (replyFrame r o b)).Room 2 := hr.replying p r o b
  have done (hs : s.ssq.site = .offline) : enableOutcome s = .done := by unfold enableOutcome; rw [hs]
  refine ⟨fun hs hd hc => ?patrol, fun hs hd hc => ?dormant, fun hs hc => ?armed, fun hs hd => ?passage, fun hs hd => ?other⟩
  case patrol =>
    have he {u : State} := State.enableSite_patrol (s := u)
    rw [run (done hs) (congrArg siteControlBody (he hn hr hs hd hc)), he (hv _) (hw ..) hs hd hc]
    rfl
  case dormant =>
    have he {u : State} := State.enableSite_dormant (s := u)
    rw [run (done hs) (congrArg siteControlBody (he hn hr hs hd hc)), he (hv _) (hw ..) hs hd hc]
    rfl
  case armed =>
    have he {u : State} := State.enableSite_armed (s := u)
    have hb := siteControlBody_of_ssq (State.called_ssq (s.latched.inSite .armed).resumed)
    rw [run (done hs) ((congrArg siteControlBody (he hn hr hs hc)).trans hb), he (hv _) (hw ..) hs hc]
    exact congrArg (fun u => Host.Outcome.next (State.telling _ u)) (State.called_replying p _ (s.latched.inSite .armed).resumed)
  case passage =>
    have he (u : State) (hu : u.ssq.site = .passage) :
        u.enableSite = { u with ssq := { u.ssq with disablePending := false } } := by
      unfold State.enableSite; rw [hu]; rfl
    have ho : enableOutcome s = .done := by unfold enableOutcome; rw [hs]; exact if_pos hd
    have hb : siteControlBody s.enableSite = u8 SiteState.passage.code ++ flag s.ssq.dormancy ++ flag false := by
      rw [he s hs, ← hs]; rfl
    rw [run ho hb, he (s.replying p _) hs]
    rfl
  case other =>
    have keeps : ∀ u : State, u.ssq = s.ssq → u.enableSite = u := by
      intro u hu
      unfold State.enableSite
      rw [hu]
      split
      · exact absurd ‹_› hs
      · rename_i hp
        rw [← hd hp, ← hu]; rfl
      · rfl
    have ho : enableOutcome s = .noChange := by
      unfold enableOutcome
      split
      · exact absurd ‹_› hs
      · rename_i hp
        rw [hd hp]; rfl
      · rfl
    rw [run ho (congrArg siteControlBody (keeps s rfl)), keeps (s.replying p _) rfl]
    rfl

end Sys2Proof.Machine
end

section
/-! SUPPORT. DISABLE and the dormancy actions: DisableTakesOutOfService, DormancyActions. -/

namespace Sys2Proof.Machine

/-! ## DISABLE (R6) -/

/-- A site in service without a train, put out of service: the move to OFFLINE before its notice (R3, R6, R12, R20). -/
def State.putOut (s : State) : State := (s.inSite .offline).uncalled.stopped.outOfService

theorem State.entered_offline {s : State} (hn : s.NodesOk) (cause : Cause) : s.entered .offline cause =
    s.putOut.telling [siteNotice .offline s.ssq.site cause s.ssq.disablePending s.ssq.clock] := by
  rw [State.entered, hn.movedTo_offline]
  rfl

theorem State.putOut_replying (p : Port) (f : OutFrame) (s : State) : (s.replying p f).putOut = s.putOut.replying p f :=
  congrArg State.outOfService (State.stopped_replying p f (s.inSite .offline).uncalled)

theorem State.disableSite_of_settles {s : State} (hn : s.NodesOk) (hr : s.Room 1)
    (hs : s.ssq.site = .patrol ∨ s.ssq.site = .dormant) : s.disableSite =
      s.putOut.telling [siteNotice .offline s.ssq.site .disable s.ssq.disablePending s.ssq.clock] := by
  have hc : ¬(s.entered .offline .disable).Carries := State.not_carries_of_site (.inl (s.entered_site ..))
  have he : s.disableSite = s.enter .offline .disable := by
    unfold State.disableSite; rcases hs with hs | hs <;> rw [hs]
  rw [he, State.enter_eq_entered hn hr (by rcases hs with hs | hs <;> rw [hs] <;> rfl) (.inr hc), State.carriedOn_of_not hc,
    State.entered_offline hn]

theorem State.disableSite_of_not_settles {s : State} (hn : s.NodesOk) (hr : s.Room 1)
    (hs : s.ssq.site = .armed ∨ s.ssq.site = .sweep) : s.disableSite =
      s.putOut.settledUnlessClosing.telling [siteNotice .offline s.ssq.site .disable s.ssq.disablePending s.ssq.clock] := by
  have hc : ¬(s.entered .offline .disable).settledUnlessClosing.Carries :=
    State.not_carries_of_site (.inl (by rw [State.settledUnlessClosing_ssq]; exact s.entered_site ..))
  have he : s.disableSite = s.enter .offline .disable := by
    unfold State.disableSite; rcases hs with hs | hs <;> rw [hs]
  rw [he, State.enter_eq_settled hn hr (by rcases hs with hs | hs <;> rw [hs] <;> rfl) (.inr hc), State.carriedOn_of_not hc,
    State.entered_offline hn, State.settledUnlessClosing_telling]

theorem State.stopped_axt (s : State) : s.stopped.axt = s.axt := by
  unfold State.stopped; split <;> rfl

theorem State.stopped_ssq (s : State) : s.stopped.ssq = { s.ssq with streaming := false } ∨ s.stopped.ssq = s.ssq := by
  unfold State.stopped
  split
  · exact .inl rfl
  · exact .inr rfl

/-- The reply to DISABLE shows OFFLINE. -/
theorem siteControlBody_putOut (s : State) : siteControlBody s.putOut =
    u8 SiteState.offline.code ++ flag s.ssq.dormancy ++ flag s.ssq.disablePending := by
  have h : s.putOut.ssq = { (s.inSite .offline).uncalled.stopped.ssq with latch := false } := rfl
  unfold siteControlBody
  rw [h]
  rcases State.stopped_ssq (s.inSite .offline).uncalled with hq | hq <;> rw [hq] <;> rfl

/-- Settles O24, by the site state. -/
theorem disableTakesOutOfService : Obligations.DisableTakesOutOfService := by
  intro p s r ha hsite hn hr reply out idle off told
  have run {o : ReplyOutcome} {body : List Byte} (ho : disableOutcome s = o) (hb : siteControlBody s.disableSite = body) :
      exec (.disable p) s = .next (s.replying p (replyFrame r (BitVec.ofNat 8 o.code) body)).disableSite :=
    congrArg Host.Outcome.next (State.serveControl_replying ha rfl (by decide) ho hb)
  have hv (f : OutFrame) : (s.replying p f).NodesOk := hn.replying p f
  have hw (o : Byte) (b : List Byte) : (s.replying p (replyFrame r o b)).Room 1 := hr.replying p r o b
  have hoff : s.putOut = off := by
    show State.outOfService out = _
    unfold State.outOfService
    rw [show out.axt = s.axt from State.stopped_axt _]
  refine ⟨fun hs => ?settles, fun hs => ?begins, fun hs => ?passage, fun hs => ?offline⟩
  case settles =>
    have ho : disableOutcome s = .done := by unfold disableOutcome; rcases hs with hs | hs <;> rw [hs]
    have hb := (congrArg siteControlBody (State.disableSite_of_settles hn hr hs)).trans (siteControlBody_putOut s)
    rw [run ho hb, State.disableSite_of_settles (hv _) (hw ..) hs, State.putOut_replying, hoff]
    rfl
  case begins =>
    have ho : disableOutcome s = .done := by unfold disableOutcome; rcases hs with hs | hs <;> rw [hs]
    have hb : siteControlBody s.disableSite = _ :=
      ((congrArg siteControlBody (State.disableSite_of_not_settles hn hr hs)).trans
        (siteControlBody_of_ssq s.putOut.settledUnlessClosing_ssq)).trans (siteControlBody_putOut s)
    rw [run ho hb, State.disableSite_of_not_settles (hv _) (hw ..) hs, State.putOut_replying,
      State.settledUnlessClosing_replying, hoff]
    rfl
  case passage =>
    have he (u : State) (hu : u.ssq.site = .passage) :
        u.disableSite = { u with ssq := { u.ssq with disablePending := true } } := by
      unfold State.disableSite; rw [hu]; rfl
    have ho : disableOutcome s = .pending := by unfold disableOutcome; rw [hs]
    have hb : siteControlBody s.disableSite = u8 SiteState.passage.code ++ flag s.ssq.dormancy ++ flag true := by
      rw [he s hs, ← hs]; rfl
    rw [run ho hb, he (s.replying p _) hs]
    rfl
  case offline =>
    have he (u : State) (hu : u.ssq.site = .offline) : u.disableSite = u := by
      unfold State.disableSite; rw [hu]
    have ho : disableOutcome s = .noChange := by unfold disableOutcome; rw [hs]
    have hb : siteControlBody s.disableSite = u8 SiteState.offline.code ++ flag s.ssq.dormancy ++ flag s.ssq.disablePending := by
      rw [he s hs, ← hs]; rfl
    rw [run ho hb, he (s.replying p _) hs]
    rfl

/-! ## The dormancy setting (R7) -/

/-- The dormancy setting set, or cleared with the rest timer stopped (R7, R15). -/
def State.dormancySet (on : Bool) (s : State) : State :=
  { s with ssq := { s.ssq with dormancy := on, restTimer := if on = true then s.ssq.restTimer else none } }

theorem State.NodesOk.dormancySet {s : State} (h : s.NodesOk) (on : Bool) : (s.dormancySet on).NodesOk :=
  h.modSsq (f := fun q => { q with dormancy := on, restTimer := if on = true then q.restTimer else none }) rfl rfl

/-- R10 has moved a site in PATROL, DORMANT or SWEEP on already, so an entry that keeps the mode moves it on no further. -/
theorem State.SiteOk.not_carries {s : State} (h : s.SiteOk)
    (hs : s.ssq.site = .patrol ∨ s.ssq.site = .dormant ∨ s.ssq.site = .sweep) :
    ¬(s.levelMode = true ∧ s.ssq.approachInput = true) := by
  rintro ⟨hl, hi⟩
  have := h.level hl hi
  rcases hs with hs | hs | hs <;> simp [hs] at this

theorem State.entered_not_carries {s : State} (h : ¬(s.levelMode = true ∧ s.ssq.approachInput = true)) {new : SiteState}
    {cause : Cause} : ¬(s.entered new cause).Carries :=
  fun hc => h ⟨(entered_carries.mp hc).1, (entered_carries.mp hc).2.1⟩

theorem State.dormancySet_not_carries {s : State} (h : ¬(s.levelMode = true ∧ s.ssq.approachInput = true)) (on : Bool)
    {new : SiteState} {cause : Cause} : ¬((s.dormancySet on).entered new cause).Carries := by
  have hl : (s.dormancySet on).levelMode = s.levelMode := State.levelMode_congr rfl
  refine State.entered_not_carries ?_
  rw [hl]
  exact h

theorem State.dormancyOnSite_of_patrol {s : State} (hn : s.NodesOk) (hr : s.Room 1) (hs : s.ssq.site = .patrol)
    (hc : ¬(s.levelMode = true ∧ s.ssq.approachInput = true)) : s.dormancyOnSite =
      ((s.dormancySet true).inSite .dormant).stopped.sleeping.telling
        [siteNotice .dormant s.ssq.site .dormancy s.ssq.disablePending s.ssq.clock] := by
  have hp : (s.dormancySet true).ssq.site = .patrol := hs
  have hr' : (s.dormancySet true).Room 1 := hr.congr rfl
  have hd : ¬((s.dormancySet true).entered .dormant .dormancy).Carries := State.dormancySet_not_carries hc true
  have he : s.dormancyOnSite = (s.dormancySet true).enter .dormant .dormancy := if_pos hs
  rw [he, State.enter_eq_entered (hn.dormancySet true) (n := 0) hr' (by rw [hp]; rfl) (.inr hd),
    State.carriedOn_of_not hd, State.entered_dormant (hn.dormancySet true) (by rw [hp]; decide)]
  rfl

theorem State.dormancyOffSite_of_dormant {s : State} (hn : s.NodesOk) (hr : s.Room 1) (hs : s.ssq.site = .dormant)
    (hc : ¬(s.levelMode = true ∧ s.ssq.approachInput = true)) : s.dormancyOffSite =
      ((s.dormancySet false).inSite .patrol).resumed.telling
        [siteNotice .patrol s.ssq.site .dormancy s.ssq.disablePending s.ssq.clock] := by
  have hp : (s.dormancySet false).ssq.site = .dormant := hs
  have hr' : (s.dormancySet false).Room 1 := hr.congr rfl
  have hd : ¬((s.dormancySet false).entered .patrol .dormancy).Carries := State.dormancySet_not_carries hc false
  have he : s.dormancyOffSite = (s.dormancySet false).enter .patrol .dormancy := by
    unfold State.dormancyOffSite
    dsimp only [State.modSsq_ssq]
    rw [hs]; rfl
  rw [he, State.enter_eq_entered (hn.dormancySet false) (n := 0) hr' (by rw [hp]; rfl) (.inr hd),
    State.carriedOn_of_not hd, State.entered_patrol_of_stopped (hn.dormancySet false) (by rw [hp]; rfl),
    State.resting_of_off (s := ((s.dormancySet false).inSite .patrol).resumed) rfl rfl]
  rfl

/-- From SWEEP, DORMANCY OFF enters PATROL, where the settle point begins and R10 may move the site on (R7, R10, R17). -/
theorem State.dormancyOffSite_of_sweep {s : State} (hn : s.NodesOk) (hr : s.Room 2) (hs : s.ssq.site = .sweep) :
    s.dormancyOffSite = (((s.dormancySet false).inSite .patrol).settledUnlessClosing.telling
        [siteNotice .patrol s.ssq.site .dormancy s.ssq.disablePending s.ssq.clock]).carriedOn := by
  have hp : (s.dormancySet false).ssq.site = .sweep := hs
  have he : s.dormancyOffSite = (s.dormancySet false).enter .patrol .dormancy := by
    unfold State.dormancyOffSite
    dsimp only [State.modSsq_ssq]
    rw [hs]; rfl
  have hr' : (s.dormancySet false).Room 2 := hr.congr rfl
  have hf : ((s.dormancySet false).entered .patrol .dormancy).settledUnlessClosing.CarryFits :=
    hr'.carryFits ((State.settledUnlessClosing_ports _).trans (State.entered_ports ..))
  rw [he, State.enter_eq_settled (hn.dormancySet false) hr' (by rw [hp]; rfl) hf,
    State.entered_patrol_of_streaming (hn.dormancySet false) (by rw [hp]; rfl), (hn.dormancySet false).uncalled (by rw [hp]; decide),
    State.resting_of_off (s := (s.dormancySet false).inSite .patrol) rfl rfl, State.settledUnlessClosing_telling]
  rfl

/-- What the move on of R10 reads. -/
theorem State.carries_congr {s t : State} (ha : t.mpc.active = s.mpc.active)
    (hi : t.ssq.approachInput = s.ssq.approachInput) (hs : t.ssq.site = s.ssq.site) : t.Carries ↔ s.Carries := by
  unfold State.Carries
  rw [State.levelMode_congr ha, hi, hs]

/-- The approach mode once a settle point has begun, or has not for a CLOSING slot (R17). -/
theorem State.settledUnlessClosing_levelMode (s : State) : s.settledUnlessClosing.levelMode = true ↔
    (s.anyClosing = true ∧ s.levelMode = true) ∨ (s.anyClosing = false ∧ s.futureCfg .approachMode = 1) := by
  unfold State.settledUnlessClosing
  cases hc : s.anyClosing
  · simp only [Bool.false_eq_true, if_false, false_and, true_and, false_or]
    unfold State.levelMode
    rw [s.futureCfg_settled]
    exact beq_iff_eq
  · simp

/-- The site in PATROL after a move from SWEEP, the settle point begun where no slot is CLOSING. -/
def State.sweepLeft (s : State) : State := ((s.dormancySet false).inSite .patrol).settledUnlessClosing

theorem State.sweepLeft_replying (p : Port) (f : OutFrame) (s : State) :
    (s.replying p f).sweepLeft = s.sweepLeft.replying p f :=
  State.settledUnlessClosing_replying p f ((s.dormancySet false).inSite .patrol)

theorem State.sweepLeft_ssq (s : State) : s.sweepLeft.ssq = ((s.dormancySet false).inSite .patrol).ssq :=
  State.settledUnlessClosing_ssq _

theorem State.sweepLeft_carries (s : State) : s.sweepLeft.Carries ↔
    ((s.anyClosing = true ∧ s.levelMode = true) ∨ (s.anyClosing = false ∧ s.futureCfg .approachMode = 1))
      ∧ s.ssq.approachInput = true := by
  have hl := State.settledUnlessClosing_levelMode ((s.dormancySet false).inSite .patrol)
  have ha : ((s.dormancySet false).inSite .patrol).anyClosing = s.anyClosing := State.anyClosing_congr rfl
  have hm : ((s.dormancySet false).inSite .patrol).levelMode = s.levelMode := State.levelMode_congr rfl
  have hf : ((s.dormancySet false).inSite .patrol).futureCfg = s.futureCfg := State.futureCfg_congr rfl rfl
  rw [ha, hm, hf] at hl
  unfold State.Carries
  rw [s.sweepLeft_ssq]
  exact ⟨fun h => ⟨hl.mp h.1, h.2.1⟩, fun h => ⟨hl.mpr h.1, h.2, .inl rfl⟩⟩

theorem State.dormancyOffSite_stays {s : State} (hn : s.NodesOk) (hr : s.Room 2) (hs : s.ssq.site = .sweep)
    (hc : ¬s.sweepLeft.Carries) : s.dormancyOffSite =
      s.sweepLeft.telling [siteNotice .patrol s.ssq.site .dormancy s.ssq.disablePending s.ssq.clock] := by
  rw [State.dormancyOffSite_of_sweep hn hr hs]
  exact State.carriedOn_of_not (mt (State.carries_congr rfl rfl rfl).mp hc)

theorem State.dormancyOffSite_arms {s : State} (hn : s.NodesOk) (hr : s.Room 2) (hs : s.ssq.site = .sweep)
    (hc : s.sweepLeft.Carries) : s.dormancyOffSite = (s.sweepLeft.latched.inSite .armed).called.telling
      [siteNotice .patrol s.ssq.site .dormancy s.ssq.disablePending s.ssq.clock,
        siteNotice .armed .patrol .approach s.ssq.disablePending s.ssq.clock] := by
  have hq := s.sweepLeft_ssq
  have hsite : s.sweepLeft.ssq.site = .patrol := by rw [hq]; rfl
  have hdp : s.sweepLeft.ssq.disablePending = s.ssq.disablePending := by rw [hq]; rfl
  have hck : s.sweepLeft.ssq.clock = s.ssq.clock := by rw [hq]; rfl
  rw [State.dormancyOffSite_of_sweep hn hr hs]
  have h := State.carriedOn_telling ((State.carries_congr (t := s.sweepLeft.telling
    [siteNotice .patrol s.ssq.site .dormancy s.ssq.disablePending s.ssq.clock]) rfl rfl rfl).mpr hc)
  rw [hsite, if_neg (by decide), hdp, hck] at h
  exact h

theorem State.stopped_now (s : State) : s.stopped.now = s.now := by
  unfold State.stopped; split <;> rfl

/-- The sweep timer of a site whose streams stop takes its values from before the stop. -/
theorem State.stopped_sleeping (s : State) : s.stopped.sleeping =
    { s.stopped with ssq := { s.stopped.ssq with sweepTimer := some (s.now + 1000000 * s.cfg .tsweep) } } := by
  have hn : s.stopped.now + 1000000 * s.stopped.cfg .tsweep = s.now + 1000000 * s.cfg .tsweep := by
    rw [s.stopped_now, State.cfg_congr (congrArg Mpc.active s.stopped_mpc)]
  exact congrArg (fun d => { s.stopped with ssq := { s.stopped.ssq with sweepTimer := some d } }) hn

theorem State.sleeping_replying (p : Port) (f : OutFrame) (s : State) :
    (s.replying p f).sleeping = s.sleeping.replying p f := rfl

theorem siteControlBody_slept (s : State) : siteControlBody (s.inSite .dormant).stopped.sleeping =
    u8 SiteState.dormant.code ++ flag s.ssq.dormancy ++ flag s.ssq.disablePending := by
  have h : (s.inSite .dormant).stopped.sleeping.ssq = { (s.inSite .dormant).stopped.ssq with
      sweepTimer := some ((s.inSite .dormant).stopped.now + 1000000 * (s.inSite .dormant).stopped.cfg .tsweep) } := rfl
  unfold siteControlBody
  rw [h]
  rcases State.stopped_ssq (s.inSite .dormant) with hq | hq <;> rw [hq] <;> rfl

theorem State.latched_replying (p : Port) (f : OutFrame) (new : SiteState) (s : State) :
    ((s.replying p f).latched).inSite new = (s.latched.inSite new).replying p f := rfl

/-- Settles O25, by the site state: each action of a site that asks is the action of the state that holds its reply. -/
theorem dormancyActions : Obligations.DormancyActions := by
  intro p s r hsite hn hr reply on off notice carries settled
  have hv (f : OutFrame) : (s.replying p f).NodesOk := hn.replying p f
  have hw (o : Byte) (b : List Byte) : (s.replying p (replyFrame r o b)).Room 2 := hr.replying p r o b
  have hr1 : s.Room 1 := hr.mono (by decide)
  have hw1 (o : Byte) (b : List Byte) : (s.replying p (replyFrame r o b)).Room 1 := hr1.replying p r o b
  refine ⟨fun ha => ⟨fun hs => ?sleeps, fun hs => ?on⟩, fun ha => ⟨fun hs => ?wakes, fun hs hc => ?stays, fun hs hc => ?arms,
    fun hs hs' => ?off⟩⟩
  all_goals
    have runOn {o : ReplyOutcome} {body : List Byte} (ha : s.Asks p r 0x03 [2]) (ho : dormancyOnOutcome s = o)
        (hb : siteControlBody s.dormancyOnSite = body) : exec (.dormancyOn p) s =
          .next (s.replying p (replyFrame r (BitVec.ofNat 8 o.code) body)).dormancyOnSite :=
      congrArg Host.Outcome.next (State.serveControl_replying ha rfl (by decide) ho hb)
    have runOff {o : ReplyOutcome} {body : List Byte} (ha : s.Asks p r 0x03 [3]) (ho : dormancyOffOutcome s = o)
        (hb : siteControlBody s.dormancyOffSite = body) : exec (.dormancyOff p) s =
          .next (s.replying p (replyFrame r (BitVec.ofNat 8 o.code) body)).dormancyOffSite :=
      congrArg Host.Outcome.next (State.serveControl_replying ha rfl (by decide) ho hb)
  case sleeps =>
    have hnc := hsite.not_carries (.inl hs)
    have ho : dormancyOnOutcome s = .done := if_pos (by simp [hs])
    have he {u : State} := State.dormancyOnSite_of_patrol (s := u)
    have hb := (congrArg siteControlBody (he hn hr1 hs hnc)).trans (siteControlBody_slept (s.dormancySet true))
    rw [runOn ha ho hb, he (hv _) (hw1 ..) hs hnc]
    have hm := congrArg State.sleeping (State.stopped_replying p (reply 3 .dormant true) ((s.dormancySet true).inSite .dormant))
    exact congrArg (fun u => Host.Outcome.next (State.telling _ u))
      (hm.trans (congrArg (State.replying p _) (State.stopped_sleeping ((s.dormancySet true).inSite .dormant))))
  case on =>
    have he (u : State) (hu : u.ssq.site ≠ .patrol) : u.dormancyOnSite = { u with ssq := { u.ssq with dormancy := true } } :=
      if_neg hu
    have hb : siteControlBody s.dormancyOnSite = u8 s.ssq.site.code ++ flag true ++ flag s.ssq.disablePending := by
      rw [he s hs]; rfl
    cases hd : s.ssq.dormancy
    · have ho : dormancyOnOutcome s = .done := if_pos (by simp [hd])
      rw [runOn ha ho hb, he (s.replying p _) hs]
      rfl
    · have ho : dormancyOnOutcome s = .noChange := if_neg (by simp [hd, hs])
      rw [runOn ha ho hb, he (s.replying p _) hs]
      rfl
  case wakes =>
    have hnc := hsite.not_carries (.inr (.inl hs))
    have ho : dormancyOffOutcome s = .done := if_pos (by simp [hs])
    have he {u : State} := State.dormancyOffSite_of_dormant (s := u)
    have hb : siteControlBody s.dormancyOffSite = u8 SiteState.patrol.code ++ flag false ++ flag s.ssq.disablePending := by
      rw [he hn hr1 hs hnc]; rfl
    rw [runOff ha ho hb, he (hv _) (hw1 ..) hs hnc]
    rfl
  case stays =>
    have ho : dormancyOffOutcome s = .done := if_pos (by simp [hs])
    have he {u : State} := State.dormancyOffSite_stays (s := u)
    have hnc : ¬s.sweepLeft.Carries := by
      rw [s.sweepLeft_carries]
      rintro ⟨⟨-, hl⟩ | ⟨hk, hf⟩, hi⟩
      · exact hsite.not_carries (.inr (.inr hs)) ⟨hl, hi⟩
      · exact hc ⟨hk, hf, hi⟩
    have hnc' (f : OutFrame) : ¬(s.replying p f).sweepLeft.Carries := by
      rw [State.sweepLeft_replying]; exact mt (State.carries_congr rfl rfl rfl).mp hnc
    have hb := (congrArg siteControlBody (he hn hr hs hnc)).trans (siteControlBody_of_ssq s.sweepLeft_ssq)
    rw [runOff ha ho hb, he (hv _) (hw ..) hs (hnc' _), State.sweepLeft_replying]
    rfl
  case arms =>
    obtain ⟨hk, hf, hi⟩ := hc
    have ho : dormancyOffOutcome s = .done := if_pos (by simp [hs])
    have he {u : State} := State.dormancyOffSite_arms (s := u)
    have hca : s.sweepLeft.Carries := s.sweepLeft_carries.mpr ⟨.inr ⟨hk, hf⟩, hi⟩
    have hca' (f : OutFrame) : (s.replying p f).sweepLeft.Carries := by
      rw [State.sweepLeft_replying]; exact (State.carries_congr rfl rfl rfl).mpr hca
    have hka : ((s.dormancySet false).inSite .patrol).anyClosing = s.anyClosing := State.anyClosing_congr rfl
    have hset : s.sweepLeft = settled := if_neg (by rw [hka, hk]; decide)
    have hssq : (s.sweepLeft.latched.inSite .armed).called.ssq = (s.sweepLeft.latched.inSite .armed).ssq := State.called_ssq _
    have hb : siteControlBody s.dormancyOffSite = u8 SiteState.armed.code ++ flag false ++ flag s.ssq.disablePending := by
      rw [he hn hr hs hca]
      refine (siteControlBody_of_ssq hssq).trans ?_
      show u8 SiteState.armed.code ++ flag s.sweepLeft.ssq.dormancy ++ flag s.sweepLeft.ssq.disablePending = _
      rw [s.sweepLeft_ssq]; rfl
    rw [runOff ha ho hb, he (hv _) (hw ..) hs (hca' _), State.sweepLeft_replying, State.latched_replying, State.called_replying,
      hset]
    rfl
  case off =>
    have he (u : State) (hu : u.ssq.site ≠ .dormant) (hu' : u.ssq.site ≠ .sweep) :
        u.dormancyOffSite = { u with ssq := { u.ssq with dormancy := false, restTimer := none } } := by
      unfold State.dormancyOffSite
      dsimp only
      split
      · exact absurd ‹_› hu
      · exact absurd ‹_› hu'
      · rfl
    have hb : siteControlBody s.dormancyOffSite = u8 s.ssq.site.code ++ flag false ++ flag s.ssq.disablePending := by
      rw [he s hs hs']; rfl
    cases hd : s.ssq.dormancy
    · have ho : dormancyOffOutcome s = .noChange := if_neg (by simp [hd, hs, hs'])
      rw [runOff ha ho hb, he (s.replying p _) hs hs']
      rfl
    · have ho : dormancyOffOutcome s = .done := if_pos (by simp [hd])
      rw [runOff ha ho hb, he (s.replying p _) hs hs']
      rfl

end Sys2Proof.Machine
end

section
/-! SUPPORT. The approach input and the timers of the site: ApproachRisingEdgeArms, FalseApproachReturnsToPatrol,
DormancyTimersMoveTheSite. -/

namespace Sys2Proof.Machine

/-! ## The time base and the pin -/

/-- The time base moved to an event, the approach pin at a level. -/
def State.atInput (now : Nat) (input : Bool) (s : State) : State :=
  { s with now := now, ssq := { s.ssq with approachInput := input } }

theorem State.NodesOk.atInput {s : State} (h : s.NodesOk) (now : Nat) (input : Bool) : (s.atInput now input).NodesOk :=
  ⟨h.streaming, h.gauge, h.scanner, h.armed, h.shutter, h.timer, h.gaugeLoss, h.scanLoss⟩

/-! ## A rising edge (R8, R10) -/

/-- A rising edge by the site state it finds (R8, R10). -/
theorem exec_approachRisingEdge (t : Nat) (s : State) : exec (.approachRisingEdge t) s =
    (let u := s.atInput (max s.now t) true
     .next (match s.ssq.site with
      | .offline => u
      | .passage => u.latched
      | .armed => if u.levelMode = true then u else u.arming
      | _ => u.arm)) := by
  refine congrArg Host.Outcome.next ?_
  have harm (u : State) (hl : u.levelMode = false) :
      u.arming = u.modSsq fun q => { q with armTimer := some (u.now + sec (u.cfg .tarm)) } := by
    unfold State.arming
    rw [hl, ← sec_eq]; rfl
  split <;> rename_i hs <;> change s.ssq.site = _ at hs <;> rw [hs] <;> try rfl
  have hu : ((s.advance t).modSsq fun q => { q with approachInput := true }) = s.atInput (max s.now t) true := rfl
  rw [hu]
  dsimp only
  split
  · rfl
  · exact (harm _ (Bool.eq_false_iff.mpr ‹_›)).symm

/-- The arming timer of a site whose streams run or resume. -/
theorem State.arming_eq {s : State} {b : Bool} {d : Nat} (hl : s.levelMode = b) (hd : s.now + 1000000 * s.cfg .tarm = d) :
    s.arming = { s with ssq := { s.ssq with armTimer := if b = true then none else some d } } := by
  subst hl hd
  rfl

/-- Settles O27, by the site state. -/
theorem approachRisingEdgeArms : Obligations.ApproachRisingEdgeArms := by
  intro t s hsite hn hr at_ armTimer armed told
  have hn' : (s.atInput (max s.now t) true).NodesOk := hn.atInput ..
  have hr' : (s.atInput (max s.now t) true).Room 1 := hr.congr rfl
  have hlev : (s.atInput (max s.now t) true).levelMode = s.levelMode := State.levelMode_congr rfl
  have hlev' : ((s.atInput (max s.now t) true).latched.inSite .armed).levelMode = s.levelMode := State.levelMode_congr rfl
  have hlev'' : ((s.atInput (max s.now t) true).latched.inSite .armed).resumed.levelMode = s.levelMode :=
    State.levelMode_congr rfl
  have hstay : ((s.atInput (max s.now t) true).latched.inSite .armed).arming = armed := State.arming_eq hlev' rfl
  have hresume : ((s.atInput (max s.now t) true).latched.inSite .armed).resumed.arming = armed.resumed :=
    State.arming_eq hlev'' rfl
  have arms (ha : s.ssq.site ≠ .armed) : (s.atInput (max s.now t) true).arm =
      told (if s.ssq.site.streams = true then armed else armed.resumed).called := by
    have h := State.arm_eq hn' hr' ha
    cases hst : s.ssq.site.streams
    · rw [if_neg (by rw [show (s.atInput (max s.now t) true).ssq.site.streams = false from hst]; decide), hresume] at h
      exact h
    · rw [if_pos (show (s.atInput (max s.now t) true).ssq.site.streams = true from hst), hstay] at h
      exact h
  refine ⟨fun hs => ?streaming, fun hs => ?dormant, fun hs => ?armed, fun hs => ?passage, fun hs => ?offline⟩ <;>
    rw [exec_approachRisingEdge] <;> refine congrArg Host.Outcome.next ?_
  case streaming =>
    have h := arms (by rcases hs with hs | hs <;> rw [hs] <;> decide)
    rw [if_pos (by rcases hs with hs | hs <;> rw [hs] <;> rfl)] at h
    rcases hs with hs | hs <;> rw [hs] <;> exact h
  case dormant =>
    have h := arms (by rw [hs]; decide)
    rw [if_neg (by rw [hs]; decide)] at h
    rw [hs]
    exact h
  case armed =>
    rw [hs]
    dsimp only
    rw [hlev, State.arming_eq hlev rfl]
    rfl
  case passage => rw [hs]; rfl
  case offline => rw [hs]; rfl

/-! ## The settle point and the room that an entry needs -/

theorem State.settledUnlessClosing_cfg (i : Item) (s : State) :
    s.settledUnlessClosing.cfg i = s.cfg i ∨ s.settledUnlessClosing.cfg i = s.futureCfg i := by
  unfold State.settledUnlessClosing
  split
  · exact .inl rfl
  · exact .inr (congrFun s.futureCfg_settled i)

theorem State.entered_pendingCfg (new : SiteState) (cause : Cause) (s : State) :
    (s.entered new cause).mpc.pendingCfg = s.mpc.pendingCfg := by
  show (s.movedTo new).mpc.pendingCfg = _
  rw [s.movedTo_mpc]

/-- A site that may rest has room for what an entry that begins the settle point sends (R4, R10, R17). -/
theorem State.RoomToRest.settled_carryFits {s t : State} (h : s.RoomToRest) (hp : t.mpc = s.mpc)
    (hi : t.ssq.approachInput = s.ssq.approachInput) (new : SiteState) (cause : Cause) :
    (t.entered new cause).settledUnlessClosing.CarryFits := by
  have hports : (t.entered new cause).settledUnlessClosing.mpc.ports =
      (s.telling [siteNotice new t.ssq.site cause t.ssq.disablePending t.ssq.clock]).mpc.ports := by
    rw [State.settledUnlessClosing_ports, State.entered_ports]
    unfold State.telling
    rw [hp]
  refine h.carryFits hports ?_ ?_
  · rw [State.settledUnlessClosing_ssq, State.entered_ssq]; exact hi
  · have ha : (t.entered new cause).mpc.active = s.mpc.active := by rw [State.entered_active, hp]
    have hf : (t.entered new cause).mpc.pendingCfg = s.mpc.pendingCfg := by rw [State.entered_pendingCfg, hp]
    have hc := State.settledUnlessClosing_cfg .approachMode (t.entered new cause)
    rwa [State.cfg_congr ha, State.futureCfg_congr ha hf] at hc

/-! ## A false approach (R9, R10) -/

/-- The sequencer's own part of a false approach: the latch cleared, the approach counted (R9). -/
def State.misled (s : State) : State :=
  { s with ssq := { s.ssq with latch := false, falseApproach := min (s.ssq.falseApproach + 1) 65535 } }

theorem State.NodesOk.misled {s : State} (h : s.NodesOk) : s.misled.NodesOk :=
  ⟨h.streaming, h.gauge, h.scanner, h.armed, h.shutter, h.timer, h.gaugeLoss, h.scanLoss⟩

theorem State.falseApproach_eq {s : State} (hn : s.NodesOk) (hr : s.Room 1) (hs : s.ssq.site = .armed) (cause : Cause)
    (hf : (s.misled.entered .patrol cause).settledUnlessClosing.CarryFits) : s.falseApproach cause =
      ((s.misled.uncalled.inSite .patrol).resting.settledUnlessClosing.telling
        [siteNotice .patrol .armed cause s.ssq.disablePending s.ssq.clock]).carriedOn := by
  have hs' : s.misled.ssq.site = .armed := hs
  have hr' : s.misled.Room 1 := hr.congr rfl
  have he : s.falseApproach cause = s.misled.enter .patrol cause := rfl
  rw [he, State.enter_eq_settled hn.misled hr' (by rw [hs']; rfl) hf,
    State.entered_patrol_of_streaming hn.misled (by rw [hs']; rfl), State.settledUnlessClosing_telling, hs']
  rfl

/-- With the input inactive a false approach leaves the site in PATROL (R10). -/
theorem State.falseApproach_of_inactive {s : State} (hn : s.NodesOk) (hr : s.Room 1) (hs : s.ssq.site = .armed)
    (hi : s.ssq.approachInput = false) (cause : Cause) : s.falseApproach cause =
      (s.misled.uncalled.inSite .patrol).resting.settledUnlessClosing.telling
        [siteNotice .patrol .armed cause s.ssq.disablePending s.ssq.clock] := by
  have inactive {t : State} (ht : t.ssq.approachInput = s.ssq.approachInput) : ¬t.Carries := fun hc =>
    absurd ((ht.trans hi).symm.trans hc.2.1) nofun
  have hf : ¬(s.misled.entered .patrol cause).settledUnlessClosing.Carries :=
    inactive (by rw [State.settledUnlessClosing_ssq, State.entered_ssq]; rfl)
  have hq : (s.misled.uncalled.inSite .patrol).resting.settledUnlessClosing.ssq.approachInput = s.ssq.approachInput := by
    rw [State.settledUnlessClosing_ssq]; rfl
  rw [State.falseApproach_eq hn hr hs cause (.inr hf)]
  exact State.carriedOn_of_not (inactive hq)

/-- Settles O28: an expiry in ARMED and a release in LEVEL mode are false approaches; with the input released the mode moves the
site on no further. -/
theorem falseApproachReturnsToPatrol : Obligations.FalseApproachReturnsToPatrol := by
  intro s hsite hn hr back
  refine ⟨fun d hd hrest => ?expiry, fun hd => ?stopped, fun t hl hs => ?release, fun t h => ?none⟩
  case expiry =>
    have hs : s.ssq.site = .armed := hsite.arm (by rw [hd]; rfl)
    have hn' : (s.advance d).NodesOk := (State.KeepsSite.advance d s).nodes.nodesOk hn
    have hr' : (s.advance d).Room 1 := hr.congr rfl
    have hf : ((s.advance d).misled.entered .patrol .approachTimeout).settledUnlessClosing.CarryFits :=
      hrest.settled_carryFits (t := (s.advance d).misled) rfl rfl ..
    have hx : exec .armingTimerExpiry s = .next ((s.advance d).falseApproach .approachTimeout) := by
      refine congrArg Host.Outcome.next ?_
      rw [hd]
      exact if_pos hs
    rw [hx, State.falseApproach_eq hn' hr' hs _ hf]
    rfl
  case stopped =>
    refine congrArg Host.Outcome.next ?_
    rw [hd]
  case release =>
    have hn' : (s.atInput (max s.now t) false).NodesOk := hn.atInput ..
    have hr' : (s.atInput (max s.now t) false).Room 1 := hr.congr rfl
    have hlev : (s.atInput (max s.now t) false).levelMode = s.levelMode := State.levelMode_congr rfl
    have hx : exec (.approachFallingEdge t) s = .next ((s.atInput (max s.now t) false).falseApproach .approachRelease) :=
      congrArg Host.Outcome.next (if_pos (Bool.and_eq_true_iff.mpr ⟨hlev.trans hl, decide_eq_true hs⟩))
    rw [hx, State.falseApproach_of_inactive hn' hr' hs rfl]
    rfl
  case none =>
    have hlev : (s.atInput (max s.now t) false).levelMode = s.levelMode := State.levelMode_congr rfl
    refine congrArg Host.Outcome.next (if_neg fun hc => ?_)
    obtain ⟨hl, hs⟩ := Bool.and_eq_true_iff.mp hc
    rcases h with h | h
    · exact absurd ((hlev.trans h).symm.trans hl) nofun
    · exact h (of_decide_eq_true hs)

/-! ## The sweep timer, the sweep duration and the rest timer (R15) -/

/-- The sweep duration as an entry to SWEEP starts it (R15). -/
def State.sweeping (s : State) : State :=
  { s with ssq := { s.ssq with sweepDurTimer := some (s.now + 1000000 * s.cfg .dsweep) } }

theorem State.entryActions_sweep {s : State} (h : s.ssq.site = .sweep) : s.entryActions = s.sweeping := by
  unfold State.entryActions State.sweeping
  rw [h, ← sec_eq]; rfl

theorem State.entered_sweep_of_dormant {s : State} (hn : s.NodesOk) (hs : s.ssq.site = .dormant) (cause : Cause) :
    s.entered .sweep cause = (s.inSite .sweep).resumed.sweeping.telling
      [siteNotice .sweep .dormant cause s.ssq.disablePending s.ssq.clock] := by
  have hm : s.movedTo .sweep = (s.inSite .sweep).resumed.entryActions := by
    rw [hn.movedTo, hn.uncalled (by rw [hs]; decide), hs]; rfl
  rw [State.entered, hm, hs, State.entryActions_sweep rfl]

/-- Settles O29: an expiry enters the state that R15 gives; only the end of a sweep begins a settle point. -/
theorem dormancyTimersMoveTheSite : Obligations.DormancyTimersMoveTheSite := by
  intro s hsite hn hr at_ swept slept asleep notice
  have hn' (d : Nat) : (s.advance d).NodesOk := (State.KeepsSite.advance d s).nodes.nodesOk hn
  have hr' (d : Nat) : (s.advance d).Room 1 := hr.congr rfl
  have hasleep (d : Nat) : ((s.advance d).inSite .dormant).stopped.sleeping = asleep d :=
    State.stopped_sleeping ((s.advance d).inSite .dormant)
  have stays (d : Nat) {new : SiteState} {cause : Cause}
      (hs : s.ssq.site = .patrol ∨ s.ssq.site = .dormant ∨ s.ssq.site = .sweep) :
      ¬((s.advance d).entered new cause).Carries := by
    have hl : (s.advance d).levelMode = s.levelMode := State.levelMode_congr rfl
    refine State.entered_not_carries ?_
    rw [hl]
    exact hsite.not_carries hs
  refine ⟨fun d hd => ?sweepTimer, fun d hd hrest => ?duration, fun d hd => ?rest, fun hd => ?_, fun hd => ?_, fun hd => ?_⟩
  case sweepTimer =>
    have hs : s.ssq.site = .dormant := hsite.sweep (by rw [hd]; rfl)
    have hs' : (s.advance d).ssq.site = .dormant := hs
    have hx : exec .sweepTimerExpiry s = .next ((s.advance d).enter .sweep .sweepStart) := by
      refine congrArg Host.Outcome.next ?_
      rw [hd]
      exact if_pos hs
    have hnc := stays d (new := .sweep) (cause := .sweepStart) (.inr (.inl hs))
    rw [hx, State.enter_eq_entered (hn' d) (hr' d) (by rw [hs']; rfl) (.inr hnc), State.carriedOn_of_not hnc,
      State.entered_sweep_of_dormant (hn' d) hs']
    rfl
  case duration =>
    have hs : s.ssq.site = .sweep := hsite.duration (by rw [hd]; rfl)
    have hs' : (s.advance d).ssq.site = .sweep := hs
    have hx : exec .sweepDurationExpiry s = .next ((s.advance d).enter .dormant .sweepEnd) := by
      refine congrArg Host.Outcome.next ?_
      rw [hd]
      exact if_pos hs
    have hf : ((s.advance d).entered .dormant .sweepEnd).settledUnlessClosing.CarryFits :=
      hrest.settled_carryFits (t := s.advance d) rfl rfl ..
    rw [hx, State.enter_eq_settled (hn' d) (hr' d) (by rw [hs']; rfl) hf,
      State.entered_dormant (hn' d) (by rw [hs']; decide), State.settledUnlessClosing_telling, hasleep, hs']
    rfl
  case rest =>
    have hs : s.ssq.site = .patrol := (hsite.rest (by rw [hd]; rfl)).1
    have hs' : (s.advance d).ssq.site = .patrol := hs
    have hx : exec .restTimerExpiry s = .next ((s.advance d).enter .dormant .rest) := by
      refine congrArg Host.Outcome.next ?_
      rw [hd]
      exact if_pos hs
    have hnc := stays d (new := .dormant) (cause := .rest) (.inl hs)
    rw [hx, State.enter_eq_entered (hn' d) (hr' d) (by rw [hs']; rfl) (.inr hnc), State.carriedOn_of_not hnc,
      State.entered_dormant (hn' d) (by rw [hs']; decide), hasleep, hs']
    rfl
  all_goals
    refine congrArg Host.Outcome.next ?_
    rw [hd]

end Sys2Proof.Machine
end

section
/-! SUPPORT. Edges of the wheel sensors that complete no accepted inward crossing: FirstAndRepeatedEdgesAreHeld,
RejectedAndStrayCrossingsAreCounted. -/

namespace Sys2Proof.Machine

/-! ## An edge reported to the site (R15, R16) -/

/-- What an entry from a state of rest needs of the room, where it begins no settle point (R4, R10). -/
theorem State.RoomToRest.entered_carryFits {s t : State} (h : s.RoomToRest) (hp : t.mpc = s.mpc)
    (hi : t.ssq.approachInput = s.ssq.approachInput) (new : SiteState) (cause : Cause) : (t.entered new cause).CarryFits := by
  have hports : (t.entered new cause).mpc.ports =
      (s.telling [siteNotice new t.ssq.site cause t.ssq.disablePending t.ssq.clock]).mpc.ports := by
    rw [State.entered_ports]
    unfold State.telling
    rw [hp]
  refine h.carryFits hports ?_ (.inl ?_)
  · rw [State.entered_ssq]; exact hi
  · exact congrFun (State.cfg_congr ((t.entered_active new cause).trans (congrArg Mpc.active hp))) _

/-- An edge reported with no train open (R15, R16, R10, R17). -/
theorem State.reportEdge_eq {s : State} (hn : s.NodesOk) (hr : s.RoomToWake) : s.reportEdge = s.edgeReported := by
  unfold State.reportEdge State.edgeReported
  cases hs : s.ssq.site
  case dormant =>
    have hrest : s.RoomToRest := hr (.inl hs)
    dsimp only
    rw [State.enter_eq_entered hn hrest.room (by rw [hs]; rfl) (hrest.entered_carryFits rfl rfl ..),
      State.entered_patrol_of_stopped hn (by rw [hs]; rfl), hs]
    rfl
  case sweep =>
    have hrest : s.RoomToRest := hr (.inr hs)
    dsimp only
    rw [State.enter_eq_settled hn hrest.room (by rw [hs]; rfl) (hrest.settled_carryFits rfl rfl ..),
      State.entered_patrol_of_streaming hn (by rw [hs]; rfl), hn.uncalled (by rw [hs]; decide),
      State.settledUnlessClosing_telling, hs]
    rfl
  case patrol =>
    dsimp only
    rw [← sec_eq]
    by_cases hd : s.ssq.dormancy = true
    · simp only [if_pos hd]; rfl
    · simp only [if_neg hd]
  all_goals rfl

theorem State.RoomToWake.congr {s t : State} (h : s.RoomToWake) (hm : t.mpc = s.mpc)
    (hi : t.ssq.approachInput = s.ssq.approachInput) (hs : t.ssq.site = s.ssq.site) : t.RoomToWake := by
  have ha : t.cfg = s.cfg := State.cfg_congr (congrArg Mpc.active hm)
  have hf : t.futureCfg = s.futureCfg := State.futureCfg_congr (congrArg Mpc.active hm) (congrArg Mpc.pendingCfg hm)
  unfold State.RoomToWake State.RoomToRest State.Room State.staysAtRest
  rw [hs, hm, hi, ha, hf]
  exact h

/-! ## What an edge leads to (R20, R40) -/

theorem State.modPair_eq_atEdge {s : State} {t : Nat} {pr : Pair} {m : PairMachine} (ht : s.axt.train = none) :
    ((s.advance t).modPair pr fun _ => m) = s.atEdge t pr m := by
  unfold State.atEdge State.modPair State.modAxt State.advance
  rw [ht]
  simp [ht]

/-- The speed of an accepted crossing (R24). -/
theorem plausibleSpeed_eq {dpair dt v : Nat} (hdt : 0 < dt) (hv : v = dpair * 1000000 / dt) (hlow : 1 ≤ v) (hhigh : v ≤ 50000) :
    plausibleSpeed dpair dt = some v := by
  subst hv
  exact if_pos ⟨by omega, hlow, hhigh⟩

/-- An edge that completes no accepted crossing: an open train's clear timer restarts, and with no train open the site is told. -/
theorem State.edge_without_crossing {s : State} (hn : s.NodesOk) (hr : s.RoomToWake) (t : Nat) (pr : Pair) (m : PairMachine) :
    (let u := (s.advance t).modPair pr fun _ => m
     if s.axt.train.isSome then u.passageCrossing pr none else u.idleCrossing pr none) =
      if s.axt.train = none then (s.atEdge t pr m).edgeReported else s.atEdge t pr m := by
  cases ht : s.axt.train with
  | some tr =>
    simp only [Option.isSome_some, if_true, reduceCtorEq, if_false]
    unfold State.passageCrossing State.restartClear State.atEdge
    rw [sec_eq]
    rfl
  | none =>
    have hu := State.modPair_eq_atEdge (t := t) (pr := pr) (m := m) ht
    have hn' : (s.atEdge t pr m).NodesOk := by
      rw [← hu]
      exact ((State.KeepsSite.advance t s).trans (.modPair ..)).nodes.nodesOk hn
    have hr' : (s.atEdge t pr m).RoomToWake := hr.congr rfl rfl rfl
    simp only [Option.isSome_none, Bool.false_eq_true, if_false, if_true]
    rw [hu]
    exact State.reportEdge_eq hn' hr'

theorem sensorPlace_eq (w : WheelSensor) : sensorPlace w = WheelSensor.place w := by cases w <;> rfl

theorem PairMachine.settleTimer_eq (now : Nat) (m : PairMachine) : m.settleTimer now = m.foundAt now := by
  unfold PairMachine.settleTimer PairMachine.foundAt
  rfl

/-- The table of R21: an edge completes a crossing and leaves the machine IDLE, or it is held. -/
theorem PairMachine.edge_eq (now tpair : Nat) (outer : Bool) (m : PairMachine) : m.edge now tpair outer =
    match m.completes now outer with
    | some c => ({ m with st := .idle, timer := none }, some c)
    | none => ({ m with st := if outer = true then .outerFirst now else .innerFirst now, timer := some (now + 1000 * tpair) },
        none) := by
  unfold PairMachine.edge PairMachine.completes PairMachine.hold PairMachine.idled ms
  rw [Nat.mul_comm tpair]
  cases m.st <;> cases outer <;> rfl

/-- A sensor edge in service (R20, R21, R24). -/
theorem exec_wheelSensorEdge {s : State} (hs : s.ssq.site ≠ .offline) (w : WheelSensor) (t : Nat) :
    exec (.wheelSensorEdge w t) s = .next ((s.advance t).pairEdge (WheelSensor.place w).1 (WheelSensor.place w).2) := by
  rw [← sensorPlace_eq]
  exact congrArg Host.Outcome.next (if_neg hs)

/-- An edge that completes no crossing is held (R21). -/
theorem State.pairEdge_held {pr : Pair} {outer : Bool} {s : State}
    (h : ((s.axt.pairs.get pr).foundAt s.now).completes s.now outer = none) : s.pairEdge pr outer =
      (let found := (s.axt.pairs.get pr).foundAt s.now
       let u := s.modPair pr fun _ => { found with
         st := if outer = true then .outerFirst s.now else .innerFirst s.now, timer := some (s.now + 1000 * s.cfg .tpair) }
       if s.axt.train.isSome then u.passageCrossing pr none else u.idleCrossing pr none) := by
  unfold State.pairEdge
  rw [PairMachine.settleTimer_eq, PairMachine.edge_eq, h]
  rfl

/-- An edge that completes a crossing frees its machine; the crossing goes on if it is plausible, and is a half crossing otherwise
(R22 to R24). -/
theorem State.pairEdge_completes {pr : Pair} {outer inward : Bool} {dt : Nat} {s : State}
    (h : ((s.axt.pairs.get pr).foundAt s.now).completes s.now outer = some (inward, dt)) : s.pairEdge pr outer =
      (let freed := (s.axt.pairs.get pr).completed s.now
       let c := (plausibleSpeed (s.cfg .dpair) dt).map fun v => (inward, v)
       let u := s.modPair pr fun _ => if c.isNone then freed.countHalf else freed
       if s.axt.train.isSome then u.passageCrossing pr c else u.idleCrossing pr c) := by
  unfold State.pairEdge
  rw [PairMachine.settleTimer_eq, PairMachine.edge_eq, h]
  rfl

/-- An accepted crossing frees its pair's machine and is taken by the open train, or outside a train (R20, R22, R24, R25). -/
theorem exec_of_crosses {s : State} {w : WheelSensor} {t : Nat} {pr : Pair} {inward : Bool} {v : Nat}
    (hs : s.ssq.site ≠ .offline) (h : s.Crosses w t pr inward v) : exec (.wheelSensorEdge w t) s =
      (let u := (s.advance t).modPair pr fun _ => (s.axt.pairs.get pr).completed (max s.now t)
       .next (if s.axt.train.isSome then u.passageCrossing pr (some (inward, v)) else u.idleCrossing pr (some (inward, v)))) := by
  obtain ⟨hp, ⟨dt, hdt, hv, hc⟩, hlow, hhigh⟩ := h
  subst hp
  have hplausible : plausibleSpeed ((s.advance t).cfg .dpair) dt = some v := plausibleSpeed_eq hdt hv hlow hhigh
  rw [exec_wheelSensorEdge hs, State.pairEdge_completes hc, hplausible]
  rfl

/-- Settles O30: an edge in service that completes no crossing is held (`State.pairEdge_held`), then handed on. -/
theorem firstAndRepeatedEdgesAreHeld : Obligations.FirstAndRepeatedEdgesAreHeld := by
  intro w t s _ hn hr now pr outer m held
  refine ⟨fun hs => congrArg Host.Outcome.next (if_pos hs), fun hs hc => ?_⟩
  rw [exec_wheelSensorEdge hs, State.pairEdge_held hc]
  exact congrArg Host.Outcome.next (State.edge_without_crossing hn hr t pr held)

/-- Settles O31: an implausible crossing is no crossing but a half one; an outward one with no train open is stray, and its edge is
reported. -/
theorem rejectedAndStrayCrossingsAreCounted : Obligations.RejectedAndStrayCrossingsAreCounted := by
  intro w t s _ hn hr hs now pr done rejected
  refine ⟨fun inward dt hc hbad => ?rejected, fun v hc ht => ?stray⟩
  case rejected =>
    have himp : plausibleSpeed (s.cfg .dpair) dt = none := by
      unfold plausibleSpeed
      refine if_neg ?_
      rintro ⟨h0, -, hv⟩
      omega
    have himp' : plausibleSpeed ((s.advance t).cfg .dpair) dt = none := himp
    rw [exec_wheelSensorEdge hs, State.pairEdge_completes hc, himp']
    exact congrArg Host.Outcome.next (State.edge_without_crossing hn hr t pr rejected)
  case stray =>
    have hx : exec (.wheelSensorEdge w t) s =
        .next (((s.advance t).modPair pr fun _ => done).idleCrossing pr (some (false, v))) := by
      rw [exec_of_crosses hs hc, ht]
      rfl
    have hu : (((s.advance t).modPair pr fun _ => done).modAxt fun a => { a with stray := sat16 (a.stray + 1) }) =
        { s.atEdge t pr done with axt := { (s.atEdge t pr done).axt with stray := min (s.axt.stray + 1) 65535 } } := by
      rw [State.modPair_eq_atEdge ht]
      rfl
    have hn' : (((s.advance t).modPair pr fun _ => done).modAxt fun a => { a with stray := sat16 (a.stray + 1) }).NodesOk :=
      (((State.KeepsSite.advance t s).trans (.modPair ..)).trans (.countStray _)).nodes.nodesOk hn
    rw [hx]
    refine congrArg Host.Outcome.next ?_
    rw [← hu]
    exact State.reportEdge_eq hn' (hr.congr rfl rfl rfl)

end Sys2Proof.Machine
end

section
/-! SUPPORT. GateEdgeOpensBothGates: the requests and the gates beside the open train's timers, and what an edge opens. -/

namespace Sys2Proof.Machine

/-! ## The engine beside the tracker

The requests, the arbitration and the report store neither read nor change the Axle Tracker, so each of these operations commutes
with its replacement. -/

/-- The Axle Tracker replaced. -/
def State.withAxt (a : Axt) (s : State) : State := { s with axt := a }

@[simp] theorem State.withAxt_rps (a : Axt) (s : State) : (s.withAxt a).rps = s.rps := rfl
@[simp] theorem State.withAxt_evu (a : Axt) (s : State) : (s.withAxt a).evu = s.evu := rfl
@[simp] theorem State.withAxt_tsu (a : Axt) (s : State) : (s.withAxt a).tsu = s.tsu := rfl
@[simp] theorem State.withAxt_slotActive (a : Axt) (k : Fin 4) (s : State) : (s.withAxt a).slotActive k = s.slotActive k := rfl

theorem State.write_withAxt (a : Axt) (k : Fin 4) (number : Nat) (f : Report → Report) (s : State) :
    (s.withAxt a).write k number f = (s.write k number f).withAxt a := by
  unfold State.write
  rw [State.withAxt_rps]
  split
  · split <;> rfl
  · rfl

theorem State.arbitrateOnce_withAxt (a : Axt) (s : State) : (s.withAxt a).arbitrateOnce = s.arbitrateOnce.withAxt a := by
  have hp : (s.withAxt a).purge = s.purge.withAxt a := rfl
  unfold State.arbitrateOnce
  rw [hp]
  generalize s.purge = u
  have hl : (u.withAxt a).pickLane = u.pickLane := rfl
  dsimp only
  rw [State.withAxt_evu, hl]
  split
  · split <;> rfl
  · rfl

theorem State.arbitrate_withAxt (a : Axt) (s : State) : (s.withAxt a).arbitrate = s.arbitrate.withAxt a := by
  unfold State.arbitrate
  rw [State.arbitrateOnce_withAxt, State.arbitrateOnce_withAxt]
  rfl

theorem State.dropRequest_withAxt (a : Axt) (r : Request) (s : State) :
    (s.withAxt a).dropRequest r = (s.dropRequest r).withAxt a := by
  unfold State.dropRequest
  rw [← State.write_withAxt]
  rfl

theorem State.lodge_withAxt (a : Axt) (r : Request) (s : State) : (s.withAxt a).lodge r = (s.lodge r).withAxt a := by
  unfold State.lodge
  rw [State.withAxt_evu]
  dsimp only
  split
  · rfl
  · split
    · rfl
    · exact State.dropRequest_withAxt a r s

theorem State.submit_withAxt (a : Axt) (r : Request) (s : State) : (s.withAxt a).submit r = (s.submit r).withAxt a := by
  unfold State.submit
  rw [State.withAxt_slotActive, State.lodge_withAxt, State.arbitrate_withAxt]
  split <;> rfl

theorem State.sweepVisit_withAxt (a : Axt) (k : Fin 4) (r : Report) (pos : SweepPos) (s : State) :
    (s.withAxt a).sweepVisit k r pos = (s.sweepVisit k r pos).withAxt a := by
  have hf (l : Lane) (number target : Nat) : (s.withAxt a).targetInFlight l k number target = s.targetInFlight l k number target :=
    rfl
  unfold State.sweepVisit
  simp only [State.withAxt_evu, State.submit_withAxt, hf]
  split
  · rfl
  · split <;> rfl

theorem State.retrySweep_withAxt (a : Axt) (s : State) : (s.withAxt a).retrySweep = s.retrySweep.withAxt a := by
  unfold State.retrySweep
  rw [State.withAxt_evu]
  split
  · rfl
  · rw [State.withAxt_rps]
    split
    · rfl
    · exact State.sweepVisit_withAxt a ..

theorem State.serveLanes_withAxt (a : Axt) (s : State) : (s.withAxt a).serveLanes = s.serveLanes.withAxt a := by
  unfold State.serveLanes
  dsimp only
  rw [State.arbitrate_withAxt, State.retrySweep_withAxt]
  have hf : (s.withAxt a).freesSweep (s.arbitrate.withAxt a) = s.freesSweep s.arbitrate := rfl
  rw [hf]
  split <;> rfl

theorem State.request_withAxt (a : Axt) (r : Request) (s : State) : (s.withAxt a).request r = (s.request r).withAxt a := by
  unfold State.request
  rw [State.withAxt_slotActive, State.lodge_withAxt, State.serveLanes_withAxt]
  split <;> rfl

/-! ## Closing gates beside the train's timers -/

/-- The open train with the timers of an edge, which no closing gate reads. -/
def OpenTrain.timed (clear halt : Option Nat) (t : OpenTrain) : OpenTrain := { t with clearTimer := clear, haltTimer := halt }

theorem State.disposeGate_withAxt (a : Axt) (clear halt : Option Nat) (t : OpenTrain) (p : GatePair) (x : Side) (r : GateRecord)
    (s : State) : (s.withAxt a).disposeGate (t.timed clear halt) p x r = (s.disposeGate t p x r).withAxt a := by
  unfold State.disposeGate
  split
  · rfl
  · show (if p.dir ≠ t.d0.along t.lastDir then _ else _) = State.withAxt a (if p.dir ≠ t.d0.along t.lastDir then _ else _)
    split
    · split <;> rfl
    · split
      · rfl
      · unfold State.writeGateRecord
        rw [State.write_withAxt]
        rfl

theorem State.finishPair_withAxt (a : Axt) (clear halt : Option Nat) (t : OpenTrain) (s : State) :
    (s.withAxt a).finishPair (t.timed clear halt) = (s.finishPair t).withAxt a := by
  unfold State.finishPair
  rw [State.withAxt_tsu]
  split
  · split
    · dsimp only
      split
      · split
        · exact State.request_withAxt a _ (s.modTsu fun u => { u with pair := none })
        · rfl
      · rfl
    · rfl
  · rfl

/-- The gate pair with the gate of one scanner closed. -/
def GatePair.shut (x : Side) (p : GatePair) : GatePair := { p with gates := p.gates.upd x (fun _ => none) }

/-- The open gate of a scanner closes: it leaves its pair, is disposed of, and with it the pair, if it was the last (R142, R143). -/
theorem State.closeGate_open {s : State} {t : OpenTrain} {p : GatePair} {g : Gate} {x : Side} (ht : s.axt.train = some t)
    (hp : s.tsu.pair = some p) (hg : p.gates.get x = some g) (gapped truncated : Bool) : s.closeGate x gapped truncated =
      ((s.modTsu fun u => { u with pair := some (p.shut x) }).disposeGate t p x
        (gateRecordOf g (s.tsu.scanners.get x).ambient gapped truncated)).finishPair t := by
  unfold State.closeGate
  rw [hp, ht]
  dsimp only
  rw [hg]
  have hm : (s.modTsu fun u => { u with pair := u.pair.map fun p => { p with gates := p.gates.upd x (fun _ => none) } }) =
      s.modTsu fun u => { u with pair := some (p.shut x) } := by
    unfold State.modTsu
    dsimp only
    rw [hp]; rfl
  exact congrArg (fun v => (State.disposeGate t p x _ v).finishPair t) hm

/-- A scanner without an open gate closes none. -/
theorem State.closeGate_of_none {s : State} {x : Side} (h : s.gateOf x = none) (gapped truncated : Bool) :
    s.closeGate x gapped truncated = s := by
  unfold State.closeGate
  split
  · rename_i p _ hp _
    unfold State.gateOf at h
    rw [hp, Option.bind_some] at h
    rw [h]
  · rfl

/-- A gate closes beside the timers of the train: the train's record is read, its timers are not (R142). -/
theorem State.closeGate_timed {s : State} {t : OpenTrain} (ht : s.axt.train = some t) {a : Axt} {clear halt : Option Nat}
    (ha : a.train = some (t.timed clear halt)) (x : Side) (gapped truncated : Bool) :
    (s.withAxt a).closeGate x gapped truncated = (s.closeGate x gapped truncated).withAxt a := by
  cases hg : s.gateOf x with
  | none =>
    have hg' : (s.withAxt a).gateOf x = none := hg
    rw [State.closeGate_of_none hg, State.closeGate_of_none hg']
  | some g =>
    obtain ⟨p, hp, hx⟩ := Option.bind_eq_some_iff.mp hg
    have hp' : (s.withAxt a).tsu.pair = some p := hp
    have ht' : (s.withAxt a).axt.train = some (t.timed clear halt) := ha
    rw [State.closeGate_open ht hp hx, State.closeGate_open ht' hp' hx, ← State.finishPair_withAxt a clear halt,
      ← State.disposeGate_withAxt a clear halt]
    rfl

/-! ## Gates closed twice -/

theorem State.gateOf_of_tsu {s u : State} (h : u.tsu = s.tsu) (x : Side) : u.gateOf x = s.gateOf x := by
  unfold State.gateOf; rw [h]

/-- Marks of a pair and the scanner unit's other values leave its gates. -/
theorem State.gateOf_modTsu (f : GatePair → GatePair) (hf : ∀ p, (f p).gates = p.gates) (g : Tsu → Tsu)
    (hg : ∀ u, (g u).pair = u.pair.map f) (s : State) (x : Side) : (s.modTsu g).gateOf x = s.gateOf x := by
  show ((g s.tsu).pair.bind fun p => p.gates.get x) = s.tsu.pair.bind fun p => p.gates.get x
  rw [hg]
  cases s.tsu.pair with
  | none => rfl
  | some p => exact congrArg (fun gs : PerSide (Option Gate) => gs.get x) (hf p)

/-- A disposal leaves the gates of the pair. -/
theorem State.disposeGate_gateOf (t : OpenTrain) (p : GatePair) (x y : Side) (r : GateRecord) (s : State) :
    (s.disposeGate t p x r).gateOf y = s.gateOf y := by
  unfold State.disposeGate
  split
  · rfl
  · split
    · split
      · rfl
      · exact State.gateOf_modTsu (fun p => { p with undone := true }) (fun _ => rfl) _ (fun _ => rfl) s y
    · split
      · rfl
      · rename_i a _ _ _
        exact (State.gateOf_modTsu (fun p => { p with stored := true, urgent := p.urgent || r.urgent _ }) (fun _ => rfl) _
          (fun _ => rfl) _ y).trans (State.gateOf_of_tsu (by simp [State.writeGateRecord]) y)

/-- The end of a pair comes with its last gate: no open gate goes with it (R143). -/
theorem State.finishPair_gateOf (t : OpenTrain) (y : Side) (s : State) : (s.finishPair t).gateOf y = s.gateOf y := by
  unfold State.finishPair
  split
  · rename_i p hp
    split
    · rename_i hnone
      have hg : s.gateOf y = none := by
        unfold State.gateOf
        rw [hp]
        obtain ⟨ha, hb⟩ := Bool.and_eq_true_iff.mp hnone
        cases y
        · exact Option.isNone_iff_eq_none.mp ha
        · exact Option.isNone_iff_eq_none.mp hb
      rw [hg]
      dsimp only
      split
      · split
        · exact (State.gateOf_of_tsu (s := s.modTsu fun u => { u with pair := none }) (by simp) y).trans rfl
        · rfl
      · rfl
    · rfl
  · rfl

theorem State.closeGate_gateOf {s : State} (ht : s.axt.train.isSome) (x y : Side) (gapped truncated : Bool) :
    (s.closeGate x gapped truncated).gateOf y = if y = x then none else s.gateOf y := by
  obtain ⟨t, ht⟩ := Option.isSome_iff_exists.mp ht
  cases hg : s.gateOf x with
  | none =>
    rw [State.closeGate_of_none hg]
    split
    · subst_vars; exact hg
    · rfl
  | some g =>
    obtain ⟨p, hp, hx⟩ := Option.bind_eq_some_iff.mp hg
    rw [State.closeGate_open ht hp hx, State.finishPair_gateOf, State.disposeGate_gateOf]
    show (p.shut x).gates.get y = _
    unfold State.gateOf
    rw [hp]
    cases x <;> cases y <;> rfl

/-- After the closing of both gates no gate is open. -/
theorem State.closeGates_gateOf {s : State} (ht : s.axt.train.isSome) (truncated : Bool) (y : Side) :
    (s.closeGates truncated).gateOf y = none := by
  have ht' : (s.closeGate .a false truncated).axt.train.isSome := by simpa using ht
  rw [State.closeGates, State.closeGate_gateOf ht', State.closeGate_gateOf ht]
  cases y <;> rfl

theorem State.closeGates_of_none {s : State} (h : ∀ x, s.gateOf x = none) (truncated : Bool) : s.closeGates truncated = s := by
  rw [State.closeGates, State.closeGate_of_none (h .a), State.closeGate_of_none (h .b)]

theorem State.closeGates_timed {s : State} {t : OpenTrain} (ht : s.axt.train = some t) {a : Axt} {clear halt : Option Nat}
    (ha : a.train = some (t.timed clear halt)) (truncated : Bool) :
    (s.withAxt a).closeGates truncated = (s.closeGates truncated).withAxt a := by
  have ht' : (s.closeGate .a false truncated).axt.train = some t := by simpa using ht
  rw [State.closeGates, State.closeGate_timed ht ha, State.closeGate_timed ht' ha]
  rfl

/-! ## A gate sensor edge of the open train (R29, R40, R139, R140) -/

theorem State.haltTime_eq (s : State) (v : Nat) : s.haltTime v = s.haltAfter v := by
  unfold State.haltTime State.haltAfter clampNat
  rw [sec_eq, sec_eq]

/-- The timers of the train after an edge: the clear timer restarted, and while moving the halt timer. -/
def State.edgeTimers (s : State) (t : OpenTrain) : OpenTrain :=
  t.timed (some (s.now + 1000000 * s.cfg .tclear))
    (if t.motion ≠ .halted then some (s.now + s.haltAfter t.speed) else t.haltTimer)

theorem OpenTrain.moving_eq (t : OpenTrain) : t.moving = decide (t.motion ≠ .halted) := by
  unfold OpenTrain.moving
  cases t.motion <;> rfl

theorem State.restartTimers_eq {s : State} {t : OpenTrain} (ht : s.axt.train = some t) :
    s.restartClear.restartHalt = s.withAxt { s.axt with train := some (s.edgeTimers t) } := by
  have htrain : (s.restartClear.restartHalt).axt.train = some (s.edgeTimers t) := by
    have hclear : s.restartClear.axt.train = some { t with clearTimer := some (s.now + sec (s.cfg .tclear)) } :=
      congrArg (Option.map _) ht
    refine (congrArg (Option.map _) hclear).trans (congrArg some ?_)
    unfold State.edgeTimers OpenTrain.timed OpenTrain.moving
    dsimp only
    rw [sec_eq, State.haltTime_eq]
    cases t.motion <;> rfl
  exact congrArg (fun tr => s.withAxt { s.axt with train := tr }) htrain

/-- An edge of the open train: its timers, then the gates (R29, R40, R139). -/
theorem exec_gateSensorEdge_open {s : State} {tr : OpenTrain} (ht : s.axt.train = some tr) (t : Nat) :
    exec (.gateSensorEdge t) s =
      .next (((s.advance t).withAxt { s.axt with train := some ((s.advance t).edgeTimers tr) }).gateEdge tr) := by
  have ht' : (s.advance t).axt.train = some tr := ht
  have hx : exec (.gateSensorEdge t) s = .next ((s.advance t).restartClear.restartHalt.gateEdge tr) := by
    show Host.Outcome.next (match (s.advance t).axt.train with | some _ => _ | none => _) = _
    rw [ht']
  exact hx.trans (congrArg (fun u => Host.Outcome.next (u.gateEdge tr)) (State.restartTimers_eq ht'))

/-- Gates that closed before the edge are not closed by it (R142). -/
theorem State.gateEdge_congr {s u : State} (h : s.closeGates true = u.closeGates true) (t : OpenTrain) :
    s.gateEdge t = u.gateEdge t := by
  unfold State.gateEdge
  rw [h]

/-- Where no gate is open the edge changes the scanner unit alone. -/
theorem State.gateEdge_of_closed {s : State} (h : s.closeGates true = s) (t : OpenTrain) :
    s.gateEdge t = { s with tsu := (s.gateEdge t).tsu } := by
  unfold State.gateEdge
  rw [h]
  rfl

/-- An edge opens the same gates where the open ones have closed before it (R139). -/
theorem exec_gateSensorEdge_closed {s : State} (ht : s.axt.train ≠ none) (t : Nat) :
    exec (.gateSensorEdge t) s = exec (.gateSensorEdge t) ((s.advance t).closeGates true) := by
  obtain ⟨tr, ht⟩ := Option.ne_none_iff_exists'.mp ht
  have ht' : (s.advance t).axt.train = some tr := ht
  obtain ⟨hnow, -, haxt, -, -, -, -, -, hmpc, -⟩ := State.closeGates_frame true (s.advance t)
  have hnone : ((s.advance t).closeGates true).closeGates true = (s.advance t).closeGates true :=
    State.closeGates_of_none (State.closeGates_gateOf (by rw [ht']; rfl) true) true
  have hclosed : ((s.advance t).withAxt { s.axt with train := some ((s.advance t).edgeTimers tr) }).closeGates true =
      (((s.advance t).closeGates true).withAxt { s.axt with train := some ((s.advance t).edgeTimers tr) }).closeGates true := by
    rw [State.closeGates_timed ht' rfl, State.closeGates_timed (haxt ▸ ht') rfl, hnone]
  generalize (s.advance t).closeGates true = u at hnow haxt hmpc hclosed ⊢
  have hid : u.advance t = u := by
    have : max u.now t = u.now := by
      rw [hnow]; exact max_eq_left (le_max_right _ _)
    exact congrArg (fun n => { u with now := n }) this
  have hu : u.axt = s.axt := haxt
  have htimers : u.edgeTimers tr = (s.advance t).edgeTimers tr := by
    have hcfg : u.cfg = (s.advance t).cfg := State.cfg_congr (congrArg Mpc.active hmpc)
    unfold State.edgeTimers State.haltAfter
    rw [hnow, hcfg]
  rw [exec_gateSensorEdge_open ht, exec_gateSensorEdge_open (hu ▸ ht), hid, htimers, hu]
  exact congrArg Host.Outcome.next (State.gateEdge_congr hclosed tr)

/-- Settles O38: an edge of the open train restarts its timers, closes what is open (`exec_gateSensorEdge_closed`) and opens both
gates by the pointer. -/
theorem gateEdgeOpensBothGates : Obligations.GateEdgeOpensBothGates := by
  intro t s hok hn hr now at_
  have hnone (ht : s.axt.train = none) : exec (.gateSensorEdge t) s = .next (if at_.ssq.site = .offline then at_ else at_.reportEdge) := by
    show Host.Outcome.next (match s.axt.train with | some _ => _ | none => _) = _
    rw [ht]; rfl
  refine ⟨fun hs => ?off, fun hs ht => ?idle, fun tr ht hp => ?first, fun ht hp => exec_gateSensorEdge_closed ht t⟩
  case off =>
    have ht : s.axt.train = none := by
      refine Option.not_isSome_iff_eq_none.mp fun h => ?_
      rw [hok.passage.mpr h] at hs
      cases hs
    exact (hnone ht).trans (congrArg _ (if_pos hs))
  case idle =>
    have hn' : at_.NodesOk := (State.KeepsSite.advance t s).nodes.nodesOk hn
    exact (hnone ht).trans (congrArg _ ((if_neg hs).trans (State.reportEdge_eq hn' (hr.congr rfl rfl rfl))))
  case first =>
    intro moving taken v time d gate opened p
    have hg (x : Side) : at_.gateOf x = none := by
      show (s.tsu.pair.bind fun p => p.gates.get x) = none
      rw [hp]; rfl
    have hx := exec_gateSensorEdge_open ht t
    generalize hu : (s.advance t).withAxt { s.axt with train := some ((s.advance t).edgeTimers tr) } = u at hx
    have hc : u.closeGates true = u := State.closeGates_of_none (fun x => hu ▸ hg x) true
    refine hx.trans (congrArg Host.Outcome.next ((State.gateEdge_of_closed hc tr).trans ?_))
    have htsu : (u.gateEdge tr).tsu = if taken = .forward ∧ p < tr.n then
            { s.tsu with pointer := p + 1, pair := some (opened (some p) (some .forward)) }
          else if taken = .reverse ∧ 0 < p then
            { s.tsu with pointer := p - 1, pair := some (opened (some (p - 1)) (some .reverse)) }
          else { s.tsu with gateOrphan := min (s.tsu.gateOrphan + 1) 65535, pair := some (opened none none) } := by
      have hmoving : tr.moving = decide moving := tr.moving_eq
      have htime : at_.gateTime (if tr.moving then tr.speed else tr.lastSpeed) = time := by
        unfold State.gateTime clampNat
        simp only [hmoving, decide_eq_true_eq]
        rfl
      have hdir : tr.d0.along tr.motionTaken = d := by
        show tr.d0.along taken = if taken = .forward then tr.d0 else match tr.d0 with | .east => .west | .west => .east
        cases taken <;> rfl
      have hgate (x : Side) : at_.newGate x = gate x := by
        unfold State.newGate Scanner.usable
        rw [Option.not_isSome]
      have hpair (axle : Option Nat) (move : Option Move) :
          { axle, move, dir := tr.d0.along tr.motionTaken
            clock := if tr.moving then .running (at_.now + time) else .held time
            gates := { a := some (at_.newGate .a), b := some (at_.newGate .b) }
            undone := false, stored := false, urgent := false } = opened axle move := by
        rw [hdir, hgate, hgate]
        simp only [hmoving, decide_eq_true_eq]
        rfl
      unfold State.gateEdge
      rw [hc, ← hu]
      show { s.tsu with
        pointer := (applyPointer tr.motionTaken p tr.n).2.1
        gateOrphan := if (applyPointer tr.motionTaken p tr.n).1.isNone then sat16 (s.tsu.gateOrphan + 1) else s.tsu.gateOrphan
        pair := some {
          axle := (applyPointer tr.motionTaken p tr.n).1, move := (applyPointer tr.motionTaken p tr.n).2.2
          dir := tr.d0.along tr.motionTaken
          clock := if tr.moving then .running (at_.now + at_.gateTime (if tr.moving then tr.speed else tr.lastSpeed))
            else .held (at_.gateTime (if tr.moving then tr.speed else tr.lastSpeed))
          gates := { a := some (at_.newGate .a), b := some (at_.newGate .b) }
          undone := false, stored := false, urgent := false } } = _
      rw [htime, hpair]
      have htaken : tr.motionTaken = taken := rfl
      rw [htaken]
      unfold applyPointer sat16
      cases taken
      case forward =>
        by_cases hlt : p < tr.n <;> simp [hlt, p]
      case reverse =>
        by_cases hlt : 0 < p <;> simp [hlt, p]
    rw [htsu, ← hu]
    rfl

end Sys2Proof.Machine
end

section
/-! SUPPORT. CONFIG SET: ConfigSetClampsTestsAndApplies, ConfigSetOfModesAndMasks. -/

namespace Sys2Proof.Machine

/-! ## The arguments of a CONFIG SET (R176) -/

theorem Item.number_byte (it : Item) : (BitVec.ofNat 8 it.number).toNat = it.number := by cases it <;> rfl

theorem Item.ofNumber_number (it : Item) : Item.ofNumber it.number = some it := by cases it <;> rfl

theorem Item.clamp_eq (it : Item) (v : Nat) : it.clamp v = if v < it.lo then it.lo else if it.hi < v then it.hi else v := by
  have := it.lo_le_hi
  unfold Item.clamp clampNat
  split
  · omega
  · split <;> omega

theorem configArgs_byte {it : Item} (hw : it.width = 1) (v : Byte) :
    configArgs [BitVec.ofNat 8 it.number, v] = .ok (it, v.toNat) := by
  simp only [configArgs, it.number_byte, it.ofNumber_number, hw, if_true]

/-- The value of an item survives its bytes. -/
theorem configArgs_bytes {it : Item} {v : Nat} (h : v < 256 ^ it.width) :
    configArgs (u8 it.number ++ it.bytes v) = .ok (it, v) := by
  by_cases hw : it.width = 1
  · have hv : (BitVec.ofNat 8 v).toNat = v := by
      rw [hw] at h
      simpa using h
    have hb : u8 it.number ++ it.bytes v = [BitVec.ofNat 8 it.number, BitVec.ofNat 8 v] := by
      unfold Item.bytes; rw [if_pos hw]; rfl
    rw [hb, configArgs_byte hw, hv]
  · have hw2 : it.width = 2 := by
      unfold Item.width at hw ⊢
      split at hw
      · exact absurd rfl hw
      · exact if_neg ‹_›
    have hv : nat16 (BitVec.ofNat 8 (v / 256)) (BitVec.ofNat 8 v) = v := by
      rw [hw2] at h
      simp only [nat16, BitVec.toNat_ofNat]
      omega
    have hb : u8 it.number ++ it.bytes v = [BitVec.ofNat 8 it.number, BitVec.ofNat 8 (v / 256), BitVec.ofNat 8 v] := by
      unfold Item.bytes; rw [if_neg hw]; rfl
    simp only [hb, configArgs, it.number_byte, it.ofNumber_number, hw2, if_true, hv]

/-- The numeric items are neither named nor immediate, and no port's mask (R176). -/
theorem Item.numeric {it : Item} : it ≠ .approachMode → it ≠ .maskS → it ≠ .maskM →
    it.named = false ∧ it.immediate = false ∧ maskPort it = none := by
  cases it <;> simp [Item.named, Item.immediate, maskPort]

/-! ## Ports -/

theorem State.withPort_self (s : State) (p : Port) : s.withPort p (s.mpc.ports.get p) = s := by
  cases p <;> rfl

theorem State.withPort_get (s : State) (p : Port) (pm : PortMachine) : (s.withPort p pm).mpc.ports.get p = pm := by
  cases p <;> rfl

theorem State.withPort_withPort (s : State) (p : Port) (pm pm' : PortMachine) :
    (s.withPort p pm).withPort p pm' = s.withPort p pm' := by
  cases p <;> rfl

theorem State.telling_outbox (fs : List OutFrame) (s : State) (p : Port) :
    ((s.telling fs).mpc.ports.get p).outbox = (s.mpc.ports.get p).outbox ++ fs := by
  cases p <;> exact PortMachine.outbox_sends ..

/-- A reply takes none of the room of any port. -/
theorem State.room_replying {s : State} {q : Port} {n : Nat} (h : (s.mpc.ports.get q).Room n) (p : Port) (r : QueuedRequest)
    (o : Byte) (body : List Byte) : ((s.replying p (replyFrame r o body)).mpc.ports.get q).Room n := by
  cases p <;> cases q
  · exact h.answered r o body
  · exact h
  · exact h
  · exact h.answered r o body

/-! ## The service -/

/-- A named value outside its item's range is refused (R176). -/
theorem exec_configSet_refused {s : State} {p : Port} {r : QueuedRequest} {payload : List Byte} {it : Item} {v : Nat}
    (h : s.Asks p r 0x04 payload) (hargs : configArgs payload = .ok (it, v)) (hn : it.named = true) (hv : it.hi < v) :
    exec (.configSet p) s = .next (s.withPort p ((s.mpc.ports.get p).answered [replyFrame r 2 []])) := by
  show Host.Outcome.next (s.serve p (·.hasKind 0x04) (State.serveConfigSet p)) = _
  rw [State.serve_eq h.head, if_pos (h.hasKind 4 rfl), State.serveConfigSet, h.payload, hargs]
  dsimp only
  rw [if_pos (by simp [hn, hv])]
  exact congrArg Host.Outcome.next (State.answer_one h.orderly r .outOfRange [])

/-- A value that is taken: the reply, then the application (R173, R176). -/
theorem exec_configSet_taken {s : State} {p : Port} {r : QueuedRequest} {payload : List Byte} {it : Item} {v : Nat}
    (h : s.Asks p r 0x04 payload) (hargs : configArgs payload = .ok (it, v))
    (hv : it.named = true → it.lo ≤ v ∧ v ≤ it.hi) :
    exec (.configSet p) s = .next ((s.replying p (replyFrame r (BitVec.ofNat 8 (s.configOutcome it (it.clamp v)).code)
      (configBody it v (it.clamp v)))).applyConfig it (it.clamp v) (s.configOutcome it (it.clamp v))) := by
  show Host.Outcome.next (s.serve p (·.hasKind 0x04) (State.serveConfigSet p)) = _
  rw [State.serve_eq h.head, if_pos (h.hasKind 4 rfl), State.serveConfigSet, h.payload, hargs]
  dsimp only
  rw [if_neg, State.answer_one h.orderly]
  · rfl
  · simp only [Bool.and_eq_true, Bool.or_eq_true, decide_eq_true_eq, not_and, not_or, not_lt]
    exact hv

/-- Settles O18: the value is clamped, its outcome is the conflict test's (`State.configConflict_eq_false`) and the settle point's. -/
theorem configSetClampsTestsAndApplies : Obligations.ConfigSetClampsTestsAndApplies := by
  intro p s r it given ha hs hm hg hask hpairs taken future body answered
  obtain ⟨hnamed, himm, hport⟩ := Item.numeric ha hs hm
  have htaken : it.clamp given = taken := it.clamp_eq given
  have hrun := exec_configSet_taken hask (configArgs_bytes hg) (by simp [hnamed])
  have hconf : s.configConflict it taken = false ↔ PairsOrdered future := State.configConflict_eq_false hpairs it taken
  rw [htaken] at hrun
  refine ⟨fun hf => ?conflict, fun hf hset => ?now, fun hf hset => ?deferred⟩
  case conflict =>
    have ho : s.configOutcome it taken = .conflict := if_pos (Bool.of_not_eq_false (mt hconf.mp hf))
    rw [hrun, ho]; rfl
  case now =>
    have ho : s.configOutcome it taken = .now := by
      unfold State.configOutcome
      rw [hconf.mpr hf, hset, Bool.or_true]; rfl
    have hafter (u : State) : u.afterActive it (s.cfg it) = u := by
      unfold State.afterActive
      rw [hport]
      exact if_neg ha
    rw [hrun, ho]
    exact congrArg Host.Outcome.next (hafter _)
  case deferred =>
    have ho : s.configOutcome it taken = .deferred := by
      unfold State.configOutcome
      rw [hconf.mpr hf, hset, himm]; rfl
    rw [hrun, ho]; rfl

theorem configBody_byte {it : Item} (hw : it.width = 1) (v : Byte) : configBody it v.toNat v.toNat = [0, v] := by
  have hv : BitVec.ofNat 8 v.toNat = v := by simp
  unfold configBody Item.bytes u8
  rw [if_pos hw, hv]
  simp [flag]

/-! ## The approach mode (R10, R176) -/

theorem State.levelMode_setActive (v : Nat) (s : State) : (s.setActive .approachMode v).levelMode = (v == 1) := by
  unfold State.levelMode
  rw [State.cfg_setActive, if_pos rfl]

theorem State.configConflict_approachMode (s : State) (v : Nat) : s.configConflict .approachMode v = false := rfl

theorem State.movedTo_armed_axt (s : State) : (s.movedTo .armed).axt = s.axt := by
  have hsite : ((s.leaveSite.modSsq fun q => { q with site := .armed }).followStreams).ssq.site = .armed := by
    rw [State.followStreams_ssq_eq]; rfl
  unfold State.movedTo State.entryActions
  rw [hsite]
  dsimp only
  split <;> simp


/-- An entry leaves the measuring blocks, the store, the queues of alerts and the pending values. -/
theorem State.entered_others (new : SiteState) (cause : Cause) (s : State) :
    (s.entered new cause).vsg = s.vsg ∧ (s.entered new cause).channels = s.channels ∧ (s.entered new cause).units = s.units ∧
      (s.entered new cause).evu = s.evu ∧ (s.entered new cause).rps = s.rps ∧ (s.entered new cause).atq = s.atq ∧
      (s.entered new cause).mpc.pendingCfg = s.mpc.pendingCfg := by
  unfold State.entered State.telling State.movedTo
  simp

/-- An approach mode that is taken: held pending, or active at once with the move on of R10. -/
theorem exec_configSet_mode {s : State} {p : Port} {r : QueuedRequest} {v : Byte} (h : s.Asks p r 0x04 [1, v]) (hv : v.toNat ≤ 1) :
    exec (.configSet p) s = .next (if s.settleHolds = true then
        ((s.replying p (replyFrame r 6 [0, v])).setActive .approachMode v.toNat).levelCarry
      else (s.replying p (replyFrame r 7 [0, v])).setPending .approachMode v.toNat) := by
  have hclamp : Item.approachMode.clamp v.toNat = v.toNat := by
    rw [Item.clamp_eq]
    split
    · exact absurd ‹_› (Nat.not_lt_zero _)
    · exact if_neg (not_lt.mpr hv)
  have hbody := configBody_byte (it := .approachMode) rfl v
  rw [exec_configSet_taken h (configArgs_byte (it := .approachMode) rfl v) (fun _ => ⟨Nat.zero_le _, hv⟩), hclamp, hbody]
  unfold State.configOutcome
  rw [State.configConflict_approachMode]
  cases s.settleHolds <;> rfl

/-! ## The alert masks (R168, R176) -/

/-- The levels that a mask adds, with their notices: each finds room (R168). -/
theorem State.addedLevels_eq (q : Port) (old : Nat) (ls : List AlertLevel) : ∀ {s : State}, (s.mpc.ports.get q).Room ls.length →
    ls.foldl (State.addedLevel q old) s = s.withPort q ((s.mpc.ports.get q).sends
      ((ls.filter fun l => s.maskHas q l && !old.testBit l.code && !(s.atq.queues.get l).isEmpty).map fun l =>
        noticeFrame 0x43 [BitVec.ofNat 8 l.code, BitVec.ofNat 8 (s.atq.queues.get l).length])) := by
  induction ls with
  | nil =>
    intro s h
    rw [List.filter_nil, List.map_nil, PortMachine.sends_nil h.orderly]
    exact (State.withPort_self s q).symm
  | cons l ls ih =>
    intro s h
    rw [List.foldl_cons, List.filter_cons, State.addedLevel]
    split
    · have hn : s.pendingNotice q l = s.withPort q ((s.mpc.ports.get q).sends
          [noticeFrame 0x43 [BitVec.ofNat 8 l.code, BitVec.ofNat 8 (s.atq.queues.get l).length]]) := by
        rw [← PortMachine.notice_eq_sends h]
        cases q <;> rfl
      have hroom := h.sends (noticeFrame 0x43 [BitVec.ofNat 8 l.code, BitVec.ofNat 8 (s.atq.queues.get l).length])
      rw [hn, ih (by rw [State.withPort_get]; exact hroom), State.withPort_get, PortMachine.sends_sends, State.withPort_withPort]
      rfl
    · exact ih (h.mono (Nat.le_succ _))

/-- Settles O19: an approach mode is applied and moves the site on as R10 says; a mask is applied and announces what it adds. -/
theorem configSetOfModesAndMasks : Obligations.ConfigSetOfModesAndMasks := by
  refine ⟨fun p s r v h => ?modes, fun p q s r v => ?masks⟩
  case modes =>
    intro answered set
    refine ⟨fun hv => ?refused, fun hv hset => ?deferred, fun hv hset hstay => ?stays, fun hv hset hi hs hr => ?carries⟩
    case refused => exact exec_configSet_refused h (configArgs_byte (it := .approachMode) rfl v) rfl hv
    case deferred =>
      rw [exec_configSet_mode h hv, if_neg (by rw [hset]; nofun)]
      rfl
    case stays =>
      rw [exec_configSet_mode h hv, if_pos hset, State.levelCarry_of_not]
      · rfl
      · rintro ⟨hl, hin, hat⟩
        rw [State.levelMode_setActive] at hl
        rcases hstay with rfl | hin' | hoff
        · cases hl
        · exact absurd (hin'.symm.trans hin) nofun
        · have hoff' : ((s.replying p (replyFrame r 6 [0, v])).setActive .approachMode v.toNat).ssq.site = .offline := hoff
          rw [hoff'] at hat
          rcases hat with hat | hat | hat <;> cases hat
    case carries =>
      obtain ⟨u, hu⟩ : ∃ u, u = (s.replying p (replyFrame r 6 [0, v])).setActive .approachMode v.toNat := ⟨_, rfl⟩
      have hsite : s.ssq.site = .patrol ∨ s.ssq.site = .dormant := by
        obtain ⟨hsettles, -⟩ := Bool.and_eq_true_iff.mp hset
        cases hsite : s.ssq.site <;> simp_all [SiteState.settles]
      have hussq : u.ssq = s.ssq := by rw [hu]; rfl
      have hlevel : u.levelMode = true := by rw [hu, State.levelMode_setActive, hv]; rfl
      have hroom : u.Room 1 := (hr.replying p r 6 [0, v]).congr (by rw [hu]; rfl)
      have hcarries : u.Carries := ⟨hlevel, by rw [hussq]; exact hi, by rw [hussq]; exact hsite.elim .inl (.inr ∘ .inl)⟩
      have hrun : exec (.configSet p) s = .next (u.latched.entered .armed .approach) := by
        rw [exec_configSet_mode h (by rw [hv]; decide), if_pos hset, ← hu, State.levelCarry_of_carries hcarries]
        exact congrArg _ (State.changeSite_eq_entered (s := u.latched) (hroom.congr rfl) ..)
      have hmoved : (u.latched.entered .armed .approach).ssq = u.latched.ssq.moved .armed u.now u.levelMode u.cfg := State.entered_ssq ..
      obtain ⟨hvsg, hchannels, hunits, hevu, hrps, hatq, hpending⟩ := State.entered_others .armed .approach u.latched
      refine ⟨_, hrun, State.entered_site .., ?latch, ?timer, ?active, ?pending, ?outbox, ?axt, ?vsg, ?channels, ?units, ?evu,
        ?rps, ?atq, fun hok hn => ?whole⟩
      case latch => rw [hmoved]; rfl
      case timer => rw [hmoved, hlevel]; rfl
      case active =>
        rw [State.entered_active, State.latched, hu]
        rfl
      case pending => rw [hpending, State.latched, hu]; rfl
      case outbox =>
        have hbox : (u.mpc.ports.get p).outbox = (s.mpc.ports.get p).outbox ++ [replyFrame r 6 [0, v]] := by
          rw [hu]
          refine (congrArg PortMachine.outbox (State.withPort_get s p _)).trans ?_
          exact PortMachine.outbox_sends ..
        have hlatched : u.latched.mpc.ports = u.mpc.ports := rfl
        have hq : u.latched.ssq = { s.ssq with latch := true } := by rw [State.latched, hussq]
        rw [State.entered_ports, State.telling_outbox, hlatched, hbox, hq, List.append_assoc]
        rfl
      case axt => exact (State.movedTo_armed_axt u.latched).trans (by rw [State.latched, hu]; rfl)
      case vsg => rw [hvsg, State.latched, hu]; rfl
      case channels => rw [hchannels, State.latched, hu]; rfl
      case units => rw [hunits, State.latched, hu]; rfl
      case evu => rw [hevu, State.latched, hu]; rfl
      case rps => rw [hrps, State.latched, hu]; rfl
      case atq => rw [hatq, State.latched, hu]; rfl
      case whole =>
        intro latched armed
        have hnu : u.NodesOk := by
          rw [hu]
          exact (State.KeepsNodes.setActive ..).nodesOk (hn.replying p _)
        have hne : u.ssq.site ≠ .armed := by
          rw [hussq]
          rcases hsite with hs | hs <;> rw [hs] <;> nofun
        have harm : u.latched.entered .armed .approach = u.arm :=
          (State.changeSite_eq_entered (s := u.latched) (hroom.congr rfl) ..).symm
        have ha : u.latched.inSite .armed = armed.replying p (replyFrame r 6 [0, v]) := by rw [hu]; rfl
        have hb : (u.latched.inSite .armed).resumed = armed.resumed.replying p (replyFrame r 6 [0, v]) := by rw [hu]; rfl
        have ha' : (u.latched.inSite .armed).arming = u.latched.inSite .armed := State.arming_level hlevel rfl
        have hb' : (u.latched.inSite .armed).resumed.arming = (u.latched.inSite .armed).resumed := State.arming_level hlevel rfl
        rw [harm, State.arm_eq hnu hroom hne, hussq]
        rcases hsite with hs | hs <;> rw [hs]
        · rw [if_pos (by rfl), ha', ha, State.called_replying, if_neg (by nofun)]
        · rw [if_neg (by nofun), hb', hb, State.called_replying, if_pos rfl]
  case masks =>
    intro it h added set
    have hnamed : it.named = true := by cases q <;> rfl
    have hlo : it.lo = 0 := by cases q <;> rfl
    have hhi : it.hi = 15 := by cases q <;> rfl
    have hwidth : it.width = 1 := by cases q <;> rfl
    have hargs := configArgs_byte hwidth v
    refine ⟨fun hv => exec_configSet_refused h hargs hnamed (by rw [hhi]; exact hv), fun hv hr => ?_⟩
    obtain ⟨u, hu⟩ : ∃ u, u = (s.replying p (replyFrame r 6 [0, v])).setActive it v.toNat := ⟨_, rfl⟩
    have hport : maskPort it = some q := by cases q <;> rfl
    have hrun : exec (.configSet p) s = .next (u.maskNotices q (s.cfg it)) := by
      have hclamp : it.clamp v.toNat = v.toNat := by
        rw [Item.clamp_eq, hlo, hhi, if_neg (Nat.not_lt_zero _), if_neg (not_lt.mpr hv)]
      have hbody : configBody it v.toNat v.toNat = [0, v] := configBody_byte hwidth v
      have ho : s.configOutcome it v.toNat = .now := by
        unfold State.configOutcome
        cases q <;> rfl
      rw [exec_configSet_taken h hargs (fun _ => ⟨hlo ▸ Nat.zero_le _, hhi ▸ hv⟩), hclamp, hbody, ho, hu]
      unfold State.applyConfig State.afterActive
      rw [hport]
      rfl
    have hmask (l : AlertLevel) : u.maskHas q l = v.toNat.testBit l.code := by
      have hit : maskItem q = it := by cases q <;> rfl
      rw [State.maskHas, hit, hu, State.cfg_setActive, if_pos rfl]
    have hatq : u.atq = s.atq := by rw [hu]; rfl
    have hroom : (u.mpc.ports.get q).Room [AlertLevel.critical, .alert, .watch, .notice].length := by
      rw [hu]
      exact State.room_replying (q := q) hr p r 6 [0, v]
    rw [hrun, State.maskNotices, State.addedLevels_eq q _ _ hroom]
    simp only [hmask, hatq]
    rw [hu]
    rfl

end Sys2Proof.Machine
end

section
/-! SUPPORT. What a train start announces: the ports and the queues of alerts under the store's and the site's notices (R151, R152). -/

namespace Sys2Proof.Machine

/-! ## One port at a time -/

theorem State.noticeBoth_port (kind : Byte) (payload : List Byte) (s : State) (p : Port) :
    (s.noticeBoth kind payload).mpc.ports.get p = (s.mpc.ports.get p).notice kind payload := by
  cases p <;> rfl

theorem State.modPort_port (s : State) (p : Port) (f : PortMachine → PortMachine) :
    (s.modPort p f).mpc.ports.get p = f (s.mpc.ports.get p) := by
  cases p <;> rfl

theorem State.endStreamsOf_port (k : Fin 4) (s : State) (p : Port) :
    (s.endStreamsOf k).mpc.ports.get p = (s.mpc.ports.get p).slotTaken k := by
  cases p <;> rfl

/-- The port without a stream that reads slot `k`. -/
def PortMachine.unread (k : Fin 4) (pm : PortMachine) : PortMachine := { pm with stream := pm.stream.filter fun st => st.slot ≠ k }

/-- The STREAM END frame of a stream that reads slot `k` (R175). -/
def PortMachine.gone (k : Fin 4) (pm : PortMachine) : List OutFrame :=
  (pm.stream.toList.filter fun st => st.slot = k).map fun st => streamEndFrame st 2

/-- A stream that reads the slot ends SLOT_GONE; another one runs on (R151, R175). -/
theorem PortMachine.slotTaken_eq {pm : PortMachine} {n : Nat} (h : pm.Room (n + 1)) (k : Fin 4) :
    pm.slotTaken k = (pm.unread k).sends (pm.gone k) := by
  have hr : (pm.unread k).Room (n + 1) := ⟨h.unbroken, h.orderly, h.room⟩
  unfold PortMachine.slotTaken PortMachine.endStream PortMachine.gone
  cases hs : pm.stream with
  | none =>
    have hpm : pm.unread k = pm := by unfold PortMachine.unread; rw [hs, Option.filter_none, ← hs]
    exact ((PortMachine.sends_nil hr.orderly).trans hpm).symm
  | some st =>
    by_cases hk : st.slot = k
    · have hpm : pm.unread k = { pm with stream := none } := by unfold PortMachine.unread; simp [hs, hk]
      have hn := PortMachine.notice_eq_sends hr 0x44 (streamEndPayload st 2)
      rw [hpm] at hn ⊢
      simp only [Option.any_some, hk, beq_self_eq_true, if_true, Option.toList_some, List.filter_cons, decide_true,
        List.filter_nil, List.map_cons, List.map_nil]
      exact hn
    · have hf : pm.stream.filter (fun st => st.slot ≠ k) = pm.stream := by
        rw [hs]
        exact Option.filter_eq_some_iff.mpr ⟨rfl, decide_eq_true hk⟩
      have hpm : pm.unread k = pm := by unfold PortMachine.unread; rw [hf]
      have := PortMachine.sends_nil hr.orderly
      rw [hpm] at this ⊢
      simp [hk, this]

theorem PortMachine.Room.slotTaken {pm : PortMachine} {n : Nat} (h : pm.Room (n + 1)) (k : Fin 4) : (pm.slotTaken k).Room n := by
  have hr : (pm.unread k).Room (n + 1) := ⟨h.unbroken, h.orderly, h.room⟩
  rw [PortMachine.slotTaken_eq h, PortMachine.gone]
  cases pm.stream with
  | none =>
    rw [Option.toList_none, List.filter_nil, List.map_nil, PortMachine.sends_nil hr.orderly]
    exact hr.mono (Nat.le_succ n)
  | some st =>
    rw [Option.toList_some, List.filter_cons]
    split
    · exact hr.sends _
    · rw [List.filter_nil, List.map_nil, PortMachine.sends_nil hr.orderly]
      exact hr.mono (Nat.le_succ n)

/-! ## Alerts (R164, R165, R167) -/

theorem Atq.post_eq_filed (d : AlertDraft) (time : Clock) (a : Atq) : a.post d time = a.filed time d := by
  have hnumber : nextNumber a.number = if a.number < 65535 then a.number + 1 else 1 := by
    unfold nextNumber
    split <;> split <;> omega
  unfold Atq.post Atq.filed
  rw [hnumber]
  by_cases hfull : 32 ≤ (a.queues.get d.level).length
  · have hq (e : AlertEntry) (l : Nat) : enqueueAlert e (a.queues.get d.level) l =
        ((a.queues.get d.level).tail ++ [e], min (l + 1) 65535) := by
      rw [← List.drop_one]
      exact if_neg (not_lt.mpr hfull)
    have hupd : a.lost.upd d.level (fun _ => min (a.lost.get d.level + 1) 65535) = a.lost.upd d.level fun n => min (n + 1) 65535 := by
      cases d.level <;> rfl
    simp only [hq, if_pos hfull, hupd]
  · have hq (e : AlertEntry) (l : Nat) : enqueueAlert e (a.queues.get d.level) l = (a.queues.get d.level ++ [e], l) :=
      if_pos (not_le.mp hfull)
    have hupd : a.lost.upd d.level (fun _ => a.lost.get d.level) = a.lost := by cases d.level <;> rfl
    simp only [hq, if_neg hfull, hupd]

theorem State.post_atq (d : AlertDraft) (s : State) : (s.post d).atq = s.atq.filed s.ssq.clock d := by
  rw [← Atq.post_eq_filed]
  unfold State.post
  dsimp only
  split
  · unfold State.pendingNoticeIfMasked
    split <;> split <;> rfl
  · rfl

theorem State.pendingNoticeIfMasked_port (p q : Port) (l : AlertLevel) (s : State) :
    (s.pendingNoticeIfMasked q l).mpc.ports.get p = if p = q ∧ s.maskHas q l = true then
      (s.mpc.ports.get p).notice 0x43 (u8 l.code ++ u8 (s.atq.queues.get l).length) else s.mpc.ports.get p := by
  unfold State.pendingNoticeIfMasked
  by_cases hm : s.maskHas q l = true
  · rw [if_pos hm]
    cases p <;> cases q <;> simp [hm, State.pendingNotice, State.noticeTo, State.modPort, PerPort.upd, PerPort.get]
  · rw [if_neg hm, if_neg (fun h => hm h.2)]

theorem State.maskHas_congr {s v : State} (h : v.mpc.active = s.mpc.active) (p : Port) (l : AlertLevel) :
    v.maskHas p l = s.maskHas p l := by
  unfold State.maskHas
  rw [State.cfg_congr h]

/-- A post that ends an empty level is announced to a port whose mask includes it (R167). -/
theorem State.post_port (d : AlertDraft) (s : State) (p : Port) : (s.post d).mpc.ports.get p =
    if s.atq.queues.get d.level = [] ∧ s.maskHas p d.level = true then
      (s.mpc.ports.get p).notice 0x43 [BitVec.ofNat 8 d.level.code, 1]
    else s.mpc.ports.get p := by
  have hfiled (h : s.atq.queues.get d.level = []) :
      ((s.modAtq (·.post d s.ssq.clock)).atq.queues.get d.level).length = 1 := by
    show ((s.atq.post d s.ssq.clock).queues.get d.level).length = 1
    rw [Atq.post_eq_filed, Atq.filed, h]
    cases d.level <;> rfl
  unfold State.post
  dsimp only
  by_cases hq : s.atq.queues.get d.level = []
  · rw [if_pos (by rw [hq]; rfl)]
    generalize hv : s.modAtq (·.post d s.ssq.clock) = v at *
    have hports : v.mpc.ports = s.mpc.ports := by rw [← hv]; rfl
    have hactive : v.mpc.active = s.mpc.active := by rw [← hv]; rfl
    have hactive' : (v.pendingNoticeIfMasked .s d.level).mpc.active = s.mpc.active := by simp [hactive]
    have hatq : (v.pendingNoticeIfMasked .s d.level).atq = v.atq := by simp
    rw [State.pendingNoticeIfMasked_port, State.pendingNoticeIfMasked_port, State.maskHas_congr hactive,
      State.maskHas_congr hactive', hatq, hfiled hq, hports]
    cases p <;> simp [hq, u8]
  · rw [if_neg (by rw [List.isEmpty_iff]; exact hq), if_neg (fun h => hq h.1)]
    rfl

end Sys2Proof.Machine
end

section
/-! SUPPORT. InwardCrossingStartsATrain: the first crossing of a train that has just been opened, and the start as a whole (R37). -/

namespace Sys2Proof.Machine

/-! ## The report of the open train -/

/-- `s` with report `r` in the FILLING slot `k`. -/
def State.filled (k : Fin 4) (r : Report) (s : State) : State :=
  { s with rps := { s.rps with slots := s.rps.slots.set k (some { st := .filling, report := r }) } }

/-- The slot of the open train `t` is FILLING and holds the train's report `r`. -/
structure State.Fills (s : State) (t : OpenTrain) (r : Report) : Prop where
  train  : s.axt.train = some t
  slot   : s.rps.slots[t.slot] = some { st := .filling, report := r }
  number : r.header.number = t.number

theorem State.filled_filled (k : Fin 4) (r r' : Report) (s : State) : (s.filled k r).filled k r' = s.filled k r' := by
  unfold State.filled
  simp

theorem State.Fills.write {s : State} {t : OpenTrain} {r : Report} (h : s.Fills t r) (f : Report → Report) :
    s.write t.slot t.number f = s.filled t.slot (f r) :=
  State.write_of_live h.slot (.inl rfl) h.number f

theorem State.Fills.writeTrain {s : State} {t : OpenTrain} {r : Report} (h : s.Fills t r) (f : Report → Report) :
    s.writeTrain f = s.filled t.slot (f r) := by
  unfold State.writeTrain
  rw [h.train]
  exact h.write f

theorem State.Fills.filled {s : State} {t : OpenTrain} {r r' : Report} (h : s.Fills t r) (hn : r'.header.number = t.number) :
    (s.filled t.slot r').Fills t r' where
  train := h.train
  slot := by simp [State.filled]
  number := hn

theorem State.modTrain_congr {s : State} {t : OpenTrain} {f g : OpenTrain → OpenTrain} (ht : s.axt.train = some t)
    (h : f t = g t) : s.modTrain f = s.modTrain g := by
  have hm : s.axt.train.map f = s.axt.train.map g := by
    rw [ht]
    exact congrArg some h
  exact congrArg (fun x => s.withAxt { s.axt with train := x }) hm

/-- A report written back as it stands. -/
theorem State.Fills.filled_self {s : State} {t : OpenTrain} {r : Report} (h : s.Fills t r) : s.filled t.slot r = s := by
  have hset : s.rps.slots.set t.slot (some { st := .filling, report := r }) = s.rps.slots := by
    rw [← h.slot]
    exact Vector.set_getElem_self ..
  exact congrArg (fun sl => { s with rps := { s.rps with slots := sl } }) hset

/-- The open train's values change, its slot and number do not. -/
theorem State.Fills.modTrain {s : State} {t : OpenTrain} {r : Report} (h : s.Fills t r) {f : OpenTrain → OpenTrain}
    (hs : (f t).slot = t.slot) (hn : (f t).number = t.number) : (s.modTrain f).Fills (f t) r where
  train := congrArg (Option.map f) h.train
  slot := by
    show s.rps.slots[(f t).slot] = _
    simp only [hs]
    exact h.slot
  number := h.number.trans hn.symm

/-! ## The first crossing -/

/-- A report as the start of its train leaves it: no axle, and vehicle 0 (R45, R153). -/
def Report.opened (h : Header) : Report := { header := h, axles := [], vehicles := [.start 0 0] }

/-- The report once the crossing of axle 0 stands in it (R31, R32, R37, R46). -/
def Report.firstAxle (v : Nat) (time : Clock) (h : Header) : Report :=
  { header := Header.countAxles 1 (Header.speedRange v h)
    axles := [.start 0 time v none (some 0)]
    vehicles := [{ VehicleRecord.start 0 0 with count := 1 }] }

/-- The open train once its first crossing has been taken (R24, R25, R28). -/
def OpenTrain.crossedFirst (pr : Pair) (v now halt : Nat) (t : OpenTrain) : OpenTrain :=
  { OpenTrain.cross pr (travelOf pr true) now halt { t with speed := v, lastSpeed := v } with n := 1, h := 1 }

theorem State.setMotion_first {s : State} {t : OpenTrain} {pr : Pair} {v : Nat} (hd : t.d0 = travelOf pr true) (hl : t.lastDir = .forward)
    (hc : t.lastCross.get (Pair.other pr) = none) :
    s.setMotion t pr (travelOf pr true) v = (s.modTrain (·.cross pr (travelOf pr true) s.now (s.haltTime v))).resumeGates := by
  have hrel : relativeTo t.d0 (travelOf pr true) = t.lastDir := by rw [hd, hl]; exact if_pos rfl
  unfold State.setMotion
  rw [hc]
  exact if_pos hrel

/-- The open vehicle 0 takes axle 0 (R46, R53). -/
theorem State.segForward_first {s : State} {t t' : OpenTrain} {h : Header} (hf : s.Fills t (.opened h)) (hs : t'.slot = t.slot)
    (hn : t'.number = t.number) {d : Bool} (hv : s.vsg.vehicles = [{ first := 0, deficitMark := d }]) (v time : Nat) :
    s.segForward t' 0 v time none =
      ((s.filled t.slot { Report.opened h with vehicles := [{ VehicleRecord.start 0 0 with count := 1 }] }).markChanged .vehicle
        t.slot t.number 0).modVsg fun g => { g with reference := some (v, time), interrupted := false } := by
  have hlive : s.liveReport t.slot t.number = some (.opened h) :=
    State.liveReport_eq_some.mpr ⟨_, hf.slot, .inl rfl, hf.number, rfl⟩
  unfold State.segForward State.segPush State.segCount
  dsimp only
  rw [hs, hn, hv, hlive]
  dsimp only
  rw [hf.write]
  rfl

/-- An axle record joins a report with fewer axles than the table holds (R32). -/
theorem State.newAxle_first {s : State} {t : OpenTrain} {r : Report} (hf : s.Fills t r) {g : SegVehicle} (hv : s.vsg.vehicles = [g])
    (v : Nat) : s.newAxle 0 v none =
      s.filled t.slot { r with axles := r.axles ++ [.start 0 s.ssq.clock v none (some 0)] } := by
  have hi : s.segVehicleIndex = some 0 := by
    unfold State.segVehicleIndex Vsg.openIndex
    rw [hv]
    rfl
  unfold State.newAxle
  rw [if_pos (by decide), hf.writeTrain, hi]

/-- A forward entry of axle 0 (R31, R32, R46). -/
theorem State.forwardEntry_first {s : State} {t t' : OpenTrain} {h : Header} (hf : s.Fills t (.opened h)) (hs : t'.slot = t.slot)
    (hn : t'.number = t.number) (hn0 : t.n = 0) (hh0 : t.h = 0) (hn0' : t'.n = 0) (hh0' : t'.h = 0) {d : Bool}
    (hv : s.vsg.vehicles = [{ first := 0, deficitMark := d }]) (v : Nat) :
    s.forwardEntry t' v = (((s.modTrain fun t => { t with n := 1, h := 1 }).filled t.slot
      { header := Header.countAxles 1 h, axles := [.start 0 s.ssq.clock v none (some 0)]
        vehicles := [{ VehicleRecord.start 0 0 with count := 1 }] }).markChanged
        .vehicle t.slot t.number 0).modVsg fun g => { g with reference := some (v, s.now), interrupted := false } := by
  obtain ⟨s1, hs1⟩ : ∃ s1, s1 = s.modTrain fun t => { t with n := 1, h := 1 } := ⟨_, rfl⟩
  have hmod : (s.modTrain fun t => { t with n := t.n + 1, h := max t.h (t.n + 1) }) = s1 := by
    rw [hs1]
    refine State.modTrain_congr hf.train ?_
    rw [hn0, hh0]
    rfl
  have hf1 : s1.Fills { t with n := 1, h := 1 } (.opened h) := by
    rw [hs1]
    exact hf.modTrain rfl rfl
  have hcount := hf1.writeTrain (Report.modHeader (Header.countAxles 1))
  obtain ⟨s2, hs2⟩ : ∃ s2, s2 = s1.filled t.slot (.opened (Header.countAxles 1 h)) := ⟨_, rfl⟩
  have hf2 : s2.Fills { t with n := 1, h := 1 } (.opened (Header.countAxles 1 h)) := by
    rw [hs2]
    exact hf1.filled hf.number
  have hv2 : s2.vsg.vehicles = [{ first := 0, deficitMark := d }] := by rw [hs2, hs1]; exact hv
  have hforward := State.segForward_first hf2 hs hn hv2 v s.now
  obtain ⟨s3, hs3⟩ : ∃ s3, s3 = s2.segForward t' 0 v s.now none := ⟨_, rfl⟩
  have hf3 : s3.Fills { t with n := 1, h := 1 }
      { Report.opened (Header.countAxles 1 h) with vehicles := [{ VehicleRecord.start 0 0 with count := 1 }] } := by
    obtain ⟨htrain, hslot, hnumber⟩ := hf2.filled
      (r' := { Report.opened (Header.countAxles 1 h) with vehicles := [{ VehicleRecord.start 0 0 with count := 1 }] }) hf.number
    rw [hs3, hforward]
    exact ⟨htrain, hslot, hnumber⟩
  have hv3 : s3.vsg.vehicles = [{ first := 0, deficitMark := d }] := by rw [hs3, hforward]; exact hv2
  have haxle := State.newAxle_first hf3 hv3 v
  have hspacing : s.entrySpacing 0 v s.now = none := if_pos rfl
  unfold State.forwardEntry
  rw [hmod, hn0', hh0', if_neg (by decide), hspacing]
  dsimp only
  have hnow : s1.now = s.now := by rw [hs1]; rfl
  rw [if_pos (by decide), hcount, hnow]
  show ((s1.filled t.slot (.opened (Header.countAxles 1 h))).segForward t' 0 v s.now none).newAxle 0 v none = _
  rw [← hs2, ← hs3, haxle, hs3, hforward, hs2, hs1]
  exact congrArg (fun u : State => (u.markChanged .vehicle t.slot t.number 0).modVsg fun g =>
    { g with reference := some (v, s.now), interrupted := false })
    ((State.filled_filled ..).trans (State.filled_filled ..))

/-- The crossing that opens a train, applied as the forward entry of axle 0 (R37, step 6). -/
theorem State.openCrossing_first {s : State} {t : OpenTrain} {k : Fin 4} {number clearAt v : Nat} {pr : Pair} {h : Header} {d : Bool}
    (ht : t = .start k number pr clearAt) (hf : s.Fills t (.opened h))
    (hv : s.vsg.vehicles = [{ first := 0, deficitMark := d }]) :
    s.openCrossing pr true v = ((((s.modTrain fun t => t.crossedFirst pr v s.now (s.haltTime v)).filled k
      (.firstAxle v s.ssq.clock h)).resumeGates).markChanged .vehicle k number 0).modVsg fun g =>
        { g with reference := some (v, s.now), interrupted := false } := by
  obtain ⟨s1, hs1⟩ : ∃ s1, s1 = (s.modTrain fun t => { t with speed := v, lastSpeed := v }).filled k
    (.opened (Header.speedRange v h)) := ⟨_, rfl⟩
  have hslot : t.slot = k := by rw [ht]; rfl
  have hnumber : t.number = number := by rw [ht]; rfl
  have hspeed : s.setSpeed v = s1 := by
    rw [hs1, ← hslot]
    exact (hf.modTrain (f := fun t => { t with speed := v, lastSpeed := v }) rfl rfl).writeTrain _
  have hf1 : s1.Fills { t with speed := v, lastSpeed := v } (.opened (Header.speedRange v h)) := by
    rw [hs1, ← hslot]
    exact (hf.modTrain (f := fun t => { t with speed := v, lastSpeed := v }) rfl rfl).filled hf.number
  have hmotion : s1.setMotion t pr (travelOf pr true) v =
      (s1.modTrain (·.cross pr (travelOf pr true) s1.now (s1.haltTime v))).resumeGates := by
    subst ht
    exact State.setMotion_first rfl rfl (by cases pr <;> rfl)
  obtain ⟨s2, hs2⟩ : ∃ s2, s2 = s1.setMotion t pr (travelOf pr true) v := ⟨_, rfl⟩
  have hf2 : s2.Fills (OpenTrain.cross pr (travelOf pr true) s1.now (s1.haltTime v) { t with speed := v, lastSpeed := v })
      (.opened (Header.speedRange v h)) := by
    obtain ⟨ha, hb, hc⟩ := hf1.modTrain (f := (·.cross pr (travelOf pr true) s1.now (s1.haltTime v))) rfl rfl
    rw [hs2, hmotion]
    exact ⟨ha, hb, hc⟩
  have hv2 : s2.vsg.vehicles = [{ first := 0, deficitMark := d }] := by rw [hs2, hmotion, hs1]; exact hv
  have hentry := State.forwardEntry_first hf2 (t' := t) rfl rfl (by rw [ht]; rfl) (by rw [ht]; rfl) (by rw [ht]; rfl)
    (by rw [ht]; rfl) hv2 v
  have hpr : pr = t.entry := by rw [ht]; rfl
  unfold State.openCrossing
  rw [hf.train]
  dsimp only
  rw [hspeed, ← hs2]
  unfold State.countCrossing
  rw [if_pos hpr, if_pos rfl, hentry]
  have htrain : ((s.axt.train.map fun t => { t with speed := v, lastSpeed := v }).map
      (·.cross pr (travelOf pr true) s.now (s.haltTime v))).map (fun t => { t with n := 1, h := 1 }) =
        s.axt.train.map fun t => t.crossedFirst pr v s.now (s.haltTime v) := by
    rw [hf.train]; rfl
  have hclock : s2.ssq.clock = s.ssq.clock := by rw [hs2, hmotion, hs1]; rfl
  have hnow : s2.now = s.now := by rw [hs2, hmotion, hs1]; rfl
  have hk : (OpenTrain.cross pr (travelOf pr true) s1.now (s1.haltTime v) { t with speed := v, lastSpeed := v }).slot = k := hslot
  have hm : (OpenTrain.cross pr (travelOf pr true) s1.now (s1.haltTime v) { t with speed := v, lastSpeed := v }).number = number :=
    hnumber
  rw [hclock, hnow, hk, hm, hs2, hmotion, hs1]
  refine Eq.trans ?_ (congrArg (fun tr => ((((s.withAxt { s.axt with train := tr }).filled k
      (.firstAxle v s.ssq.clock h)).resumeGates).markChanged .vehicle k number 0).modVsg fun g =>
        { g with reference := some (v, s.now), interrupted := false }) htrain)
  exact congrArg (fun u : State => ((u.resumeGates).markChanged .vehicle k number 0).modVsg fun g =>
        { g with reference := some (v, s.now), interrupted := false }) (State.filled_filled k (.opened (Header.speedRange v h)) _ (s.withAxt _))


/-! ## The start up to the site's entry (R37, R45, R151) -/

/-- The number of the train that a start opens (R151). -/
def State.newNumber (s : State) : Nat := if s.rps.trainCounter < 65535 then s.rps.trainCounter + 1 else 1

theorem nextNumber_eq (n : Nat) : nextNumber n = if n < 65535 then n + 1 else 1 := by
  unfold nextNumber
  split <;> split <;> omega

/-- The header that a start gives its train: that of R153, with the vehicle that it opens (R45). -/
def State.newHeader (k : Fin 4) (pr : Pair) (s : State) : Header :=
  { Header.start s.newNumber k (travelOf pr true) pr s.ssq.clock (HeaderFlags.start s.noApproach s.axt.continuation) with
    vehicles := 1 }

/-- The tracker's record of the train that a start opens (R37). -/
def State.newTrain (k : Fin 4) (pr : Pair) (s : State) : OpenTrain :=
  .start k s.newNumber pr (s.now + sec (s.cfg .tclear))

/-- The store with slot `k` given to a new train (R151). -/
theorem State.allocate_rps (k : Fin 4) (d0 : Direction) (entry : Pair) (flags : HeaderFlags) (s : State) :
    (s.allocate k d0 entry flags).rps = { s.rps with
      trainCounter := s.newNumber
      slots := s.rps.slots.set k (some { st := .filling, report :=
        { header := Header.start s.newNumber k d0 entry s.ssq.clock flags, axles := [], vehicles := [] } })
      order := s.rps.order.filter (· ≠ k) ++ [k] } := by
  unfold State.allocate State.newNumber
  simp [nextNumber_eq]

/-- A train start up to the site's entry: the slot allocated, tracker, pointers and segmenter started, vehicle 0 opened. -/
theorem State.trainOpened_eq (k : Fin 4) (pr : Pair) (s : State) : s.trainOpened k pr =
    { s.allocate k (travelOf pr true) pr (HeaderFlags.start s.noApproach s.axt.continuation) with
      axt := { s.axt with continuation := false, train := some (s.newTrain k pr) }
      vsg := { Vsg.reset with vehicles := [{ first := 0, deficitMark := false }] }
      units := vmap (fun u => { u with pointer := 0, staleSeen := false }) s.units
      tsu := { s.tsu with pointer := 0 }
      rps := { s.rps with
        trainCounter := s.newNumber
        slots := s.rps.slots.set k (some { st := .filling, report := .opened (s.newHeader k pr) })
        order := s.rps.order.filter (· ≠ k) ++ [k] } } := by
  have hrps := State.allocate_rps k (travelOf pr true) pr (HeaderFlags.start s.noApproach s.axt.continuation) s
  obtain ⟨hnow, -, haxt, -, -, -, hunits, htsu, hactive, -⟩ :=
    State.allocate_frame k (travelOf pr true) pr (HeaderFlags.start s.noApproach s.axt.continuation) s
  unfold State.trainOpened
  generalize s.allocate k (travelOf pr true) pr (HeaderFlags.start s.noApproach s.axt.continuation) = u at *
  have hcfg : u.cfg = s.cfg := State.cfg_congr hactive
  have htrain : OpenTrain.start k u.rps.trainCounter pr (u.now + sec (u.cfg .tclear)) = s.newTrain k pr := by
    rw [hrps, hnow, hcfg]
    rfl
  dsimp only
  rw [htrain]
  have hfills : (((u.withAxt { u.axt with continuation := false, train := some (s.newTrain k pr) }).resetCapturePointers.modTsu
      fun u => { u with pointer := 0 }).modVsg fun _ => { Vsg.reset with vehicles := [{ first := 0, deficitMark := false }] }).Fills
        (s.newTrain k pr) { header := Header.start s.newNumber k (travelOf pr true) pr s.ssq.clock
                              (HeaderFlags.start s.noApproach s.axt.continuation)
                            axles := [], vehicles := [] } := by
    refine ⟨rfl, ?_, rfl⟩
    show u.rps.slots[k] = _
    rw [hrps]
    simp
  refine (hfills.writeTrain (·.openVehicle 0 0)).trans ?_
  unfold State.filled State.resetCapturePointers State.modTsu State.modVsg State.withAxt
  dsimp only
  rw [hrps, haxt, hunits, htsu]
  simp only [State.newTrain, OpenTrain.start, Vector.set_set]
  rfl

theorem State.trainOpened_fills (k : Fin 4) (pr : Pair) (s : State) :
    (s.trainOpened k pr).Fills (s.newTrain k pr) (.opened (s.newHeader k pr)) where
  train := by rw [State.trainOpened_eq]
  slot := by
    rw [State.trainOpened_eq]
    simp [State.newTrain, OpenTrain.start]
  number := rfl

end Sys2Proof.Machine
end

section
/-! SUPPORT. InwardCrossingStartsATrain: the site's entry to PASSAGE, and the start as a whole (R13, R37). -/

namespace Sys2Proof.Machine

theorem State.enter_passage (cause : Cause) (s : State) : s.enter .passage cause = s.changeSite .passage cause := by
  have hsite : (s.changeSite .passage cause).ssq.site = .passage := State.changeSite_site ..
  have hsettle : (s.changeSite .passage cause).settleHolds = false := by
    unfold State.settleHolds
    rw [hsite]; rfl
  have hstay : (s.changeSite .passage cause).settleIfBegun s.settleHolds = s.changeSite .passage cause := by
    unfold State.settleIfBegun
    rw [hsettle, Bool.and_false]
    rfl
  rw [State.enter, hstay]
  exact State.levelCarry_of_not (State.not_carries_of_site (.inr (.inr hsite)))

/-- The move to PASSAGE: the streams run, the call is withdrawn, the latch is cleared (R3, R12, R13). -/
theorem State.NodesOk.movedTo_passage {s : State} (h : s.NodesOk) : s.movedTo .passage =
    (if s.ssq.site.streams = true then s.uncalled.inSite .passage else (s.uncalled.inSite .passage).resumed).modSsq
      fun q => { q with latch := false } := by
  rw [h.movedTo]
  cases s.ssq.site.streams
  · rfl
  · rfl

theorem State.trainOpened_frame (k : Fin 4) (pr : Pair) (s : State) : (s.trainOpened k pr).now = s.now ∧
    (s.trainOpened k pr).ssq = s.ssq ∧ (s.trainOpened k pr).nodes = s.nodes ∧ (s.trainOpened k pr).channels = s.channels ∧
    (s.trainOpened k pr).mpc.active = s.mpc.active ∧ (s.trainOpened k pr).mpc.pendingCfg = s.mpc.pendingCfg := by
  simp [State.trainOpened]

/-- A train start in slot `k`: the site enters PASSAGE, and the header takes the mark of a calibration in flight (R37). -/
theorem State.startTrainIn_eq_filled (k : Fin 4) (pr : Pair) (s : State) : s.startTrainIn k pr =
    ((s.trainOpened k pr).changeSite .passage .trainStart).filled k (.opened { s.newHeader k pr with
      flags := { (s.newHeader k pr).flags with calAborted := s.calibrationInFlight } }) := by
  have hflight : (s.trainOpened k pr).calibrationInFlight = s.calibrationInFlight := by
    rw [State.trainOpened_eq]; rfl
  have hfills : ((s.trainOpened k pr).changeSite .passage .trainStart).Fills (s.newTrain k pr) (.opened (s.newHeader k pr)) := by
    obtain ⟨htrain, hslot, hnumber⟩ := State.trainOpened_fills k pr s
    exact ⟨by simpa using htrain, by simpa using hslot, hnumber⟩
  rw [State.startTrainIn_eq, hflight, State.enter_passage, hfills.writeTrain]
  cases s.calibrationInFlight
  · exact hfills.filled_self.symm
  · rfl

theorem State.mem_calibrationInFlight {s : State} : s.calibrationInFlight = true ↔ ∃ z, (s.tsu.scanners.get z).progress ≠ .idle := by
  unfold State.calibrationInFlight
  simp only [Bool.or_eq_true, bne_iff_ne]
  exact ⟨fun h => h.elim (⟨.a, ·⟩) (⟨.b, ·⟩), fun ⟨z, h⟩ => by cases z; exacts [.inl h, .inr h]⟩

/-- The state in which an accepted inward crossing with no train open leaves its edge (R22). -/
def State.crossed (t : Nat) (pr : Pair) (s : State) : State :=
  (s.advance t).modPair pr fun _ => (s.axt.pairs.get pr).completed (max s.now t)

/-- A train start with its first crossing (R37). -/
theorem exec_trainStart {s : State} {w : WheelSensor} {t : Nat} {pr : Pair} {v : Nat} {k : Fin 4} (hs : s.ssq.site ≠ .offline)
    (ht : s.axt.train = none) (hc : s.Crosses w t pr true v) (hk : s.chooseSlot = some k) :
    exec (.wheelSensorEdge w t) s = .next (((s.crossed t pr).startTrainIn k pr).openCrossing pr true v) := by
  have hk' : (s.crossed t pr).chooseSlot = some k := hk
  rw [exec_of_crosses hs hc, ht]
  show Host.Outcome.next ((s.crossed t pr).trainStart pr v) = _
  unfold State.trainStart
  rw [hk']

/-- The start as a whole: the entry to PASSAGE, then the crossing of axle 0. -/
theorem State.trainStart_eq (k : Fin 4) (pr : Pair) (v : Nat) (s : State) : (s.startTrainIn k pr).openCrossing pr true v =
    ((((((s.trainOpened k pr).changeSite .passage .trainStart).modTrain fun t => t.crossedFirst pr v s.now (s.haltTime v)).filled k
      (.firstAxle v s.ssq.clock { s.newHeader k pr with
        flags := { (s.newHeader k pr).flags with calAborted := s.calibrationInFlight } })).resumeGates).markChanged .vehicle k
      s.newNumber 0).modVsg fun g => { g with reference := some (v, s.now), interrupted := false } := by
  obtain ⟨b, hb⟩ : ∃ b, b = (s.trainOpened k pr).changeSite .passage .trainStart := ⟨_, rfl⟩
  have hopened := State.trainOpened_eq k pr s
  have hfills : b.Fills (s.newTrain k pr) (.opened (s.newHeader k pr)) := by
    obtain ⟨htrain, hslot, hnumber⟩ := State.trainOpened_fills k pr s
    rw [hb]
    exact ⟨by simpa using htrain, by simpa using hslot, hnumber⟩
  have hvsg : b.vsg.vehicles = [{ first := 0, deficitMark := false }] := by
    rw [hb, (State.changeSite_frame ..).2.1, hopened]
  obtain ⟨hanow, hassq, -, -, haactive, -⟩ := State.trainOpened_frame k pr s
  have hnow : b.now = s.now := by rw [hb, (State.changeSite_frame ..).1, hanow]
  have hclock : b.ssq.clock = s.ssq.clock := by rw [hb, (State.changeSite_ssq ..).1, hassq]
  have hhalt : b.haltTime v = s.haltTime v := by
    have hactive : b.mpc.active = s.mpc.active := by rw [hb, ← haactive]; simp
    unfold State.haltTime
    rw [State.cfg_congr hactive]
  obtain ⟨h, hh⟩ : ∃ h, h = { s.newHeader k pr with
    flags := { (s.newHeader k pr).flags with calAborted := s.calibrationInFlight } } := ⟨_, rfl⟩
  obtain ⟨c, hc⟩ : ∃ c, c = b.filled k (.opened h) := ⟨_, rfl⟩
  have hfillc : c.Fills (s.newTrain k pr) (.opened h) := by
    have hnum : h.number = s.newNumber := by rw [hh]; rfl
    rw [hc]
    exact hfills.filled hnum
  have hvsgc : c.vsg.vehicles = [{ first := 0, deficitMark := false }] := by rw [hc]; exact hvsg
  have hnowc : c.now = s.now := by rw [hc]; exact hnow
  have hclockc : c.ssq.clock = s.ssq.clock := by rw [hc]; exact hclock
  have hhaltc : c.haltTime v = s.haltTime v := by rw [hc]; exact hhalt
  rw [State.startTrainIn_eq_filled, ← hb, ← hh, ← hc, State.openCrossing_first (t := s.newTrain k pr) rfl hfillc hvsgc, hnowc,
    hclockc, hhaltc, hc]
  exact congrArg (fun u : State => ((u.resumeGates).markChanged .vehicle k s.newNumber 0).modVsg fun g =>
    { g with reference := some (v, s.now), interrupted := false }) (State.filled_filled k _ _
      (b.modTrain fun t => t.crossedFirst pr v s.now (s.haltTime v)))

/-- The entry to PASSAGE leaves the tracker, resumes the streams where they were stopped and leaves no calibration in flight. -/
theorem State.changeSite_passage {s : State} (hn : s.NodesOk) (cause : Cause) :
    (s.changeSite .passage cause).axt = s.axt ∧
      (s.changeSite .passage cause).nodes = (if s.ssq.site.streams = true then s.nodes else s.resumed.nodes) ∧
      (s.changeSite .passage cause).tsu.pointer = s.tsu.pointer ∧
      ∀ z, ((s.changeSite .passage cause).tsu.scanners.get z).progress = .idle := by
  have hidle (z : Side) : (s.uncalled.tsu.scanners.get z).progress = .idle := by
    have hstop (x : Scanner) : (x.stopCalibration).progress = .idle := by
      unfold Scanner.stopCalibration
      split
      · assumption
      · rfl
    cases z
    · exact hstop _
    · exact hstop _
  obtain ⟨-, -, haxt, -, hnodes, -, -, -, htsu, -⟩ := State.noticeBoth_frame 0x40 (siteStatePayload .passage (some s.ssq.site) cause
    (s.movedTo .passage).ssq.disablePending (s.movedTo .passage).ssq.clock) (s.movedTo .passage)
  rw [State.changeSite_eq, haxt, hnodes, htsu, hn.movedTo_passage]
  split
  · exact ⟨rfl, rfl, rfl, hidle⟩
  · exact ⟨rfl, rfl, rfl, fun z => by cases z; exacts [hidle .a, hidle .b]⟩

theorem Ssq.moved_passage (q : Ssq) (now : Nat) (level : Bool) (cfg : Item → Nat) : q.moved .passage now level cfg =
    { q with
      site := .passage, streaming := true, latch := false, armTimer := none, sweepTimer := none, sweepDurTimer := none
      restTimer := none } := by
  simp [Ssq.moved, SiteState.streams]

theorem State.resumed_nodes_congr {s u : State} (hn : u.nodes = s.nodes) (ht : u.now = s.now) (ha : u.mpc.active = s.mpc.active) :
    u.resumed.nodes = s.resumed.nodes := by
  unfold State.resumed
  dsimp only
  rw [hn, ht, State.cfg_congr ha]

theorem travelOf_eq (pr : Pair) (inward : Bool) : travelOf pr inward = travelDirection pr inward := by
  cases pr <;> cases inward <;> rfl

/-- The train's record after its first crossing (R24, R25, R28, R37). -/
theorem State.newTrain_crossed (k : Fin 4) (pr : Pair) (v : Nat) (s : State) :
    (s.newTrain k pr).crossedFirst pr v s.now (s.haltTime v) =
      { slot := k, number := s.newNumber, d0 := travelDirection pr true, entry := pr, motion := .movingFwd
        lastDir := .forward, speed := v, lastSpeed := v, n := 1, h := 1, x := 0
        haltTimer := some (s.now + s.haltAfter v), clearTimer := some (s.now + 1000000 * s.cfg .tclear)
        standTimer := none
        lastCross := ({ west := none, east := none } : PerPair (Option (Nat × Direction))).upd pr
          (fun _ => some (s.now, travelDirection pr true)) } := by
  have hrel : relativeTo (travelDirection pr true) (travelDirection pr true) = .forward := if_pos rfl
  unfold OpenTrain.crossedFirst OpenTrain.cross State.newTrain OpenTrain.start
  dsimp only
  rw [travelOf_eq, hrel, State.haltTime_eq, sec_eq]
  rfl

theorem AxleRecord.start_isNew (index : Nat) (time : Clock) (v : Nat) (spacing : Option (Nat × SpacingClass)) (vehicle : Option Nat) :
    (AxleRecord.start index time v spacing vehicle).IsNew index time v spacing vehicle where
  index := rfl
  time := rfl
  speed := rfl
  spacing := rfl
  vehicle := rfl
  pass := rfl
  cribs y := by cases y <;> exact ⟨rfl, rfl⟩
  gates y := by cases y <;> rfl
  gate := rfl
  wheels y := by cases y <;> rfl
  results := rfl
  bearings y := by cases y <;> rfl
  peaks := ⟨rfl, rfl⟩
  counted y := by cases y <;> rfl
  marks := ⟨rfl, rfl⟩

/-- NO_APPROACH is found where the site is in service and not in ARMED, and the latch is clear (R38). -/
theorem State.noApproach_eq {s : State} (hoff : s.ssq.site ≠ .offline) (hpass : s.ssq.site ≠ .passage) :
    s.noApproach = (decide (s.ssq.site ≠ .armed) && !s.ssq.latch) := by
  unfold State.noApproach
  cases hs : s.ssq.site
  case offline => exact absurd hs hoff
  case passage => exact absurd hs hpass
  all_goals cases s.ssq.latch <;> rfl

/-! ## What the start announces (R151, R152, R167, R175) -/

/-- A notice that is made in one case only, on a port with room for it. -/
theorem PortMachine.noticeIf {pm : PortMachine} {n : Nat} (h : pm.Room (n + 1)) {c : Prop} [Decidable c] (kind : Byte)
    (payload : List Byte) :
    (if c then pm.notice kind payload else pm) = pm.sends (if c then [noticeFrame kind payload] else []) := by
  split
  · exact PortMachine.notice_eq_sends h kind payload
  · exact (PortMachine.sends_nil h.orderly).symm

theorem PortMachine.Room.sendsIf {pm : PortMachine} {n : Nat} (h : pm.Room (n + 1)) {c : Prop} [Decidable c] (f : OutFrame) :
    (pm.sends (if c then [f] else [])).Room n := by
  split
  · exact h.sends f
  · rw [PortMachine.sends_nil h.orderly]
    exact h.mono (Nat.le_succ n)

/-- The number of the report that a train start discards (R152). -/
def State.discarded (k : Fin 4) (s : State) : Option Nat := (s.rps.slots[k]).bind fun h =>
  if h.st = .complete ∨ h.st = .closing then some h.report.header.number else none

/-- The alert of that discard (R152). -/
def State.discardAlert (k : Fin 4) (s : State) : Option AlertDraft :=
  (s.discarded k).map fun old : Nat => noticeAlert .slotOverwritten (some (s.newNumber, k)) none old

theorem State.discardAlert_level {k : Fin 4} {s : State} (x : AlertDraft) (hx : s.discardAlert k = some x) : x.level = .notice := by
  obtain ⟨old, -, rfl⟩ := Option.map_eq_some_iff.mp hx
  rfl

theorem State.discardAlert_ne_none {k : Fin 4} {s : State} : s.discardAlert k ≠ none ↔ s.discarded k ≠ none := by
  rw [State.discardAlert, ne_eq, Option.map_eq_none_iff]

theorem overwrittenAlert_eq (k : Fin 4) (s : State) :
    overwrittenAlert (nextNumber s.rps.trainCounter) k s.rps.slots[k] = (s.discardAlert k).toList := by
  unfold overwrittenAlert State.discardAlert State.discarded
  rw [nextNumber_eq]
  cases s.rps.slots[k] with
  | none => rfl
  | some h =>
    dsimp only [Option.bind_some]
    split <;> rfl

/-- At most one alert of level NOTICE: its entry, and its notice where it ends the empty level. -/
theorem State.postAll_one (d : Option AlertDraft) (hd : ∀ x, d = some x → x.level = .notice) (s : State) :
    (s.postAll d.toList).atq = d.toList.foldl (Atq.filed s.ssq.clock) s.atq ∧
      ∀ p, (s.postAll d.toList).mpc.ports.get p =
        if d ≠ none ∧ s.atq.queues.notice = [] ∧ s.maskHas p .notice = true then (s.mpc.ports.get p).notice 0x43 [0, 1]
        else s.mpc.ports.get p := by
  cases d with
  | none => exact ⟨rfl, fun p => (if_neg (fun h => h.1 rfl)).symm⟩
  | some x =>
    refine ⟨State.post_atq x s, fun p => ?_⟩
    refine (State.post_port x s p).trans ?_
    rw [hd x rfl]
    exact if_congr (by simp [PerLevel.get]) rfl rfl

/-- What the store's allocation sends a port: the end of a stream of the slot, the announcement of a discarded report's alert, and
TRAIN STARTED (R151). -/
theorem State.allocate_port {s : State} {n : Nat} (hr : s.Room (n + 3)) (k : Fin 4) (d0 : Direction) (entry : Pair)
    (flags : HeaderFlags) (p : Port) : (s.allocate k d0 entry flags).mpc.ports.get p =
      ((s.mpc.ports.get p).unread k).sends ((s.mpc.ports.get p).gone k
        ++ (if s.discarded k ≠ none ∧ s.atq.queues.notice = [] ∧ s.maskHas p .notice = true then [noticeFrame 0x43 [0, 1]] else [])
        ++ [noticeFrame 0x41 (trainStartedPayload (Header.start s.newNumber k d0 entry s.ssq.clock flags))]) ∧
      ((s.allocate k d0 entry flags).mpc.ports.get p).Room n := by
  have hroom : (s.mpc.ports.get p).Room (n + 3) := by cases p; exacts [hr.1, hr.2]
  obtain ⟨u, hu⟩ : ∃ u, u = ((s.endStreamsOf k).modEvu (·.leaveSweep k)).modRps fun r =>
    { r with trainCounter := s.newNumber, slots := r.slots.set k none } := ⟨_, rfl⟩
  have hclock : u.ssq.clock = s.ssq.clock := by rw [hu]; exact congrArg Ssq.clock (State.endStreamsOf_frame k s).2.1
  have huport : u.mpc.ports.get p = ((s.mpc.ports.get p).unread k).sends ((s.mpc.ports.get p).gone k) := by
    rw [hu]
    exact (State.endStreamsOf_port k s p).trans (PortMachine.slotTaken_eq hroom k)
  have huroom : (u.mpc.ports.get p).Room (n + 2) := by
    rw [huport, ← PortMachine.slotTaken_eq hroom]
    exact hroom.slotTaken k
  have hatq : u.atq = s.atq := by rw [hu]; simp
  have hmask : u.maskHas p .notice = s.maskHas p .notice := State.maskHas_congr (by rw [hu]; simp) ..
  have hposted := (State.postAll_one (s.discardAlert k) State.discardAlert_level u).2 p
  rw [hatq, hmask] at hposted
  replace hposted := (hposted.trans (if_congr (and_congr_left' State.discardAlert_ne_none) rfl rfl)).trans
    (PortMachine.noticeIf huroom 0x43 [0, 1])
  have hpostedRoom := huroom.sendsIf (c := s.discarded k ≠ none ∧ s.atq.queues.notice = [] ∧ s.maskHas p .notice = true)
    (noticeFrame 0x43 [0, 1])
  obtain ⟨x, hx⟩ : ∃ x, x = u.postAll (s.discardAlert k).toList := ⟨_, rfl⟩
  have hxclock : x.ssq.clock = s.ssq.clock := by
    rw [hx, ← hclock]
    exact congrArg Ssq.clock (State.postAll_frame ..).2.1
  rw [← hx, huport, PortMachine.sends_sends] at hposted
  have hxroom : (x.mpc.ports.get p).Room (n + 1) := by
    rw [hposted, ← PortMachine.sends_sends, ← huport]
    exact hpostedRoom
  have hnotice := PortMachine.notice_eq_sends hxroom 0x41
    (trainStartedPayload (Header.start s.newNumber k d0 entry s.ssq.clock flags))
  have hrun : (s.allocate k d0 entry flags).mpc.ports.get p =
      (x.mpc.ports.get p).notice 0x41 (trainStartedPayload (Header.start s.newNumber k d0 entry s.ssq.clock flags)) := by
    unfold State.allocate
    dsimp only
    rw [overwrittenAlert_eq, State.noticeBoth_port, nextNumber_eq, ← hxclock, hx, hu]
    rfl
  rw [hrun, hnotice, hposted, PortMachine.sends_sends]
  refine ⟨rfl, ?_⟩
  rw [← PortMachine.sends_sends, ← hposted]
  exact hxroom.sends _

theorem State.allocate_atq (k : Fin 4) (d0 : Direction) (entry : Pair) (flags : HeaderFlags) (s : State) :
    (s.allocate k d0 entry flags).atq = (s.discardAlert k).toList.foldl (Atq.filed s.ssq.clock) s.atq := by
  unfold State.allocate
  dsimp only
  rw [overwrittenAlert_eq]
  simp only [State.noticeBoth_frame]
  refine ((State.postAll_one (s.discardAlert k) State.discardAlert_level _).1).trans ?_
  simp

theorem State.allocate_evu (k : Fin 4) (d0 : Direction) (entry : Pair) (flags : HeaderFlags) (s : State) :
    (s.allocate k d0 entry flags).evu = s.evu.leaveSweep k := by
  unfold State.allocate
  simp

/-- The ports, the alerts and the sweep's queue of a train start are those of its allocation. -/
theorem State.trainOpened_allocated (k : Fin 4) (pr : Pair) (s : State) :
    (s.trainOpened k pr).atq = (s.discardAlert k).toList.foldl (Atq.filed s.ssq.clock) s.atq ∧
      (s.trainOpened k pr).evu = s.evu.leaveSweep k ∧
      (s.trainOpened k pr).mpc =
        (s.allocate k (travelOf pr true) pr (HeaderFlags.start s.noApproach s.axt.continuation)).mpc := by
  rw [State.trainOpened_eq]
  exact ⟨State.allocate_atq k (travelOf pr true) pr (HeaderFlags.start s.noApproach s.axt.continuation) s,
    State.allocate_evu k (travelOf pr true) pr (HeaderFlags.start s.noApproach s.axt.continuation) s, rfl⟩

theorem trainStartedPayload_eq (number : Nat) (k : Fin 4) (pr : Pair) (time : Clock) (noApproach continuation : Bool) :
    trainStartedPayload (Header.start number k (travelOf pr true) pr time (HeaderFlags.start noApproach continuation)) =
      u8 k.val ++ u16 number ++ [(match travelDirection pr true with | .east => 0 | .west => 1 : Byte)] ++ u32 time.toNat
        ++ flag noApproach ++ flag continuation := by
  cases pr <;> rfl

/-- Settles O32: the state of the start is that of `State.trainStart_eq`, read field by field; what it announces is what the
allocation and the site's entry send each port. -/
theorem inwardCrossingStartsATrain : Obligations.InwardCrossingStartsATrain := by
  have inService {s : State} (hok : s.SiteOk) (ht : s.axt.train = none) : s.ssq.site ≠ .passage := fun h => by
    have := hok.passage.mp h
    rw [ht] at this
    cases this
  refine ⟨fun w t s pr v k hok hn hs ht hc hk => ?_, fun w t s pr v k hok hn hr hs ht hc hk => ?_⟩
  case refine_1 =>
    intro now number
    have hpass := inService hok ht
    obtain ⟨b, hb⟩ : ∃ b, b = ((s.crossed t pr).trainOpened k pr).changeSite .passage .trainStart := ⟨_, rfl⟩
    obtain ⟨h, hh⟩ : ∃ h, h = { (s.crossed t pr).newHeader k pr with
      flags := { ((s.crossed t pr).newHeader k pr).flags with calAborted := (s.crossed t pr).calibrationInFlight } } := ⟨_, rfl⟩
    have hopened := State.trainOpened_eq k pr (s.crossed t pr)
    obtain ⟨hanow, hassq, hanodes, hachannels, haactive, hapending⟩ := State.trainOpened_frame k pr (s.crossed t pr)
    have hna : ((s.crossed t pr).trainOpened k pr).NodesOk :=
      (State.KeepsNodes.trainOpened ..).nodesOk (((State.KeepsSite.advance t s).trans (.modPair ..)).nodes.nodesOk hn)
    obtain ⟨haxt, hnodes, hpointer, hidle⟩ := State.changeSite_passage hna .trainStart
    obtain ⟨hnow, hvsg, hchannels, hunits, hevu, hrps, -, hactive, hpending, -⟩ :=
      State.changeSite_frame .passage .trainStart ((s.crossed t pr).trainOpened k pr)
    have hssq := State.changeSite_ssq_eq .passage .trainStart ((s.crossed t pr).trainOpened k pr)
    rw [← hb] at haxt hnodes hpointer hidle hnow hvsg hchannels hunits hevu hrps hactive hpending hssq
    have hrun := exec_trainStart hs ht hc hk
    rw [State.trainStart_eq, ← hb, ← hh] at hrun
    refine ⟨_, hrun, ?now, ?ssq, ?pairs, ?train, ?cont, ?vsg, ?units, ?pointer, hidle, ?counter, ?order,
      ?slots, ?nodes, ?active, ?pending, ?channels, { st := .filling, report := .firstAxle v s.ssq.clock h }, ?slot, rfl,
      ⟨_, rfl, ?axle⟩, ⟨_, rfl, rfl, rfl, rfl, rfl, rfl, rfl⟩, ?header, ?noApproach, ?continuation, ?aborted⟩
    case now => exact hnow.trans hanow
    case ssq =>
      refine hssq.trans ((Ssq.moved_passage ..).trans ?_)
      rw [hassq]
      rfl
    case pairs => exact congrArg Axt.pairs (haxt.trans (by rw [hopened]))
    case train =>
      have htrain : b.axt.train = some ((s.crossed t pr).newTrain k pr) := by rw [haxt, hopened]
      refine (congrArg (Option.map _) htrain).trans ?_
      exact congrArg some (State.newTrain_crossed k pr v (s.crossed t pr))
    case cont => exact congrArg Axt.continuation (haxt.trans (by rw [hopened]))
    case vsg =>
      have hb : b.vsg = { Vsg.reset with vehicles := [{ first := 0, deficitMark := false }] } := by rw [hvsg, hopened]
      refine (congrArg (fun g : Vsg => { g with reference := some (v, now), interrupted := false }) hb).trans ?_
      rfl
    case units =>
      intro c
      have hb : b.units = vmap (fun u => { u with pointer := 0, staleSeen := false }) s.units := by rw [hunits, hopened]; rfl
      show (b.units[c]).pointer = 0 ∧ (b.units[c]).staleSeen = false ∧ (b.units[c]).capture = _
      rw [hb, vmap_eq_map, Fin.getElem_fin, Vector.getElem_map]
      exact ⟨rfl, rfl, rfl⟩
    case pointer => exact hpointer.trans (by rw [hopened])
    case counter => exact (congrArg Rps.trainCounter hrps).trans (by rw [hopened]; rfl)
    case order => exact (congrArg Rps.order hrps).trans (by rw [hopened]; rfl)
    case slots =>
      intro j hj
      have hjk : k.val ≠ j.val := fun h => hj (Fin.ext h.symm)
      have hb : b.rps.slots[j] = s.rps.slots[j] := by
        rw [hrps, hopened]
        exact Vector.getElem_set_ne k.isLt j.isLt hjk
      exact (Vector.getElem_set_ne k.isLt j.isLt hjk).trans hb
    case nodes =>
      refine hnodes.trans ?_
      have hstream : ((s.crossed t pr).trainOpened k pr).ssq.site.streams = s.ssq.streaming := by
        rw [hassq, hn.streaming]; rfl
      rw [hstream, hanodes]
      exact congrArg (fun n => if s.ssq.streaming = true then s.nodes else n) (State.resumed_nodes_congr hanodes hanow haactive)
    case active => exact hactive.trans haactive
    case pending => exact hpending.trans hapending
    case channels => exact hchannels.trans hachannels
    case slot =>
      show (b.rps.slots.set k (some { st := .filling, report := .firstAxle v s.ssq.clock h }))[k] = _
      simp
    case axle => exact AxleRecord.start_isNew ..
    case header =>
      rw [hh]
      exact ⟨rfl, rfl, travelOf_eq pr true, rfl, rfl, rfl, rfl, rfl, rfl, rfl, congrArg some (min_self v), congrArg some (max_self v)⟩
    case noApproach =>
      have hno : (s.crossed t pr).noApproach = (decide (s.ssq.site ≠ .armed) && !s.ssq.latch) := State.noApproach_eq hs hpass
      rw [hh]
      show (s.crossed t pr).noApproach = true ↔ _
      rw [hno]
      simp
    case continuation => rw [hh]; rfl
    case aborted => rw [hh]; exact State.mem_calibrationInFlight
  case refine_2 =>
    intro number discarded noApproach started pending gone
    have hpass := inService hok ht
    obtain ⟨a, ha⟩ : ∃ a, a = (s.crossed t pr).trainOpened k pr := ⟨_, rfl⟩
    obtain ⟨b, hb⟩ : ∃ b, b = a.changeSite .passage .trainStart := ⟨_, rfl⟩
    obtain ⟨haatq, haevu, hampc⟩ := State.trainOpened_allocated k pr (s.crossed t pr)
    rw [← ha] at haatq haevu hampc
    have hcross : (s.crossed t pr).Room 4 := hr.congr rfl
    have hport (p : Port) := State.allocate_port (n := 1) hcross k (travelOf pr true) pr
      (HeaderFlags.start (s.crossed t pr).noApproach (s.crossed t pr).axt.continuation) p
    have hroom : a.Room 1 := by
      unfold State.Room
      rw [hampc]
      exact ⟨(hport .s).2, (hport .m).2⟩
    have hentered := State.changeSite_eq_entered hroom .passage .trainStart
    obtain ⟨-, -, -, -, hevu, -, hatq, -⟩ := State.changeSite_frame .passage .trainStart a
    rw [← hb] at hentered hevu hatq
    have hrun := exec_trainStart hs ht hc hk
    rw [State.trainStart_eq, ← ha, ← hb] at hrun
    have hsweep : b.evu = s.evu.leaveSweep k := hevu.trans haevu
    refine ⟨_, hrun, fun p => ?ports, ?atq, ?queue, ?lanes, ?sweep⟩
    case ports =>
      have hasite : a.ssq = s.ssq := by rw [ha]; exact (State.trainOpened_frame ..).2.1
      have hb' : b.mpc.ports.get p = (a.mpc.ports.get p).sends [siteNotice .passage s.ssq.site .trainStart s.ssq.disablePending
          s.ssq.clock] := by
        rw [hentered, State.entered_ports, hasite]
        cases p <;> rfl
      refine hb'.trans ?_
      have hno : (s.crossed t pr).noApproach = noApproach := State.noApproach_eq hs hpass
      have hpayload : noticeFrame 0x41 (trainStartedPayload (Header.start (s.crossed t pr).newNumber k (travelOf pr true) pr
          (s.crossed t pr).ssq.clock (HeaderFlags.start (s.crossed t pr).noApproach (s.crossed t pr).axt.continuation))) = started := by
        rw [trainStartedPayload_eq, hno]
        rfl
      have hpending : (if (s.crossed t pr).discarded k ≠ none ∧ (s.crossed t pr).atq.queues.notice = [] ∧
          (s.crossed t pr).maskHas p .notice = true then [noticeFrame 0x43 [0, 1]] else []) = pending p := by
        cases p <;> rfl
      rw [hampc, (hport p).1, PortMachine.sends_sends, hpayload, hpending, List.append_assoc]
      rfl
    case atq =>
      refine (hatq.trans haatq).trans ?_
      have hd : (s.crossed t pr).discardAlert k =
          discarded.map fun old : Nat => noticeAlert .slotOverwritten (some (number, k)) none old := rfl
      rw [hd]
      cases discarded <;> rfl
    case queue =>
      refine (congrArg Evu.sweepQueue hsweep).trans ?_
      unfold Evu.leaveSweep
      split <;> rfl
    case lanes =>
      refine (congrArg Evu.lanes hsweep).trans ?_
      unfold Evu.leaveSweep
      split <;> rfl
    case sweep =>
      show if s.evu.sweepQueue.head? = some k then b.evu.sweepPos = _ ∧ b.evu.sweepWaiting = _ ∧ b.evu.sweepResting = _ ∧
        b.evu.rewalk = _ else b.evu.sweepPos = _ ∧ b.evu.sweepWaiting = _ ∧ b.evu.sweepResting = _ ∧ b.evu.rewalk = _
      rw [hsweep]
      unfold Evu.leaveSweep
      split
      · exact ⟨rfl, rfl, rfl, rfl⟩
      · exact ⟨rfl, rfl, rfl, rfl⟩

end Sys2Proof.Machine
end

section
/-! SUPPORT. Refutations of SweepStepWalksTheReport and TrainClosure. Both say that a request made by the step stands, under its own
lane, in the lane or in an evaluation (`State.Requested`). Neither statement's hypotheses keep a request of another lane out of a
lane: a request that meets such a one is merged into it (R98), and the grant of that one is an evaluation of the other lane. -/

namespace Sys2Proof.Machine

/-! ## SWEEP_STEP beside a mislaid request -/

/-- An axle record whose rail A waits for an evaluation. -/
def dirtyAxle : AxleRecord :=
  let x := AxleRecord.start 0 0 10000 none none
  { x with cribs := { x.cribs with a := { x.cribs.a with dirty := true } } }

/-- The CLOSING report of train 1 in slot 0, of that axle alone. -/
def dirtyClosing : HeldSlot :=
  { st := .closing
    report := { header := Header.start 1 0 .east .west 0 (HeaderFlags.start false false), axles := [dirtyAxle], vehicles := [] } }

/-- The sweep stands at rail A of the axle; in lane A waits a request for that target that bears lane B. -/
def mislaidSweep : State := { State.reset with
  rps := { Rps.reset with slots := (Vector.replicate 4 none).set 0 (some dirtyClosing) }
  evu := { Evu.reset with
    sweepQueue := [0]
    lanes := { Evu.reset.lanes with a := [{ lane := .b, slot := 0, number := 1, target := 0, urgent := false }] } } }

theorem mislaidSweep_slotsOk : mislaidSweep.SlotsOk where
  filling k := ⟨fun h => absurd h (by revert k; decide), fun ⟨_, ht, _⟩ => nomatch ht⟩
  number _ _ ht := nomatch ht
  queue := by decide
  once := by decide
  captures k c hc := absurd hc (by revert k; simp [mislaidSweep, State.reset, CaptureUnit.reset])
  gates h := nomatch h
  gate _ hp := nomatch hp

/-- The step leaves lane A empty, and an evaluation of lane B. -/
theorem mislaidSweep_step : (match exec .sweepStep mislaidSweep with
    | .next u => u.evu.lanes.a.isEmpty && u.evu.evals.toList.all fun e => e.all fun ev => ev.req.lane != .a
    | _ => false) = true := by
  decide +kernel

/-- No request stands in an empty lane with no evaluation of that lane. -/
theorem State.not_requested {u : State} {l : Lane} {k : Fin 4} {number target : Nat} {urgent : Prop}
    (hl : u.evu.lanes.get l = []) (he : (u.evu.evals.toList.all fun e => e.all fun ev => ev.req.lane != l) = true) :
    ¬u.Requested l k number target urgent := by
  rintro (⟨x, hx, -⟩ | ⟨e, ev, hev, hlane, -⟩)
  · rw [hl] at hx
    cases hx
  · have hmem : some ev ∈ u.evu.evals.toList := by
      rw [← hev]
      exact Vector.mem_toList_iff.mpr (Vector.getElem_mem e.isLt)
    have := List.all_eq_true.mp he _ hmem
    simp [hlane] at this

/-- Refutes O51: the sweep's request is merged into the mislaid one, whose grant is an evaluation of lane B. -/
theorem not_sweepStepWalksTheReport : ¬ Obligations.SweepStepWalksTheReport := by
  intro h
  have hidle : ∀ e : Fin 2, mislaidSweep.evu.evals[e] = none := by decide
  have hstep := h.1 mislaidSweep 0 dirtyClosing mislaidSweep_slotsOk rfl rfl
  obtain ⟨-, -, -, -, hrequested, -⟩ := hstep
  obtain ⟨u, hu, -, -, -, -, -, hreq, -⟩ := hrequested rfl (by rintro ⟨j, hj, -⟩; cases hj) rfl
    (fun ⟨e, ev, hev, _⟩ => nomatch (hidle e).symm.trans hev) (by decide)
  have hlast := mislaidSweep_step
  rw [hu] at hlast
  obtain ⟨hlane, hevals⟩ := Bool.and_eq_true_iff.mp hlast
  exact State.not_requested (u := u) (l := .a) (List.isEmpty_iff.mp hlane) hevals hreq

/-! ## A train closure beside a mislaid request -/

/-- An open train of one axle that has left (X = H), its clear timer run down. -/
def leavingTrain : OpenTrain :=
  { OpenTrain.start 0 1 .west 0 with speed := 10000, lastSpeed := 10000, n := 1, h := 1, x := 1 }

/-- Its FILLING report, of its axle and its open vehicle. -/
def leavingFilling : HeldSlot :=
  { st := .filling
    report := { header := Header.start 1 0 .east .west 0 (HeaderFlags.start false false)
                axles := [AxleRecord.start 0 0 10000 none (some 0)]
                vehicles := [{ VehicleRecord.start 0 0 with count := 1 }] } }

/-- The passage of that train; in the vehicle lane waits a request for its vehicle's index that bears lane A. -/
def mislaidPassage : State := { State.reset.changeSite .passage .trainStart with
  axt := { Axt.reset with train := some leavingTrain }
  vsg := { Vsg.reset with vehicles := [{ first := 0, deficitMark := false }] }
  rps := { Rps.reset with slots := (Vector.replicate 4 none).set 0 (some leavingFilling) }
  evu := { Evu.reset with
    lanes := { Evu.reset.lanes with vehicle := [{ lane := .a, slot := 0, number := 1, target := 0, urgent := false }] } } }

theorem mislaidPassage_nodesOk : mislaidPassage.NodesOk := by
  have h := State.changeSite_nodesOk resetMeetsTheConditions.2.1 .passage .trainStart
  exact ⟨h.streaming, h.gauge, h.scanner, h.armed, h.shutter, h.timer, h.gaugeLoss, h.scanLoss⟩

theorem mislaidPassage_siteOk : mislaidPassage.SiteOk where
  passage := by decide
  arm := by decide
  sweep := by decide
  duration := by decide
  rest := by decide
  latch := by decide
  offLatch := by decide
  disabling := by decide
  streaming := by decide
  level := by decide

theorem mislaidPassage_slotsOk : mislaidPassage.SlotsOk where
  filling k := by
    have hheld : (mislaidPassage.rps.slots[k]).any (fun h => h.st == .filling) = true ↔ k = 0 := by revert k; decide
    rw [hheld]
    refine ⟨fun hk => ⟨leavingTrain, rfl, hk.symm⟩, fun ⟨t, ht, hk⟩ => ?_⟩
    cases ht
    exact hk.symm
  number t h ht hh := by
    cases ht
    have hheld : some leavingFilling = some h := hh
    cases hheld
    rfl
  queue := by decide
  once := by decide
  captures k c hc := absurd hc (by revert k; simp [mislaidPassage, State.reset, CaptureUnit.reset])
  gates _ := rfl
  gate p hp := by
    have hnone : mislaidPassage.tsu.pair = none := by decide
    rw [hnone] at hp
    cases hp

/-- The closure leaves the vehicle lane empty, and an evaluation of lane A. -/
theorem mislaidPassage_closure : (match exec .clearTimerExpiry mislaidPassage with
    | .next u => u.evu.lanes.vehicle.isEmpty && u.evu.evals.toList.all fun e => e.all fun ev => ev.req.lane != .vehicle
    | _ => false) = true := by
  decide +kernel

/-- Refutes O40: the request of the vehicle that closes is merged into the mislaid one, whose grant is an evaluation of lane A. -/
theorem not_trainClosure : ¬ Obligations.TrainClosure := by
  intro h
  obtain ⟨hclear, -⟩ := h mislaidPassage leavingTrain leavingFilling mislaidPassage_siteOk mislaidPassage_nodesOk
    mislaidPassage_slotsOk rfl rfl
  obtain ⟨hcomplete, -⟩ := hclear 0 rfl
  obtain ⟨u, hu, -, -, ⟨_, -, -, -, -, -, -, -, hvehicle, -⟩, -⟩ := hcomplete rfl
  obtain ⟨-, -, hrequested⟩ := hvehicle { first := 0, deficitMark := false } [] rfl (by decide)
  have hlast := mislaidPassage_closure
  rw [hu] at hlast
  obtain ⟨hlane, hevals⟩ := Bool.and_eq_true_iff.mp hlast
  exact State.not_requested (u := u) (l := .vehicle) (List.isEmpty_iff.mp hlane) hevals (hrequested (by decide) (by decide))

end Sys2Proof.Machine
end

section
/-! SUPPORT. RestartClearsMeasuring: the reports that RESTART makes COMPLETE (R161). -/

namespace Sys2Proof.Machine

/-- The slots with those of `ks` aborted one after the other (R161). -/
def abortAll (time : Clock) (ks : List (Fin 4)) (slots : Vector (Option HeldSlot) 4) : Vector (Option HeldSlot) 4 :=
  ks.foldl (fun (w : Vector (Option HeldSlot) 4) (k : Fin 4) => w.set k ((w[k]).map (HeldSlot.abort time))) slots

/-- The TRAIN COMPLETE notices of the reports aborted (R159, R161). -/
def completeNotices (time : Clock) (ks : List (Fin 4)) (slots : Vector (Option HeldSlot) 4) : List OutFrame :=
  ks.filterMap fun k => (slots[k]).map fun h => noticeFrame 0x42 (trainCompletePayload (h.abort time).report.header)

/-- `s` with the slots of its store replaced. -/
def State.withSlots (slots : Vector (Option HeldSlot) 4) (s : State) : State := { s with rps := { s.rps with slots := slots } }

theorem setAborted_get (time : Clock) (k j : Fin 4) (slots : Vector (Option HeldSlot) 4) :
    (slots.set k ((slots[k]).map (HeldSlot.abort time)))[j] = if j = k then (slots[j]).map (HeldSlot.abort time) else slots[j] := by
  by_cases hj : j = k
  · subst hj
    rw [if_pos rfl]
    simp
  · have hne : k.val ≠ j.val := fun h => hj (Fin.ext h.symm)
    rw [if_neg hj]
    exact Vector.getElem_set_ne k.isLt j.isLt hne

theorem abortAll_cons (time : Clock) (k : Fin 4) (ks : List (Fin 4)) (slots : Vector (Option HeldSlot) 4) :
    abortAll time (k :: ks) slots = abortAll time ks (slots.set k ((slots[k]).map (HeldSlot.abort time))) := rfl

theorem abortAll_get (time : Clock) {ks : List (Fin 4)} (hd : ks.Nodup) (slots : Vector (Option HeldSlot) 4) (j : Fin 4) :
    (abortAll time ks slots)[j] = if j ∈ ks then (slots[j]).map (HeldSlot.abort time) else slots[j] := by
  induction ks generalizing slots with
  | nil => simp [abortAll]
  | cons k ks ih =>
    obtain ⟨hk, hd⟩ := List.nodup_cons.mp hd
    rw [abortAll_cons, ih hd, setAborted_get]
    by_cases hj : j = k
    · subst hj; simp [hk]
    · simp [hj]

/-- A slot is aborted once, so the notices of the others do not see it (R161). -/
theorem completeNotices_set (time : Clock) {k : Fin 4} {ks : List (Fin 4)} (hk : k ∉ ks) (slots : Vector (Option HeldSlot) 4) :
    completeNotices time ks (slots.set k ((slots[k]).map (HeldSlot.abort time))) = completeNotices time ks slots := by
  refine List.filterMap_congr fun j hj => ?_
  rw [setAborted_get, if_neg (by rintro rfl; exact hk hj)]

theorem completeNotices_one (time : Clock) (k : Fin 4) (slots : Vector (Option HeldSlot) 4) : completeNotices time [k] slots =
    ((slots[k]).map fun h => noticeFrame 0x42 (trainCompletePayload (h.abort time).report.header)).toList := by
  unfold completeNotices
  rw [List.filterMap_cons]
  cases (slots[k]).map fun h => noticeFrame 0x42 (trainCompletePayload (h.abort time).report.header) <;> rfl

theorem State.telling_nil {s : State} {n : Nat} (h : s.Room n) : s.telling [] = s := by
  unfold State.telling
  rw [PortMachine.sends_nil h.1.orderly, PortMachine.sends_nil h.2.orderly]

/-- A slot aborted, with its notice where it holds a report (R161). -/
theorem State.abortSlot_eq {s : State} {n : Nat} (h : s.Room (n + 1)) (k : Fin 4) : s.abortSlot k =
    (s.withSlots (s.rps.slots.set k ((s.rps.slots[k]).map (HeldSlot.abort s.ssq.clock)))).telling
      (completeNotices s.ssq.clock [k] s.rps.slots) := by
  obtain ⟨w, hw⟩ : ∃ w, w = s.withSlots (s.rps.slots.set k ((s.rps.slots[k]).map (HeldSlot.abort s.ssq.clock))) := ⟨_, rfl⟩
  have hr : w.Room (n + 1) := h.congr (by rw [hw]; rfl)
  have hslot : w.rps.slots[k] = (s.rps.slots[k]).map (HeldSlot.abort s.ssq.clock) := by
    rw [hw]; exact (setAborted_get _ k k _).trans (if_pos rfl)
  have habort : s.abortSlot k = w.noticeComplete k := by rw [hw]; rfl
  rw [habort, ← hw, State.noticeComplete, hslot]
  cases hk : s.rps.slots[k] with
  | none =>
    rw [completeNotices_one, hk]
    exact (State.telling_nil hr).symm
  | some r =>
    rw [completeNotices_one, hk]
    exact State.noticeBoth_eq hr _ _

theorem PortMachine.Room.sendsList {fs : List OutFrame} {pm : PortMachine} {n : Nat} (h : pm.Room (n + fs.length)) :
    (pm.sends fs).Room n := by
  induction fs generalizing pm with
  | nil => rw [PortMachine.sends_nil h.orderly]; exact h
  | cons f fs ih =>
    have hsplit : pm.sends (f :: fs) = (pm.sends [f]).sends fs := (PortMachine.sends_sends [f] fs pm).symm
    rw [hsplit]
    exact ih (PortMachine.Room.sends (n := n + fs.length) h f)

theorem State.Room.tellingList {s : State} {fs : List OutFrame} {n : Nat} (h : s.Room (n + fs.length)) :
    (s.telling fs).Room n := ⟨h.1.sendsList, h.2.sendsList⟩

theorem completeNotices_length_le (time : Clock) (ks : List (Fin 4)) (slots : Vector (Option HeldSlot) 4) :
    (completeNotices time ks slots).length ≤ ks.length := List.length_filterMap_le _ _

theorem completeNotices_cons (time : Clock) (k : Fin 4) (ks : List (Fin 4)) (slots : Vector (Option HeldSlot) 4) :
    completeNotices time (k :: ks) slots = completeNotices time [k] slots ++ completeNotices time ks slots := by
  unfold completeNotices
  rw [List.filterMap_cons, List.filterMap_cons]
  cases (slots[k]).map fun h => noticeFrame 0x42 (trainCompletePayload (h.abort time).report.header) <;> rfl

/-- Slots aborted one after the other, with their notices in turn (R161). -/
theorem State.abortSlot_foldl {ks : List (Fin 4)} (hd : ks.Nodup) {s : State} {n : Nat} (h : s.Room (n + ks.length)) :
    ks.foldl (fun s k => s.abortSlot k) s =
      (s.withSlots (abortAll s.ssq.clock ks s.rps.slots)).telling (completeNotices s.ssq.clock ks s.rps.slots) := by
  induction ks generalizing s with
  | nil => exact (State.telling_nil (s := s) h).symm
  | cons k ks ih =>
    obtain ⟨hk, hd⟩ := List.nodup_cons.mp hd
    have hone := State.abortSlot_eq (n := n + ks.length) h k
    have hroom : (s.abortSlot k).Room (n + ks.length) := by
      rw [hone]
      refine State.Room.tellingList (State.Room.mono (n := n + (k :: ks).length) (h.congr rfl) ?_)
      exact Nat.add_le_add_left (completeNotices_length_le _ [k] _) _
    rw [List.foldl_cons, ih hd hroom, abortAll_cons, completeNotices_cons, ← State.telling_telling, hone,
      ← completeNotices_set s.ssq.clock hk s.rps.slots]
    rfl

/-! ## The reports open at a RESTART -/

/-- The CLOSING slots in the order of their closures, then the FILLING slot (R161). -/
def State.openSlots (s : State) : List (Fin 4) := s.evu.sweepQueue ++ ([0, 1, 2, 3] : List (Fin 4)).filter (s.slotIs .filling)

theorem State.slotIs_filling_not_closing {s : State} {k : Fin 4} (h : s.slotIs .filling k = true) : s.slotClosing k = false := by
  unfold State.slotIs at h
  unfold State.slotClosing
  cases hk : s.rps.slots[k] with
  | none => rfl
  | some r =>
    have hst : r.st = .filling := by simpa [hk] using h
    simp [hst]

theorem State.SlotsOk.openSlots_nodup {s : State} (h : s.SlotsOk) : s.openSlots.Nodup := by
  refine List.Nodup.append h.once (List.Nodup.filter _ (by decide)) fun k hq hf => ?_
  have hc := (h.queue k).mp hq
  rw [State.slotIs_filling_not_closing (List.mem_filter.mp hf).2] at hc
  cases hc

theorem State.SlotsOk.mem_openSlots {s : State} (h : s.SlotsOk) (k : Fin 4) :
    k ∈ s.openSlots ↔ s.slotClosing k = true ∨ s.slotIs .filling k = true := by
  have hall : k ∈ ([0, 1, 2, 3] : List (Fin 4)) := by fin_cases k <;> decide
  rw [State.openSlots, List.mem_append, h.queue, List.mem_filter]
  simp only [hall, true_and]

theorem State.SlotsOk.openSlots_length {s : State} (h : s.SlotsOk) : s.openSlots.length ≤ 4 := by
  have hcard := h.openSlots_nodup.length_le_card
  rwa [Fintype.card_fin] at hcard

/-- RESTART at the store (R161). -/
theorem State.SlotsOk.abortSlots_eq {s : State} (h : s.SlotsOk) {n : Nat} (hr : s.Room (n + 4)) : s.abortSlots =
    (s.withSlots (abortAll s.ssq.clock s.openSlots s.rps.slots)).telling
      (completeNotices s.ssq.clock s.openSlots s.rps.slots) := by
  have hqueue : s.evu.sweepQueue.filter s.slotClosing = s.evu.sweepQueue :=
    List.filter_eq_self.mpr fun k hk => (h.queue k).mp hk
  have hopen : s.abortSlots = s.openSlots.foldl (fun s k => s.abortSlot k) s := by
    unfold State.abortSlots State.openSlots
    rw [hqueue]
  rw [hopen]
  exact State.abortSlot_foldl h.openSlots_nodup (hr.mono (Nat.add_le_add_left h.openSlots_length n))

/-- What RESTART leaves of a held slot: one FILLING or CLOSING is made COMPLETE and flagged ABORTED (R161). -/
def HeldSlot.restarted (time : Clock) (h : HeldSlot) : HeldSlot :=
  if h.st = .filling ∨ h.st = .closing then h.abort time else h

theorem State.SlotsOk.abortAll_openSlots {s : State} (h : s.SlotsOk) (time : Clock) (k : Fin 4) :
    (abortAll time s.openSlots s.rps.slots)[k] = (s.rps.slots[k]).map (HeldSlot.restarted time) := by
  rw [abortAll_get time h.openSlots_nodup, if_congr (h.mem_openSlots k) rfl rfl]
  unfold State.slotClosing State.slotIs HeldSlot.restarted
  cases hk : s.rps.slots[k] with
  | none => simp
  | some r => cases hst : r.st <;> simp [hst]

theorem State.SlotsOk.completeNotices_openSlots {s : State} (h : s.SlotsOk) (time : Clock) :
    completeNotices time s.openSlots s.rps.slots = s.openSlots.filterMap fun k =>
      ((s.rps.slots[k]).map (HeldSlot.restarted time)).map fun r => noticeFrame 0x42 (trainCompletePayload r.report.header) := by
  refine List.filterMap_congr fun k hk => ?_
  have hslot := h.abortAll_openSlots time k
  rw [abortAll_get time h.openSlots_nodup, if_pos hk] at hslot
  rw [← hslot, Option.map_map]
  rfl

end Sys2Proof.Machine
end

section
/-! SUPPORT. RestartClearsMeasuring: RESTART step by step (R19). -/

namespace Sys2Proof.Machine

/-! ## Step 1: the measuring state cleared -/

/-- The notices of the reports that RESTART makes COMPLETE (R159, R161). -/
def State.restartCompletes (s : State) : List OutFrame := completeNotices s.ssq.clock s.openSlots s.rps.slots

/-- RESTART up to its change of the site state, but for the notices (R19, step 1). -/
def State.wiped (s : State) : State :=
  (s.quietSite.withSlots (abortAll s.ssq.clock s.openSlots s.rps.slots)).clearMeasuring

theorem State.SlotsOk.quietSite {s : State} (h : s.SlotsOk) : s.quietSite.SlotsOk :=
  ⟨h.filling, h.number, h.queue, h.once, h.captures, h.gates, h.gate⟩

theorem State.SlotsOk.restarted_eq {s : State} (h : s.SlotsOk) {n : Nat} (hr : s.Room (n + 4)) :
    s.restarted = s.wiped.telling s.restartCompletes := by
  have hr' : s.quietSite.Room (n + 4) := hr.congr rfl
  rw [State.restarted, h.quietSite.abortSlots_eq hr']
  rfl

theorem State.SlotsOk.restarted_room {s : State} (h : s.SlotsOk) {n : Nat} (hr : s.Room (n + 4)) : s.restarted.Room n := by
  have hle : s.restartCompletes.length ≤ 4 := le_trans (completeNotices_length_le ..) h.openSlots_length
  have hw : s.wiped.Room (n + s.restartCompletes.length) := (hr.mono (Nat.add_le_add_left hle n)).congr rfl
  rw [h.restarted_eq hr]
  exact hw.tellingList

/-! ## What no further step of RESTART changes -/

/-- The blocks beside the sequencer, the links, the channels and the ports. -/
def State.blocks (s : State) : Axt × Vsg × Vector CaptureUnit 16 × Evu × Rps := (s.axt, s.vsg, s.units, s.evu, s.rps)

/-- The channels, the active and the pending values of the configuration. -/
def State.settings (s : State) : Vector Channel 16 × Vector Nat 54 × Vector (Option Nat) 54 :=
  (s.channels, s.mpc.active, s.mpc.pendingCfg)

/-- The site in ARMED by R10, before the calibration call and the notice. -/
def State.movedOn (s : State) : State :=
  if s.ssq.site = .dormant then (s.latched.inSite .armed).resumed else s.latched.inSite .armed

theorem State.movedOn_kept (s : State) :
    s.movedOn.blocks = s.blocks ∧ s.movedOn.settings = s.settings ∧ s.movedOn.mpc = s.mpc := by
  unfold State.movedOn
  split <;> exact ⟨rfl, rfl, rfl⟩

theorem State.called_kept (s : State) : s.called.blocks = s.blocks ∧ s.called.settings = s.settings := by
  unfold State.called
  split <;> exact ⟨rfl, rfl⟩

theorem State.carriedOn_kept (s : State) : s.carriedOn.blocks = s.blocks ∧ s.carriedOn.settings = s.settings := by
  by_cases hc : s.Carries
  case neg => rw [State.carriedOn_of_not hc]; exact ⟨rfl, rfl⟩
  have hon : s.carriedOn = s.movedOn.called.telling
      [siteNotice .armed s.ssq.site .approach s.ssq.disablePending s.ssq.clock] := State.carriedOn_of_carries hc
  obtain ⟨hb, hs⟩ := s.movedOn.called_kept
  obtain ⟨hb', hs', -⟩ := s.movedOn_kept
  rw [hon]
  exact ⟨hb.trans hb', hs.trans hs'⟩

/-! ## Steps 2 to 4 -/

theorem State.restartState_cases (s : State) :
    s.restartState = .patrol ∨ s.restartState = .dormant ∨ s.restartState = .offline := by
  unfold State.restartState State.restState
  split
  · exact .inr (.inr rfl)
  · split
    · exact .inr (.inl rfl)
    · exact .inl rfl

/-- The state that RESTART chooses, entered with its notice (R19, steps 2 and 3). -/
def State.reentered (s : State) : State := s.restarted.entered s.restartState .restart

theorem State.restartSite_eq_carriedOn {s : State} (hn : s.NodesOk) (hs : s.SlotsOk) (hr : s.Room 6) :
    s.restartSite = s.reentered.settled.carriedOn := by
  have hroom : s.restarted.Room 2 := hs.restarted_room (n := 2) hr
  have hnodes : s.reentered.settled.NodesOk := by
    rw [← State.applyPending_eq_settled, State.reentered, ← State.changeSite_eq_entered hroom]
    exact (State.KeepsNodes.applyPending _).nodesOk (State.changeSite_nodesOk (State.restarted_nodesOk hn) _ _)
  rw [State.restartSite_eq, State.changeSite_eq_entered hroom, State.applyPending_eq_settled]
  exact State.levelCarry_eq_carriedOn hnodes (hroom.carryFits ((State.settled_ports _).trans (State.entered_ports ..)))

/-- RESTART moves the site on to ARMED (R10). -/
def State.restartCarries (s : State) : Bool :=
  decide (s.futureCfg .approachMode = 1) && s.ssq.approachInput && decide (s.restartState ≠ .offline)

/-- The sequencer when RESTART has entered its state. -/
theorem State.SlotsOk.reentered_ssq {s : State} (h : s.SlotsOk) (hr : s.Room 6) : s.reentered.ssq =
    { s.ssq with
      site := s.restartState, streaming := s.restartState.streams, disablePending := false, latch := false, armTimer := none
      sweepTimer := if s.restartState = .dormant then some (s.now + 1000000 * s.cfg .tsweep) else none
      sweepDurTimer := none
      restTimer := if s.restartState = .patrol ∧ s.ssq.dormancy = true then some (s.now + 1000000 * s.cfg .tclear) else none } := by
  have hcfg : s.restarted.cfg = s.cfg := State.cfg_congr (by rw [h.restarted_eq (n := 2) hr]; rfl)
  have hnow : s.restarted.now = s.now := by rw [h.restarted_eq (n := 2) hr]; rfl
  have hssq : s.restarted.ssq = { s.ssq with
      armTimer := none, sweepTimer := none, sweepDurTimer := none, restTimer := none, latch := false
      disablePending := false } := by rw [h.restarted_eq (n := 2) hr]; rfl
  rw [State.reentered, State.entered_ssq, hssq, hcfg, hnow, ← sec_eq, ← sec_eq]
  rcases s.restartState_cases with hnew | hnew | hnew <;> simp [hnew, Ssq.moved]

theorem State.SlotsOk.reentered_carries {s : State} (h : s.SlotsOk) (hr : s.Room 6) :
    s.reentered.settled.Carries ↔ s.restartCarries = true := by
  have hfuture : s.reentered.futureCfg = s.futureCfg := by
    refine State.futureCfg_congr ?_ ?_
    · rw [State.reentered, State.entered_active, h.restarted_eq (n := 2) hr]; rfl
    · rw [State.reentered, State.entered_pendingCfg, h.restarted_eq (n := 2) hr]; rfl
  have hlevel : s.reentered.settled.levelMode = (s.futureCfg .approachMode == 1) := by
    rw [State.levelMode, State.futureCfg_settled, hfuture]
  have hssq : s.reentered.settled.ssq = s.reentered.ssq := rfl
  rw [State.Carries, hlevel, hssq, h.reentered_ssq hr, State.restartCarries]
  rcases s.restartState_cases with hnew | hnew | hnew <;> simp [hnew]

/-- The state that RESTART leaves the site in (R10, R19). -/
def State.restartFinal (s : State) : SiteState := if s.restartCarries = true then .armed else s.restartState

theorem State.restartCarries_ne_offline {s : State} (h : s.restartCarries = true) : s.restartState ≠ .offline := by
  simp only [State.restartCarries, Bool.and_eq_true, decide_eq_true_eq] at h
  exact h.2

/-- The sequencer after a RESTART (R15, R19). -/
theorem State.restartSite_sequencer {s : State} (hn : s.NodesOk) (hs : s.SlotsOk) (hr : s.Room 6) : s.restartSite.ssq =
    { s.ssq with
      site := s.restartFinal, streaming := s.restartFinal.streams, disablePending := false, latch := s.restartCarries
      armTimer := none
      sweepTimer := if s.restartFinal = .dormant then some (s.now + 1000000 * s.cfg .tsweep) else none
      sweepDurTimer := none
      restTimer := if s.restartFinal = .patrol ∧ s.ssq.dormancy = true then some (s.now + 1000000 * s.cfg .tclear) else none } := by
  obtain ⟨t, ht⟩ : ∃ t, t = s.reentered.settled := ⟨_, rfl⟩
  have htq : t.ssq = s.reentered.ssq := by rw [ht]; rfl
  have hcarries := hs.reentered_carries hr
  rw [State.restartSite_eq_carriedOn hn hs hr, ← ht]
  rw [← ht] at hcarries
  cases hc : s.restartCarries with
  | false =>
    have hfinal : s.restartFinal = s.restartState := if_neg (by simp [hc])
    rw [State.carriedOn_of_not (by simp [hcarries, hc]), htq, hs.reentered_ssq hr, hfinal]
  | true =>
    have hfinal : s.restartFinal = .armed := if_pos hc
    have hon : t.carriedOn = t.movedOn.called.telling
        [siteNotice .armed t.ssq.site .approach t.ssq.disablePending t.ssq.clock] := State.carriedOn_of_carries (hcarries.mpr hc)
    have hq : t.carriedOn.ssq = t.movedOn.ssq := by rw [hon]; exact State.called_ssq _
    rw [hq, State.movedOn, htq, hs.reentered_ssq hr, hfinal]
    rcases s.restartState_cases with hnew | hnew | hnew
    · rw [if_neg (by simp [hnew])]
      simp [State.inSite, State.latched, htq, hs.reentered_ssq hr, hnew, SiteState.streams]
    · rw [if_pos hnew]
      simp [State.inSite, State.latched, State.resumed, htq, hs.reentered_ssq hr, hnew, SiteState.streams]
    · exact absurd hnew (State.restartCarries_ne_offline hc)

/-! ## Blocks, channels and configuration after a RESTART -/

theorem State.reentered_axt {s : State} (hn : s.NodesOk) : s.reentered.axt = Axt.reset := by
  have hw : s.restarted.NodesOk := State.restarted_nodesOk hn
  have hm : s.reentered.axt = (s.restarted.movedTo s.restartState).axt := rfl
  have hstop (v : State) : v.stopped.axt = v.axt := by unfold State.stopped; split <;> rfl
  rw [hm]
  rcases s.restartState_cases with hnew | hnew | hnew <;> rw [hnew]
  · rw [hw.movedTo_patrol]
    split <;> rfl
  · rw [hw.movedTo_dormant]
    exact hstop _
  · rw [hw.movedTo_offline, State.outOfService, hstop]
    rfl

theorem State.SlotsOk.reentered_blocks {s : State} (h : s.SlotsOk) (hn : s.NodesOk) (hr : s.Room 6) : s.reentered.blocks =
    (Axt.reset, Vsg.reset, Vector.replicate 16 CaptureUnit.reset,
      { Evu.reset with dropped := s.evu.dropped, discarded := s.evu.discarded },
      { s.rps with slots := abortAll s.ssq.clock s.openSlots s.rps.slots }) := by
  obtain ⟨hvsg, -, hunits, hevu, hrps, -, -⟩ := State.entered_others s.restartState .restart s.restarted
  rw [State.blocks, State.reentered_axt hn, State.reentered, hvsg, hunits, hevu, hrps, h.restarted_eq (n := 2) hr]
  rfl

theorem State.restartSite_blocks {s : State} (hn : s.NodesOk) (hs : s.SlotsOk) (hr : s.Room 6) : s.restartSite.blocks =
    (Axt.reset, Vsg.reset, Vector.replicate 16 CaptureUnit.reset,
      { Evu.reset with dropped := s.evu.dropped, discarded := s.evu.discarded },
      { s.rps with slots := abortAll s.ssq.clock s.openSlots s.rps.slots }) := by
  rw [State.restartSite_eq_carriedOn hn hs hr, s.reentered.settled.carriedOn_kept.1]
  exact hs.reentered_blocks hn hr

/-- The channels, the active and the pending values when RESTART has entered its state (R71). -/
theorem State.SlotsOk.reentered_settings {s : State} (h : s.SlotsOk) (hr : s.Room 6) : s.reentered.settings =
    (s.channels.map fun c => { c with z := none, ageFrom := s.now, quiet := none }, s.mpc.active, s.mpc.pendingCfg) := by
  obtain ⟨-, hchannels, -, -, -, -, hpending⟩ := State.entered_others s.restartState .restart s.restarted
  rw [State.settings, State.reentered, hchannels, hpending, State.entered_active, h.restarted_eq (n := 2) hr, ← vmap_eq_map]
  rfl

theorem State.restartSite_settings {s : State} (hn : s.NodesOk) (hs : s.SlotsOk) (hr : s.Room 6) :
    (∀ k : Fin 16, s.restartSite.channels[k] = { z := none, ageFrom := s.now, quiet := none
                                                 cal := (s.channels[k]).pendingCal.getD (s.channels[k]).cal, pendingCal := none })
      ∧ ∀ i : Item, s.restartSite.cfg i = s.futureCfg i ∧ s.restartSite.mpc.pendingCfg[i.idx] = none := by
  obtain ⟨hchannels, hactive, hpending⟩ : s.restartSite.channels = s.reentered.settled.channels
      ∧ s.restartSite.mpc.active = s.reentered.settled.mpc.active
      ∧ s.restartSite.mpc.pendingCfg = s.reentered.settled.mpc.pendingCfg := by
    have h := s.reentered.settled.carriedOn_kept.2
    rw [← State.restartSite_eq_carriedOn hn hs hr] at h
    exact ⟨congrArg (·.1) h, congrArg (·.2.1) h, congrArg (·.2.2) h⟩
  obtain ⟨hc, ha, hp⟩ : s.reentered.channels = (s.channels.map fun c => { c with z := none, ageFrom := s.now, quiet := none })
      ∧ s.reentered.mpc.active = s.mpc.active ∧ s.reentered.mpc.pendingCfg = s.mpc.pendingCfg := by
    have h := hs.reentered_settings hr
    exact ⟨congrArg (·.1) h, congrArg (·.2.1) h, congrArg (·.2.2) h⟩
  refine ⟨fun k => ?_, fun i => ⟨?_, ?_⟩⟩
  · rw [hchannels, State.settled, hc]
    simp
  · rw [State.cfg_congr hactive, State.futureCfg_settled, State.futureCfg_congr ha hp]
  · rw [hpending, State.settled]
    simp

/-! ## The links after a RESTART -/

/-- What the links and the calibration call read and write stands in both states as it does in one. -/
structure State.LinksAs (s t : State) : Prop where
  nodes     : t.nodes = s.nodes
  tsu       : t.tsu = s.tsu
  now       : t.now = s.now
  active    : t.mpc.active = s.mpc.active
  pending   : t.mpc.pendingCfg = s.mpc.pendingCfg
  streaming : t.ssq.streaming = s.ssq.streaming

theorem State.LinksAs.trans {s t u : State} (h : s.LinksAs t) (h' : t.LinksAs u) : s.LinksAs u :=
  ⟨h'.nodes.trans h.nodes, h'.tsu.trans h.tsu, h'.now.trans h.now, h'.active.trans h.active, h'.pending.trans h.pending,
    h'.streaming.trans h.streaming⟩

theorem State.LinksAs.resumed {s t : State} (h : s.LinksAs t) : s.resumed.LinksAs t.resumed := by
  have hc : t.cfg = s.cfg := State.cfg_congr h.active
  refine ⟨?_, ?_, h.now, h.active, h.pending, rfl⟩
  · simp only [State.resumed, h.nodes, h.now, hc]
  · simp only [State.resumed, h.tsu, h.now, hc]

theorem State.LinksAs.stopped {s t : State} (h : s.LinksAs t) : s.stopped.LinksAs t.stopped := by
  unfold State.stopped
  rw [h.streaming]
  split
  · refine ⟨?_, ?_, h.now, h.active, h.pending, rfl⟩
    · simp only [h.nodes]
    · simp only [h.tsu]
  · exact h

theorem State.LinksAs.settled {s t : State} (h : s.LinksAs t) : s.settled.LinksAs t.settled := by
  refine ⟨h.nodes, h.tsu, h.now, ?_, ?_, h.streaming⟩
  · simp only [State.settled, h.active, h.pending]
  · simp only [State.settled]

theorem State.LinksAs.called {s t : State} (h : s.LinksAs t) : s.called.LinksAs t.called := by
  have hfresh (x : Side) : t.scannerFresh x = s.scannerFresh x := by
    unfold State.scannerFresh
    rw [h.tsu, h.now, State.cfg_congr h.active]
  unfold State.called
  rw [hfresh, hfresh]
  split
  · refine ⟨h.nodes, ?_, h.now, h.active, h.pending, h.streaming⟩
    simp only [h.tsu]
  · refine ⟨h.nodes, ?_, h.now, h.active, h.pending, h.streaming⟩
    simp only [State.calibrating, h.tsu, h.now]

/-- A calibration in flight withdrawn and the gates forgotten (R137, R149). -/
def State.gatesCleared (s : State) : State :=
  { s.uncalled with tsu := { s.uncalled.tsu with pointer := 0, pair := none, gateOrphan := 0, gateUndone := 0, calSkip := 0 } }

/-- The links as the state that RESTART chooses has them (R3). -/
def State.streamsRestarted (s : State) : State :=
  if s.restartState = .patrol then (if s.ssq.streaming = true then s.gatesCleared else s.gatesCleared.resumed)
  else s.gatesCleared.stopped

/-- The links and the calibration call after a RESTART (R3, R12). -/
def State.linksRestarted (s : State) : State :=
  if s.restartCarries = true then
    (if s.restartState = .patrol then s.streamsRestarted.settled else s.streamsRestarted.settled.resumed).called
  else s.streamsRestarted

theorem Scanner.shutterOpened {y : Scanner} (h : y.shutterClosed = false) : { y with shutterClosed := false } = y := by
  rw [← h]

/-- With no calibration in flight no shutter is closed, so nothing is left to open (R135, R149). -/
theorem State.SlotsOk.restarted_links {s : State} (h : s.SlotsOk) (hn : s.NodesOk) (hr : s.Room 6) :
    s.gatesCleared.LinksAs s.restarted := by
  obtain ⟨hq, hidle⟩ := State.quietSite_nodesOk hn
  have hopen (x : Side) : (s.uncalled.tsu.scanners.get x).shutterClosed = false :=
    Bool.eq_false_iff.mpr fun hc => (hq.shutter x).mp hc (hidle x)
  have ha := Scanner.shutterOpened (hopen .a)
  have hb := Scanner.shutterOpened (hopen .b)
  rw [h.restarted_eq (n := 2) hr]
  refine ⟨rfl, ?_, rfl, rfl, rfl, rfl⟩
  show ({ s.uncalled.tsu with
    scanners := { a := { s.uncalled.tsu.scanners.get .a with shutterClosed := false }
                  b := { s.uncalled.tsu.scanners.get .b with shutterClosed := false } }
    pointer := 0, pair := none, gateOrphan := 0, gateUndone := 0, calSkip := 0 } : Tsu) = _
  rw [ha, hb]
  rfl

theorem State.SlotsOk.reentered_links {s : State} (h : s.SlotsOk) (hn : s.NodesOk) (hr : s.Room 6) :
    s.streamsRestarted.LinksAs s.reentered := by
  have hw : s.restarted.NodesOk := State.restarted_nodesOk hn
  have hlinks := h.restarted_links hn hr
  have hidle : s.restarted.uncalled = s.restarted := State.withdrawCalibration_of_idle fun x => by
    rw [hlinks.tsu]
    exact (State.quietSite_nodesOk hn).2 x
  have hstreaming : s.restarted.ssq.site.streams = s.ssq.streaming := hw.streaming.symm.trans hlinks.streaming
  have hmoved : (s.restarted.movedTo s.restartState).LinksAs s.reentered := ⟨rfl, rfl, rfl, rfl, rfl, rfl⟩
  refine State.LinksAs.trans ?_ hmoved
  unfold State.streamsRestarted
  rcases s.restartState_cases with hnew | hnew | hnew <;> rw [hnew]
  · rw [if_pos rfl, hw.movedTo_patrol, hidle, hstreaming]
    split
    · exact hlinks.trans ⟨rfl, rfl, rfl, rfl, rfl, rfl⟩
    · exact (hlinks.trans (u := s.restarted.inSite .patrol) ⟨rfl, rfl, rfl, rfl, rfl, rfl⟩).resumed.trans
        ⟨rfl, rfl, rfl, rfl, rfl, rfl⟩
  · rw [if_neg nofun, hw.movedTo_dormant, hidle]
    exact (hlinks.trans (u := s.restarted.inSite .dormant) ⟨rfl, rfl, rfl, rfl, rfl, rfl⟩).stopped.trans
      ⟨rfl, rfl, rfl, rfl, rfl, rfl⟩
  · rw [if_neg nofun, hw.movedTo_offline, hidle]
    exact (hlinks.trans (u := s.restarted.inSite .offline) ⟨rfl, rfl, rfl, rfl, rfl, rfl⟩).stopped.trans
      ⟨rfl, rfl, rfl, rfl, rfl, rfl⟩

theorem State.restartSite_links {s : State} (hn : s.NodesOk) (hs : s.SlotsOk) (hr : s.Room 6) :
    s.restartSite.nodes = s.linksRestarted.nodes ∧ s.restartSite.tsu = s.linksRestarted.tsu := by
  have hlinks := hs.reentered_links hn hr
  have hsettled := hlinks.settled
  have hcarries := hs.reentered_carries hr
  have hsite : s.reentered.ssq.site = s.restartState := by rw [hs.reentered_ssq hr]
  have hsite' : s.reentered.settled.ssq.site = s.restartState := hsite
  rw [State.restartSite_eq_carriedOn hn hs hr]
  obtain ⟨t, ht⟩ : ∃ t, t = s.reentered.settled := ⟨_, rfl⟩
  have hkept : t.nodes = s.reentered.nodes ∧ t.tsu = s.reentered.tsu := by rw [ht]; exact ⟨rfl, rfl⟩
  rw [← ht] at hsettled hcarries hsite' ⊢
  unfold State.linksRestarted
  cases hc : s.restartCarries with
  | false =>
    rw [State.carriedOn_of_not (by simp [hcarries, hc]), if_neg nofun]
    exact ⟨hkept.1.trans hlinks.nodes, hkept.2.trans hlinks.tsu⟩
  | true =>
    have hon : t.carriedOn = t.movedOn.called.telling
        [siteNotice .armed t.ssq.site .approach t.ssq.disablePending t.ssq.clock] := State.carriedOn_of_carries (hcarries.mpr hc)
    have hmoved : (if s.restartState = .patrol then s.streamsRestarted.settled else s.streamsRestarted.settled.resumed).LinksAs
        t.movedOn := by
      have harmed : s.streamsRestarted.settled.LinksAs (t.latched.inSite .armed) :=
        hsettled.trans ⟨rfl, rfl, rfl, rfl, rfl, rfl⟩
      rw [State.movedOn, hsite']
      rcases s.restartState_cases with hnew | hnew | hnew
      · rw [hnew, if_pos rfl, if_neg nofun]
        exact harmed
      · rw [hnew, if_neg nofun, if_pos rfl]
        exact harmed.resumed
      · exact absurd hnew (State.restartCarries_ne_offline hc)
    rw [hon, if_pos rfl]
    exact ⟨hmoved.called.nodes, hmoved.called.tsu⟩

/-- What a gauge node counts (R61 to R66). -/
def GaugeNode.counts (n : GaugeNode) : Nat × Nat × Nat × Nat := (n.bad, n.duplicate, n.missing, n.losses)

/-- What a scanner counts and records (R133 to R138). -/
def Scanner.record (y : Scanner) : Nat × Nat × Nat × Nat × Option CalReference × CalState × Option Int :=
  (y.bad, y.duplicate, y.missing, y.losses, y.ref, y.calState, y.ambient)

/-- The counts and records of the six links stand as they did. -/
def State.KeepsRecords (s t : State) : Prop :=
  (∀ g : Fin 4, (t.nodes[g]).counts = (s.nodes[g]).counts)
    ∧ ∀ x, (t.tsu.scanners.get x).record = (s.tsu.scanners.get x).record

theorem State.KeepsRecords.trans {s t u : State} (h : s.KeepsRecords t) (h' : t.KeepsRecords u) : s.KeepsRecords u :=
  ⟨fun g => (h'.1 g).trans (h.1 g), fun x => (h'.2 x).trans (h.2 x)⟩

theorem State.KeepsRecords.refl (s : State) : s.KeepsRecords s := ⟨fun _ => rfl, fun _ => rfl⟩

theorem State.KeepsRecords.resumed (s : State) : s.KeepsRecords s.resumed := by
  refine ⟨fun g => ?_, fun x => by cases x <;> rfl⟩
  simp [State.resumed, GaugeNode.counts]

theorem State.KeepsRecords.stopped (s : State) : s.KeepsRecords s.stopped := by
  unfold State.stopped
  split
  · refine ⟨fun g => ?_, fun x => by cases x <;> rfl⟩
    simp [GaugeNode.counts]
  · exact .refl s

theorem State.KeepsRecords.called (s : State) : s.KeepsRecords s.called := by
  unfold State.called
  split
  · exact ⟨fun _ => rfl, fun _ => rfl⟩
  · exact ⟨fun _ => rfl, fun x => by cases x <;> rfl⟩

theorem State.KeepsRecords.settled (s : State) : s.KeepsRecords s.settled := ⟨fun _ => rfl, fun _ => rfl⟩

theorem State.KeepsRecords.gatesCleared (s : State) : s.KeepsRecords s.gatesCleared := by
  refine ⟨fun _ => rfl, fun x => ?_⟩
  have hx : s.gatesCleared.tsu.scanners.get x = (s.tsu.scanners.get x).stopCalibration := s.withdrawCalibration_scanner x
  rw [hx, Scanner.stopCalibration]
  split <;> rfl

theorem State.KeepsRecords.streamsRestarted (s : State) : s.KeepsRecords s.streamsRestarted := by
  unfold State.streamsRestarted
  refine (State.KeepsRecords.gatesCleared s).trans ?_
  split
  · split
    · exact .refl _
    · exact .resumed _
  · exact .stopped _

theorem State.KeepsRecords.linksRestarted (s : State) : s.KeepsRecords s.linksRestarted := by
  unfold State.linksRestarted
  refine (State.KeepsRecords.streamsRestarted s).trans ?_
  split
  · refine (State.KeepsRecords.settled _).trans (.trans ?_ (.called _))
    split
    · exact .refl _
    · exact .resumed _
  · exact .refl _

/-! ## The notices of a RESTART -/

/-- The notices of a RESTART: the reports made COMPLETE, the state chosen, the move on of R10 (R4, R10, R159, R161). -/
def State.restartNotices (s : State) : List OutFrame :=
  s.restartCompletes ++ [siteNotice s.restartState s.ssq.site .restart false s.ssq.clock]
    ++ (if s.restartCarries = true then [siteNotice .armed s.restartState .approach false s.ssq.clock] else [])

theorem State.SlotsOk.reentered_ports {s : State} (h : s.SlotsOk) (hr : s.Room 6) : s.reentered.mpc.ports =
    (s.telling (s.restartCompletes ++ [siteNotice s.restartState s.ssq.site .restart false s.ssq.clock])).mpc.ports := by
  rw [State.reentered, State.entered_ports, h.restarted_eq (n := 2) hr, State.telling_telling]
  rfl

theorem State.restartSite_ports {s : State} (hn : s.NodesOk) (hs : s.SlotsOk) (hr : s.Room 6) :
    s.restartSite.mpc.ports = (s.telling s.restartNotices).mpc.ports := by
  have hcarries := hs.reentered_carries hr
  have hq := hs.reentered_ssq hr
  have hports : s.reentered.settled.mpc.ports = _ := (State.settled_ports _).trans (hs.reentered_ports hr)
  have htq : s.reentered.settled.ssq = s.reentered.ssq := rfl
  rw [State.restartSite_eq_carriedOn hn hs hr, State.restartNotices]
  obtain ⟨t, ht⟩ : ∃ t, t = s.reentered.settled := ⟨_, rfl⟩
  rw [← ht] at hcarries hports htq ⊢
  cases hc : s.restartCarries with
  | false => rw [State.carriedOn_of_not (by simp [hcarries, hc]), hports, if_neg nofun, List.append_nil]
  | true =>
    have hon : t.carriedOn = t.movedOn.called.telling
        [siteNotice .armed t.ssq.site .approach t.ssq.disablePending t.ssq.clock] := State.carriedOn_of_carries (hcarries.mpr hc)
    have hmpc : t.movedOn.called.mpc = t.mpc := (State.called_ports _).trans t.movedOn_kept.2.2
    rw [hon, if_pos rfl, ← State.telling_telling, htq, hq]
    unfold State.telling at hports ⊢
    rw [hmpc, hports]

theorem State.telling_get (fs : List OutFrame) (s : State) (q : Port) :
    (s.telling fs).mpc.ports.get q = (s.mpc.ports.get q).sends fs := by
  cases q <;> rfl

end Sys2Proof.Machine
end

section
/-! SUPPORT. RestartClearsMeasuring: the request that RESTART serves, its port and the reply before the action (R172, R173). -/

namespace Sys2Proof.Machine

/-! ## The stream that a RESTART ends -/

/-- The STREAM END frame of a running stream that is interrupted (R175). -/
def PortMachine.ended (pm : PortMachine) : List OutFrame := pm.stream.toList.map fun st => streamEndFrame st 1

/-- The port with no stream. -/
def PortMachine.unstreamed (pm : PortMachine) : PortMachine := { pm with stream := none }

theorem PortMachine.Room.unstreamed {pm : PortMachine} {n : Nat} (h : pm.Room n) : pm.unstreamed.Room n :=
  ⟨h.unbroken, h.orderly, h.room⟩

theorem PortMachine.endStream_eq {pm : PortMachine} {n : Nat} (h : pm.Room (n + 1)) :
    pm.endStream 1 = pm.unstreamed.sends pm.ended := by
  unfold PortMachine.endStream PortMachine.ended
  cases hs : pm.stream with
  | none =>
    have hpm : pm.unstreamed = pm := by unfold PortMachine.unstreamed; rw [← hs]
    exact ((PortMachine.sends_nil h.unstreamed.orderly).trans hpm).symm
  | some st => exact PortMachine.notice_eq_sends h.unstreamed 0x44 (streamEndPayload st 1)

theorem PortMachine.Room.endStream {pm : PortMachine} {n : Nat} (h : pm.Room (n + 1)) : (pm.endStream 1).Room n := by
  have hle : pm.ended.length ≤ 1 := by
    unfold PortMachine.ended
    cases pm.stream <;> simp
  rw [PortMachine.endStream_eq h]
  exact PortMachine.Room.sendsList (h.unstreamed.mono (Nat.add_le_add_left hle n))

theorem State.Room.interruptStream {s : State} {n : Nat} (h : s.Room (n + 1)) (p : Port) : (s.interruptStream p).Room n := by
  cases p
  · exact ⟨h.1.endStream, h.2.mono (Nat.le_succ n)⟩
  · exact ⟨h.1.mono (Nat.le_succ n), h.2.endStream⟩

/-- The port that asked, after the stream's end, the reply and the notices that follow it (R173, R175). -/
theorem PortMachine.ended_answered_sends {pm : PortMachine} {n : Nat} (h : pm.Room (n + 1)) (f : OutFrame) (fs : List OutFrame) :
    ((pm.endStream 1).answered [f]).sends fs =
      { pm.sends (pm.ended ++ [f] ++ fs) with requests := markFirstServed pm.requests, stream := none } := by
  have h1 : (pm.endStream 1).answered [f] =
      { pm.unstreamed.sends (pm.ended ++ [f]) with requests := markFirstServed pm.requests } := by
    rw [PortMachine.endStream_eq h, PortMachine.answered, PortMachine.sends_sends]
    rfl
  have h2 : ((pm.endStream 1).answered [f]).sends fs =
      { (pm.unstreamed.sends (pm.ended ++ [f])).sends fs with requests := markFirstServed pm.requests } := by
    rw [h1]
    rfl
  rw [h2, PortMachine.sends_sends]
  rfl

/-! ## The ports make no difference -/

theorem State.NodesOk.withPorts {s : State} (h : s.NodesOk) (ps : PerPort PortMachine) : (s.withPorts ps).NodesOk :=
  ⟨h.streaming, h.gauge, h.scanner, h.armed, h.shutter, h.timer, h.gaugeLoss, h.scanLoss⟩

theorem State.SlotsOk.withPorts {s : State} (h : s.SlotsOk) (ps : PerPort PortMachine) : (s.withPorts ps).SlotsOk :=
  ⟨h.filling, h.number, h.queue, h.once, h.captures, h.gates, h.gate⟩

theorem State.restartNotices_withPorts (s : State) (ps : PerPort PortMachine) :
    (s.withPorts ps).restartNotices = s.restartNotices := rfl

theorem State.restartFinal_withPorts (s : State) (ps : PerPort PortMachine) :
    (s.withPorts ps).restartFinal = s.restartFinal := rfl

theorem State.linksRestarted_withPorts (s : State) (ps : PerPort PortMachine) :
    s.linksRestarted.LinksAs (s.withPorts ps).linksRestarted := by
  have hstate : (s.withPorts ps).restartState = s.restartState := rfl
  have hcarries : (s.withPorts ps).restartCarries = s.restartCarries := rfl
  have hon : (s.withPorts ps).ssq.streaming = s.ssq.streaming := rfl
  have hgates : s.gatesCleared.LinksAs (s.withPorts ps).gatesCleared := ⟨rfl, rfl, rfl, rfl, rfl, rfl⟩
  have hstreams : s.streamsRestarted.LinksAs (s.withPorts ps).streamsRestarted := by
    unfold State.streamsRestarted
    rw [hstate, hon]
    split
    · split
      · exact hgates
      · exact hgates.resumed
    · exact hgates.stopped
  unfold State.linksRestarted
  rw [hstate, hcarries]
  split
  · split
    · exact hstreams.settled.called
    · exact hstreams.settled.resumed.called
  · exact hstreams

theorem State.interruptStream_eq_withPorts (p : Port) (s : State) :
    s.interruptStream p = s.withPorts (s.interruptStream p).mpc.ports := rfl

theorem State.siteControlBody_restartSite {s : State} (hn : s.NodesOk) (hs : s.SlotsOk) (hr : s.Room 6) :
    siteControlBody s.restartSite = u8 s.restartFinal.code ++ flag s.ssq.dormancy ++ [0] := by
  unfold siteControlBody
  rw [State.restartSite_sequencer hn hs hr]
  rfl

/-- Out of ARMED no calibration is in flight and no shutter closed (R12, R135). -/
theorem State.restartSite_shutter {s : State} (hn : s.NodesOk) (hs : s.SlotsOk) (hr : s.Room 6) (hok : s.SiteOk)
    (hc : s.restartCarries = false) (x : Side) : (s.restartSite.tsu.scanners.get x).progress = .idle
      ∧ (s.restartSite.tsu.scanners.get x).shutterClosed = false := by
  have hn' : s.restartSite.NodesOk := (State.AllAgrees.restartSite ⟨hok, hn⟩).2
  have hfinal : s.restartFinal = s.restartState := if_neg (by simp [hc])
  have hsite : s.restartSite.ssq.site = s.restartState := by rw [State.restartSite_sequencer hn hs hr, ← hfinal]
  have hidle : (s.restartSite.tsu.scanners.get x).progress = .idle := by
    refine not_not.mp fun hx => s.restartState_ne.2 ?_
    rw [← hsite]
    exact hn'.armed x hx
  exact ⟨hidle, Bool.eq_false_iff.mpr fun hx => (hn'.shutter x).mp hx hidle⟩

/-! ## RESTART as a port asks for it -/

/-- The ports when RESTART comes to its action: the stream ended, the reply made (R173, R175). -/
def State.restartReplied (p : Port) (r : QueuedRequest) (s : State) : PerPort PortMachine :=
  ((s.interruptStream p).replying p
    (replyFrame r 3 (u8 s.restartFinal.code ++ flag s.ssq.dormancy ++ [0]))).mpc.ports

theorem State.restartReplied_get (p : Port) (r : QueuedRequest) (s : State) : (s.restartReplied p r).get p =
    ((s.mpc.ports.get p).endStream 1).answered [replyFrame r 3 (u8 s.restartFinal.code ++ flag s.ssq.dormancy ++ [0])] := by
  cases p <;> rfl

theorem State.restartReplied_other {p q : Port} (h : q ≠ p) (r : QueuedRequest) (s : State) :
    (s.restartReplied p r).get q = s.mpc.ports.get q := by
  cases p <;> cases q
  case s.s => exact absurd rfl h
  case m.m => exact absurd rfl h
  all_goals rfl

theorem State.restartReplied_room {s : State} (hr : s.Room 7) (p : Port) (r : QueuedRequest) :
    (s.withPorts (s.restartReplied p r)).Room 6 := by
  have h := (State.Room.interruptStream (n := 6) hr p).replying p r 3 (u8 s.restartFinal.code ++ flag s.ssq.dormancy ++ [0])
  exact h.congr rfl

/-- RESTART served: the stream's end, the reply that shows the state after the action, the action (assumptions 25, 28). -/
theorem exec_restart {p : Port} {s : State} {r : QueuedRequest} (ha : s.Asks p r 0x03 [4]) (hn : s.NodesOk) (hs : s.SlotsOk)
    (hr : s.Room 7) : exec (.restart p) s = .next (s.withPorts (s.restartReplied p r)).restartSite := by
  have hr' : (s.interruptStream p).Room 6 := State.Room.interruptStream hr p
  have horderly : ((s.interruptStream p).mpc.ports.get p).Orderly := by
    cases p
    · exact hr'.1.orderly
    · exact hr'.2.orderly
  have hw := s.interruptStream_eq_withPorts p
  have hbody : siteControlBody (s.interruptStream p).restartSite = u8 s.restartFinal.code ++ flag s.ssq.dormancy ++ [0] := by
    rw [hw] at hr' ⊢
    exact State.siteControlBody_restartSite (hn.withPorts _) (hs.withPorts _) hr'
  refine congrArg Host.Outcome.next ((State.serveControl_eq ha rfl (by decide) _).trans ?_)
  rw [State.serveAction_eq horderly, hbody]
  rfl

/-- Settles O26: the state in which RESTART acts is the one that asks but for its ports, so what the steps of R19 do to it is
read off that one. -/
theorem restartClearsMeasuring : Obligations.RestartClearsMeasuring := by
  intro p s r ha hok hn hs hr new carries final aborted completes notices ended cleared streamed linked
  obtain ⟨v, hv⟩ : ∃ v, v = s.withPorts (s.restartReplied p r) := ⟨_, rfl⟩
  have hvr : v.Room 6 := by rw [hv]; exact State.restartReplied_room hr p r
  have hvn : v.NodesOk := by rw [hv]; exact hn.withPorts _
  have hvs : v.SlotsOk := by rw [hv]; exact hs.withPorts _
  have hvok : v.SiteOk := by rw [hv]; exact hok.congr rfl rfl rfl
  have hblocks := State.restartSite_blocks hvn hvs hvr
  obtain ⟨hchannels, hcfg⟩ := State.restartSite_settings hvn hvs hvr
  obtain ⟨hnodes, htsu⟩ : v.restartSite.nodes = linked.nodes ∧ v.restartSite.tsu = linked.tsu := by
    have hlinks := State.linksRestarted_withPorts s (s.restartReplied p r)
    obtain ⟨hvnodes, hvtsu⟩ := State.restartSite_links hvn hvs hvr
    rw [← hv] at hlinks
    exact ⟨hvnodes.trans hlinks.nodes, hvtsu.trans hlinks.tsu⟩
  have hrecords : s.KeepsRecords linked := State.KeepsRecords.linksRestarted s
  have hnotices : v.restartNotices = notices := by
    rw [hv, State.restartNotices_withPorts, State.restartNotices, State.restartCompletes, hs.completeNotices_openSlots]
    rfl
  have hports (q : Port) : v.restartSite.mpc.ports.get q = ((s.restartReplied p r).get q).sends notices := by
    rw [State.restartSite_ports hvn hvs hvr, hnotices, State.telling_get, hv]
    rfl
  have hrps : v.restartSite.rps = { s.rps with slots := abortAll s.ssq.clock s.openSlots s.rps.slots } := by
    rw [hv] at hblocks ⊢
    exact congrArg (·.2.2.2.2) hblocks
  have hslots (k : Fin 4) : v.restartSite.rps.slots[k] = aborted k := by
    rw [hrps]
    exact hs.abortAll_openSlots s.ssq.clock k
  refine ⟨v.restartSite, by rw [hv]; exact exec_restart ha hn hs hr, ?ssq, congrArg (·.1) hblocks, congrArg (·.2.1) hblocks,
    congrArg (·.2.2.1) hblocks, ?evu, ?channels, hslots, by rw [hrps], by rw [hrps], by rw [hrps], hnodes, htsu, ?nodeCounts, ?scanners, ?cfg,
    ?port, ?other, ?atq, ?now⟩
  case ssq =>
    have hcfg' : v.cfg = s.cfg := State.cfg_congr (by rw [hv]; rfl)
    rw [State.restartSite_sequencer hvn hvs hvr, hcfg', hv]
    rfl
  case evu =>
    rw [hv] at hblocks ⊢
    exact congrArg (·.2.2.2.1) hblocks
  case channels =>
    intro k
    rw [hchannels k, hv]
    rfl
  case nodeCounts =>
    intro g
    have hg := hrecords.1 g
    rw [← hnodes] at hg
    simpa [GaugeNode.counts] using hg
  case scanners =>
    intro x
    have hx := hrecords.2 x
    rw [← htsu] at hx
    simp only [Scanner.record, Prod.mk.injEq] at hx
    obtain ⟨hbad, hduplicate, hmissing, hlosses, href, hcal, hambient⟩ := hx
    refine ⟨hbad, hduplicate, hmissing, hlosses, href, hcal, hambient, fun hc => ?_⟩
    exact State.restartSite_shutter hvn hvs hvr hvok (by rw [hv]; exact hc) x
  case cfg =>
    intro i
    have hfuture : v.futureCfg = s.futureCfg := State.futureCfg_congr (by rw [hv]; rfl) (by rw [hv]; rfl)
    rw [← hfuture]
    exact hcfg i
  case port =>
    have hp : (s.mpc.ports.get p).Room 7 := by
      cases p
      · exact hr.1
      · exact hr.2
    rw [hports, State.restartReplied_get]
    exact PortMachine.ended_answered_sends (n := 6) hp _ _
  case other =>
    intro q hq
    rw [hports, State.restartReplied_other hq]
  case atq => rw [v.restartSite_frame.2.1, hv]; rfl
  case now => rw [v.restartSite_frame.1, hv]; rfl

end Sys2Proof.Machine
end

section
/-! SUPPORT. Reports, their tags and the sweep's queue under requests and writes: a request changes no report but by the count of
one dropped at a full lane (R98, R154), and no request moves the sweep's queue (R107). -/

namespace Sys2Proof.Machine

/-! ## What a request writes (R98) -/

/-- A report with one more request dropped (R98, step 3). -/
def Report.countDrop (r : Report) : Report := r.modHeader fun h => { h with dropped := sat16 (h.dropped + 1) }

theorem State.write_rps_congr {s u : State} (h : u.rps = s.rps) (k : Fin 4) (number : Nat) (f : Report → Report) :
    (u.write k number f).rps = (s.write k number f).rps := by
  unfold State.write
  rw [h]
  split
  · split <;> simp only [State.modRps_rps, h]
  · simp only [State.modRps_rps, h]

/-- A request that reaches its lane leaves the store, but for one dropped at a full lane (R98). -/
theorem State.lodge_rps (r : Request) (s : State) : (s.lodge r).rps = s.rps
    ∨ (Config.laneDepth ≤ (s.evu.lanes.get r.lane).length ∧ (s.lodge r).rps = (s.write r.slot r.number .countDrop).rps) := by
  unfold State.lodge
  dsimp only
  split
  · exact .inl rfl
  · split
    · exact .inl rfl
    · exact .inr ⟨by omega, State.write_rps_congr (s := s) (by rfl) ..⟩

/-- The sweep asks only where its lane has room, so it drops nothing (R107). -/
@[simp] theorem State.sweepVisit_rps (k : Fin 4) (r : Report) (pos : SweepPos) (s : State) :
    (s.sweepVisit k r pos).rps = s.rps := by
  rcases State.sweepVisit_cases k r pos s with ⟨-, h⟩ | ⟨-, -, hroom, h⟩ | ⟨-, -, -, h⟩ <;> rw [h]
  · rfl
  · refine Eq.trans (b := (s.submit _).rps) rfl ?_
    unfold State.submit
    split
    · rw [show ∀ u : State, u.arbitrate.rps = u.rps by simp]
      refine (s.lodge_rps _).resolve_right fun hfull => ?_
      exact absurd (hfull.1.trans hroom) (by decide)
    · rfl
  · rfl

@[simp] theorem State.retrySweep_rps (s : State) : s.retrySweep.rps = s.rps := by
  unfold State.retrySweep
  split
  · rfl
  · split <;> simp

@[simp] theorem State.serveLanes_rps (s : State) : s.serveLanes.rps = s.rps := by
  rcases s.serveLanes_cases with h | ⟨-, -, h⟩ <;> rw [h] <;> simp

/-- A request leaves the store, or counts itself as dropped in its own train's report (R98). -/
theorem State.request_rps (r : Request) (s : State) :
    (s.request r).rps = s.rps ∨ (s.request r).rps = (s.write r.slot r.number .countDrop).rps := by
  unfold State.request
  split
  · rw [State.serveLanes_rps]
    exact (s.lodge_rps r).imp_right And.right
  · exact .inl rfl

/-! ## Tags (R150, R157) -/

/-- The state of a slot that is not FREE and the number of its train. -/
def HeldSlot.tag (h : HeldSlot) : SlotState × Nat := (h.st, h.report.header.number)

/-- The tag of each slot, `none` for a FREE one. -/
def Rps.tags (r : Rps) (k : Fin 4) : Option (SlotState × Nat) := (r.slots[k]).map HeldSlot.tag

/-- A change of a report that keeps its train's number. -/
def KeepsNumber (f : Report → Report) : Prop := ∀ r, (f r).header.number = r.header.number

@[simp] theorem KeepsNumber.modFlags (f : HeaderFlags → HeaderFlags) : KeepsNumber (Report.modFlags f) := fun _ => rfl
@[simp] theorem KeepsNumber.modAxle (i : Nat) (f : AxleRecord → AxleRecord) : KeepsNumber (Report.modAxle i f) := fun _ => rfl
@[simp] theorem KeepsNumber.modVehicle (i : Nat) (f : VehicleRecord → VehicleRecord) : KeepsNumber (Report.modVehicle i f) :=
  fun _ => rfl
@[simp] theorem KeepsNumber.countDrop : KeepsNumber Report.countDrop := fun _ => rfl

theorem Rps.tags_set (r : Rps) (k j : Fin 4) (h : Option HeldSlot) :
    ({ r with slots := r.slots.set k h } : Rps).tags j = if j = k then h.map HeldSlot.tag else r.tags j := by
  unfold Rps.tags
  by_cases hj : j = k
  · subst hj; simp
  · rw [if_neg hj]
    have hne : k.val ≠ j.val := fun he => hj (Fin.ext he.symm)
    exact congrArg _ (Vector.getElem_set_ne k.isLt j.isLt hne)

/-- A write that keeps its report's number leaves every slot's tag, taken or dropped (R157). -/
@[simp] theorem State.write_tags (k : Fin 4) (number : Nat) (f : Report → Report)
    (s : State) (hf : KeepsNumber f) : (s.write k number f).rps.tags = s.rps.tags := by
  unfold State.write
  split
  · rename_i h hk
    split
    · funext j
      refine (Rps.tags_set s.rps k j _).trans ?_
      split
      · rename_i hj
        rw [hj, Rps.tags, hk]
        exact congrArg some (Prod.ext rfl (hf h.report))
      · rfl
    · rfl
  · rfl

@[simp] theorem State.writeTrain_tags (f : Report → Report) (s : State) (hf : KeepsNumber f) :
    (s.writeTrain f).rps.tags = s.rps.tags := by
  unfold State.writeTrain
  split
  · exact State.write_tags _ _ _ _ hf
  · rfl

@[simp] theorem State.lodge_tags (r : Request) (s : State) : (s.lodge r).rps.tags = s.rps.tags := by
  rcases s.lodge_rps r with h | ⟨-, h⟩ <;> rw [h]
  exact State.write_tags _ _ _ _ .countDrop

@[simp] theorem State.request_tags (r : Request) (s : State) : (s.request r).rps.tags = s.rps.tags := by
  rcases s.request_rps r with h | h <;> rw [h]
  exact State.write_tags _ _ _ _ .countDrop

/-! ## The sweep's queue (R107) -/

@[simp] theorem Evu.noteDrop_sweepQueue (k : Fin 4) (v : Evu) : (v.noteDrop k).sweepQueue = v.sweepQueue := by
  unfold Evu.noteDrop
  split
  · split <;> rfl
  · rfl

@[simp] theorem State.markChanged_sweepQueue (l : Lane) (k : Fin 4) (number target : Nat) (s : State) :
    (s.markChanged l k number target).evu.sweepQueue = s.evu.sweepQueue := rfl

@[simp] theorem State.markRemoved_sweepQueue (k : Fin 4) (number target : Nat) (s : State) :
    (s.markRemoved k number target).evu.sweepQueue = s.evu.sweepQueue := rfl

@[simp] theorem State.lodge_sweepQueue (r : Request) (s : State) : (s.lodge r).evu.sweepQueue = s.evu.sweepQueue := by
  unfold State.lodge State.dropRequest
  dsimp only
  split
  · rfl
  · split <;> simp

@[simp] theorem State.arbitrate_sweepQueue (s : State) : s.arbitrate.evu.sweepQueue = s.evu.sweepQueue := by
  have once (u : State) : u.arbitrateOnce.evu.sweepQueue = u.evu.sweepQueue := by
    unfold State.arbitrateOnce
    dsimp only
    split
    · split <;> rfl
    · rfl
  show s.arbitrateOnce.arbitrateOnce.evu.sweepQueue = _
  rw [once, once]

@[simp] theorem State.sweepVisit_sweepQueue (k : Fin 4) (r : Report) (pos : SweepPos) (s : State) :
    (s.sweepVisit k r pos).evu.sweepQueue = s.evu.sweepQueue := by
  rcases State.sweepVisit_cases k r pos s with ⟨-, h⟩ | ⟨-, -, -, h⟩ | ⟨-, -, -, h⟩ <;> rw [h]
  · rfl
  · refine Eq.trans (b := (s.submit _).evu.sweepQueue) rfl ?_
    unfold State.submit
    split <;> simp
  · rfl

@[simp] theorem State.serveLanes_sweepQueue (s : State) : s.serveLanes.evu.sweepQueue = s.evu.sweepQueue := by
  have retry (u : State) : u.retrySweep.evu.sweepQueue = u.evu.sweepQueue := by
    unfold State.retrySweep
    split
    · rfl
    · split <;> simp
  rcases s.serveLanes_cases with h | ⟨-, -, h⟩ <;> rw [h] <;> simp [retry]

@[simp] theorem State.request_sweepQueue (r : Request) (s : State) : (s.request r).evu.sweepQueue = s.evu.sweepQueue := by
  unfold State.request
  split <;> simp

@[simp] theorem State.file_store (r : Request) (s : State) :
    (s.file r).rps.tags = s.rps.tags ∧ (s.file r).evu.sweepQueue = s.evu.sweepQueue := by
  unfold State.file
  split <;> simp

end Sys2Proof.Machine
end

section
/-! SUPPORT. Tags and sweep's queue through the operations that write reports: gates, captures, segmenter, tracker and completions
change neither (R107, R150). -/

namespace Sys2Proof.Machine

/-! ## Gates -/

@[simp] theorem State.disposeGate_store (t : OpenTrain) (p : GatePair) (x : Side) (r : GateRecord) (s : State) :
    (s.disposeGate t p x r).rps.tags = s.rps.tags ∧ (s.disposeGate t p x r).evu.sweepQueue = s.evu.sweepQueue := by
  unfold State.disposeGate
  split
  · exact ⟨rfl, rfl⟩
  · split
    · split <;> exact ⟨rfl, rfl⟩
    · split <;> simp [State.writeGateRecord]

@[simp] theorem State.finishPair_store (t : OpenTrain) (s : State) :
    (s.finishPair t).rps.tags = s.rps.tags ∧ (s.finishPair t).evu.sweepQueue = s.evu.sweepQueue := by
  unfold State.finishPair
  split
  · split
    · dsimp only
      split
      · split <;> simp
      · exact ⟨rfl, rfl⟩
    · exact ⟨rfl, rfl⟩
  · exact ⟨rfl, rfl⟩

@[simp] theorem State.closeGate_store (x : Side) (gapped truncated : Bool) (s : State) :
    (s.closeGate x gapped truncated).rps.tags = s.rps.tags
      ∧ (s.closeGate x gapped truncated).evu.sweepQueue = s.evu.sweepQueue := by
  unfold State.closeGate
  split
  · split <;> simp
  · exact ⟨rfl, rfl⟩

@[simp] theorem State.closeGates_store (truncated : Bool) (s : State) :
    (s.closeGates truncated).rps.tags = s.rps.tags ∧ (s.closeGates truncated).evu.sweepQueue = s.evu.sweepQueue := by
  simp [State.closeGates]

@[simp] theorem State.gateEdge_store (t : OpenTrain) (s : State) :
    (s.gateEdge t).rps.tags = s.rps.tags ∧ (s.gateEdge t).evu.sweepQueue = s.evu.sweepQueue := by
  simp [State.gateEdge]

/-! ## Captures -/

@[simp] theorem State.writeCribRecord_store (t : OpenTrain) (slot : Fin 4) (k : Fin 16) (a : Nat) (r : CribRecord) (s : State) :
    (s.writeCribRecord t slot k a r).rps.tags = s.rps.tags
      ∧ (s.writeCribRecord t slot k a r).evu.sweepQueue = s.evu.sweepQueue := by
  unfold State.writeCribRecord
  dsimp only
  split <;> simp

@[simp] theorem State.disposeCapture_store (t : OpenTrain) (k : Fin 16) (kind : CloseKind) (c : Capture) (s : State) :
    (s.disposeCapture t k kind c).rps.tags = s.rps.tags
      ∧ (s.disposeCapture t k kind c).evu.sweepQueue = s.evu.sweepQueue := by
  unfold State.disposeCapture
  split
  · exact ⟨rfl, rfl⟩
  · dsimp only
    split
    · exact ⟨rfl, rfl⟩
    · split
      · exact ⟨rfl, rfl⟩
      · split <;> simp

@[simp] theorem State.closeCapture_store (t : OpenTrain) (k : Fin 16) (kind : CloseKind) (c : Capture) (s : State) :
    (s.closeCapture t k kind c).rps.tags = s.rps.tags
      ∧ (s.closeCapture t k kind c).evu.sweepQueue = s.evu.sweepQueue := by
  simp [State.closeCapture]

/-! ## Segmenter -/

@[simp] theorem KeepsNumber.openVehicle (i first : Nat) : KeepsNumber (Report.openVehicle i first) := by
  intro r
  unfold Report.openVehicle
  dsimp only
  split <;> rfl

@[simp] theorem KeepsNumber.removeVehicle (i : Nat) : KeepsNumber (Report.removeVehicle i) := by
  intro r
  unfold Report.removeVehicle
  dsimp only
  split <;> rfl

@[simp] theorem State.segClose_store (t : OpenTrain) (upto : Nat) (s : State) :
    (s.segClose t upto).rps.tags = s.rps.tags ∧ (s.segClose t upto).evu.sweepQueue = s.evu.sweepQueue := by
  unfold State.segClose
  split
  · exact ⟨rfl, rfl⟩
  · dsimp only
    split
    · split <;> simp
    · exact ⟨rfl, rfl⟩

@[simp] theorem State.segCount_store (t : OpenTrain) (n : Nat) (s : State) :
    (s.segCount t n).rps.tags = s.rps.tags ∧ (s.segCount t n).evu.sweepQueue = s.evu.sweepQueue := by
  unfold State.segCount
  split
  · exact ⟨rfl, rfl⟩
  · dsimp only
    split
    · split <;> simp
    · exact ⟨rfl, rfl⟩

@[simp] theorem State.segForward_store (t : OpenTrain) (a v time : Nat) (spacing : Option (Nat × SpacingClass)) (s : State) :
    (s.segForward t a v time spacing).rps.tags = s.rps.tags
      ∧ (s.segForward t a v time spacing).evu.sweepQueue = s.evu.sweepQueue := by
  have push (u : State) : (u.segPush t a spacing).rps.tags = u.rps.tags
      ∧ (u.segPush t a spacing).evu.sweepQueue = u.evu.sweepQueue := by
    unfold State.segPush
    split
    · exact ⟨rfl, rfl⟩
    · simp [State.segMid]
    · exact ⟨rfl, rfl⟩
  simp [State.segForward, push]

@[simp] theorem State.segReverse_store (t : OpenTrain) (n : Nat) (s : State) :
    (s.segReverse t n).rps.tags = s.rps.tags ∧ (s.segReverse t n).evu.sweepQueue = s.evu.sweepQueue := by
  have removed (u : State) : (u.segRemove t).rps.tags = u.rps.tags
      ∧ (u.segRemove t).evu.sweepQueue = u.evu.sweepQueue := by
    unfold State.segRemove
    dsimp only
    split <;> split <;> simp
  unfold State.segReverse
  dsimp only
  split <;> split <;> simp [removed]

/-! ## Tracker -/

@[simp] theorem KeepsNumber.speedRange (v : Nat) : KeepsNumber (Report.modHeader (Header.speedRange v)) := fun _ => rfl
@[simp] theorem KeepsNumber.countAxles (n : Nat) : KeepsNumber (Report.modHeader (Header.countAxles n)) := fun _ => rfl
@[simp] theorem KeepsNumber.appendAxle (x : AxleRecord) : KeepsNumber (fun r => { r with axles := r.axles ++ [x] }) :=
  fun _ => rfl

@[simp] theorem State.setSpeed_store (v : Nat) (s : State) :
    (s.setSpeed v).rps.tags = s.rps.tags ∧ (s.setSpeed v).evu.sweepQueue = s.evu.sweepQueue := by
  simp [State.setSpeed]

@[simp] theorem State.reversal_store (s : State) :
    s.reversal.rps.tags = s.rps.tags ∧ s.reversal.evu.sweepQueue = s.evu.sweepQueue := by
  simp [State.reversal]

@[simp] theorem State.setMotion_store (t : OpenTrain) (pr : Pair) (travel : Direction) (v : Nat) (s : State) :
    (s.setMotion t pr travel v).rps.tags = s.rps.tags ∧ (s.setMotion t pr travel v).evu.sweepQueue = s.evu.sweepQueue := by
  unfold State.setMotion
  dsimp only
  split <;> split <;> simp

@[simp] theorem State.countCrossing_store (t : OpenTrain) (pr : Pair) (inward : Bool) (v : Nat) (s : State) :
    (s.countCrossing t pr inward v).rps.tags = s.rps.tags
      ∧ (s.countCrossing t pr inward v).evu.sweepQueue = s.evu.sweepQueue := by
  unfold State.countCrossing
  split
  · split
    · unfold State.forwardEntry State.flagCountConflict State.newAxle State.rePass
      dsimp only
      split
      · simp
      · split
        · split <;> simp
        · split <;> simp
    · unfold State.reverseEntry State.flagCountConflict State.clampPointers
      split <;> simp
  · split
    · exact ⟨rfl, rfl⟩
    · unfold State.forwardExit
      split <;> exact ⟨rfl, rfl⟩

@[simp] theorem State.openCrossing_store (pr : Pair) (inward : Bool) (v : Nat) (s : State) :
    (s.openCrossing pr inward v).rps.tags = s.rps.tags
      ∧ (s.openCrossing pr inward v).evu.sweepQueue = s.evu.sweepQueue := by
  unfold State.openCrossing
  split <;> simp

/-! ## Completions (R105, R125 to R128, R146) -/

@[simp] theorem KeepsNumber.complete (e : Evaluation) : KeepsNumber (fun r => (e.complete r).1) := by
  intro r
  dsimp only
  unfold Evaluation.complete
  split
  · unfold railCompletion
    split <;> rfl
  · unfold thermalCompletion
    split <;> rfl
  · rfl
  · split
    · rfl
    · unfold vehicleCompletion
      split <;> rfl

@[simp] theorem KeepsNumber.clearDirty (l : Lane) (i : Nat) : KeepsNumber (Report.clearDirty l i) := by
  intro r
  cases l <;> rfl

@[simp] theorem KeepsNumber.unchanged : KeepsNumber id := fun _ => rfl

/-- The end of an evaluation up to the completion test (R105, steps 1 to 3). -/
theorem State.evaluated_store (ev : Evaluation) (s : State) :
    let done := match s.liveReport ev.req.slot ev.req.number with
      | some r => s.completeLive ev r
      | none => s.completeGone ev
    done.rps.tags = s.rps.tags ∧ done.evu.sweepQueue = s.evu.sweepQueue := by
  have dirty (u : State) : (u.settleDirty ev).rps.tags = u.rps.tags ∧ (u.settleDirty ev).evu.sweepQueue = u.evu.sweepQueue := by
    unfold State.settleDirty
    dsimp only
    split
    · exact ⟨rfl, rfl⟩
    · split
      · simp
      · split
        · split <;> simp
        · simp
  have follow (r : Report) (u : State) : (u.followOn ev r).rps.tags = u.rps.tags
      ∧ (u.followOn ev r).evu.sweepQueue = u.evu.sweepQueue := by
    unfold State.followOn State.markCovering
    split
    · split
      · dsimp only
        split <;> simp
      · exact ⟨rfl, rfl⟩
    · exact ⟨rfl, rfl⟩
  dsimp only
  split
  · unfold State.completeLive
    dsimp only
    split <;> simp [dirty, follow]
  · unfold State.completeGone
    split <;> simp

end Sys2Proof.Machine
end

section
/-! SUPPORT. The gate pointer and the gate pair through the moves of the site, which reach the scanner unit for its scanners
alone. -/

namespace Sys2Proof.Machine

/-- The gate pointer and the gate pair are as they were (R139). -/
def Tsu.SameGates (u v : Tsu) : Prop := v.pointer = u.pointer ∧ v.pair = u.pair

theorem Tsu.SameGates.refl (u : Tsu) : u.SameGates u := ⟨rfl, rfl⟩

theorem Tsu.SameGates.trans {u v w : Tsu} (h : u.SameGates v) (h' : v.SameGates w) : u.SameGates w :=
  ⟨h'.1.trans h.1, h'.2.trans h.2⟩

theorem State.leaveSite_gates (s : State) : s.tsu.SameGates s.leaveSite.tsu := by
  unfold State.leaveSite
  dsimp only
  split <;> exact ⟨rfl, rfl⟩

theorem State.followStreams_gates (s : State) : s.tsu.SameGates s.followStreams.tsu := by
  unfold State.followStreams
  split
  · exact ⟨rfl, rfl⟩
  · split <;> exact ⟨rfl, rfl⟩

theorem State.entryActions_gates (s : State) : s.tsu.SameGates s.entryActions.tsu := by
  have call (u : State) : u.tsu.SameGates u.callCalibration.tsu := by
    unfold State.callCalibration
    split <;> exact ⟨rfl, rfl⟩
  unfold State.entryActions
  split
  · exact .refl _
  · exact .refl _
  · exact .refl _
  · split <;> exact .refl _
  · split
    · exact call s
    · exact call _
  · exact .refl _

theorem State.changeSite_gates (new : SiteState) (cause : Cause) (s : State) :
    s.tsu.SameGates (s.changeSite new cause).tsu := by
  have left : s.tsu.SameGates (s.leaveSite.modSsq fun q => { q with site := new }).tsu := s.leaveSite_gates
  exact (left.trans (State.followStreams_gates _)).trans (State.entryActions_gates _)

theorem State.arm_gates (s : State) : s.tsu.SameGates s.arm.tsu := State.changeSite_gates .armed .approach (s.modSsq _)

theorem State.levelCarry_gates (s : State) : s.tsu.SameGates s.levelCarry.tsu := by
  rcases s.levelCarry_cases with ⟨he, -⟩ | ⟨he, -⟩ <;> rw [he]
  · exact s.arm_gates
  · exact .refl _

end Sys2Proof.Machine
end

section
/-! SUPPORT. What the counts and the slots read of a state, and the operations that leave all of it: the ports, the clock, the moves
of the site, the nodes, the writes to a report, the engine. -/

namespace Sys2Proof.Machine

/-- Between two states of one event the open train, the capture units, the gates, the slots' tags and the sweep's queue are as they
were. -/
structure State.KeepsTracks (s t : State) : Prop where
  train : t.axt.train = s.axt.train
  units : t.units = s.units
  gates : s.tsu.SameGates t.tsu
  tags  : t.rps.tags = s.rps.tags
  queue : t.evu.sweepQueue = s.evu.sweepQueue

theorem State.KeepsTracks.refl (s : State) : s.KeepsTracks s := ⟨rfl, rfl, .refl _, rfl, rfl⟩

theorem State.KeepsTracks.trans {s t u : State} (h : s.KeepsTracks t) (h' : t.KeepsTracks u) : s.KeepsTracks u :=
  ⟨h'.train.trans h.train, h'.units.trans h.units, h.gates.trans h'.gates, h'.tags.trans h.tags, h'.queue.trans h.queue⟩

/-- An operation that leaves the blocks beside the tracker's pairs and the scanners. -/
theorem State.KeepsTracks.of_blocks {s t : State} (ht : t.axt.train = s.axt.train) (hu : t.units = s.units)
    (hg : s.tsu.SameGates t.tsu) (hr : t.rps = s.rps) (he : t.evu = s.evu) : s.KeepsTracks t :=
  ⟨ht, hu, hg, by rw [hr], by rw [he]⟩

/-! ## Single updates -/

theorem State.KeepsTracks.advance (d : Nat) (s : State) : s.KeepsTracks (s.advance d) := ⟨rfl, rfl, .refl _, rfl, rfl⟩

theorem State.KeepsTracks.modSsq (f : Ssq → Ssq) (s : State) : s.KeepsTracks (s.modSsq f) := ⟨rfl, rfl, .refl _, rfl, rfl⟩

theorem State.KeepsTracks.modVsg (f : Vsg → Vsg) (s : State) : s.KeepsTracks (s.modVsg f) := ⟨rfl, rfl, .refl _, rfl, rfl⟩

theorem State.KeepsTracks.modNode (g : Fin 4) (f : GaugeNode → GaugeNode) (s : State) : s.KeepsTracks (s.modNode g f) :=
  ⟨rfl, rfl, .refl _, rfl, rfl⟩

theorem State.KeepsTracks.modChannel (k : Fin 16) (f : Channel → Channel) (s : State) : s.KeepsTracks (s.modChannel k f) :=
  ⟨rfl, rfl, .refl _, rfl, rfl⟩

theorem State.KeepsTracks.modScanner (x : Side) (f : Scanner → Scanner) (s : State) : s.KeepsTracks (s.modScanner x f) :=
  ⟨rfl, rfl, .refl _, rfl, rfl⟩

theorem State.KeepsTracks.modPort (p : Port) (f : PortMachine → PortMachine) (s : State) : s.KeepsTracks (s.modPort p f) :=
  ⟨rfl, rfl, .refl _, rfl, rfl⟩

theorem State.KeepsTracks.modPair (pr : Pair) (f : PairMachine → PairMachine) (s : State) : s.KeepsTracks (s.modPair pr f) :=
  ⟨rfl, rfl, .refl _, rfl, rfl⟩

theorem State.KeepsTracks.countStray (s : State) :
    s.KeepsTracks (s.modAxt fun a => { a with stray := sat16 (a.stray + 1) }) := ⟨rfl, rfl, .refl _, rfl, rfl⟩

/-- A change of the engine that leaves the sweep's queue. -/
theorem State.KeepsTracks.modEvu {s : State} {f : Evu → Evu} (hf : (f s.evu).sweepQueue = s.evu.sweepQueue) :
    s.KeepsTracks (s.modEvu f) := ⟨rfl, rfl, .refl _, rfl, hf⟩

theorem State.KeepsTracks.answer (p : Port) (r : QueuedRequest) (a : Reply) (s : State) : s.KeepsTracks (s.answer p r a) :=
  .modPort ..

theorem State.KeepsTracks.post (d : AlertDraft) (s : State) : s.KeepsTracks (s.post d) :=
  .of_blocks (by simp) (by simp) (by simpa using .refl _) (by simp) (by simp)

theorem State.KeepsTracks.writeTrain {f : Report → Report} (hf : KeepsNumber f) (s : State) : s.KeepsTracks (s.writeTrain f) :=
  ⟨by simp, by simp, by simpa using .refl _, State.writeTrain_tags f s hf, by simp⟩

/-! ## The moves of the site -/

theorem State.KeepsTracks.changeSite (new : SiteState) (cause : Cause) (s : State) : s.KeepsTracks (s.changeSite new cause) :=
  .of_blocks (by simp) (by simp) (s.changeSite_gates new cause) (by simp) (by simp)

theorem State.KeepsTracks.arm (s : State) : s.KeepsTracks s.arm := (modSsq _ s).trans (changeSite ..)

theorem State.KeepsTracks.levelCarry (s : State) : s.KeepsTracks s.levelCarry :=
  .of_blocks (by simp) (by simp) s.levelCarry_gates (by simp) (by simp)

theorem State.KeepsTracks.applyPending (s : State) : s.KeepsTracks s.applyPending := ⟨rfl, rfl, .refl _, rfl, rfl⟩

theorem State.KeepsTracks.settleIfBegun (b : Bool) (s : State) : s.KeepsTracks (s.settleIfBegun b) :=
  .of_blocks (by simp) (by simp) (by simpa using .refl _) (by simp) (by simp)

theorem State.KeepsTracks.enter (new : SiteState) (cause : Cause) (s : State) : s.KeepsTracks (s.enter new cause) :=
  ((changeSite new cause s).trans (settleIfBegun ..)).trans (levelCarry _)

theorem State.KeepsTracks.siteClosure (s : State) : s.KeepsTracks s.siteClosure := by
  unfold State.siteClosure
  split
  · exact (modSsq _ s).trans (enter ..)
  · refine (enter s.restState .trainClosure s).trans ?_
    generalize s.enter s.restState .trainClosure = u
    have carry : u.KeepsTracks (if u.levelMode then u.modSsq fun q => { q with latch := false } else u.arm) := by
      split
      · exact modSsq ..
      · exact arm u
    dsimp only
    split
    · split
      · exact carry
      · exact carry
      · exact refl u
    · exact refl u

theorem State.KeepsTracks.reportEdge (s : State) : s.KeepsTracks s.reportEdge := by
  unfold State.reportEdge
  split
  · exact enter ..
  · exact enter ..
  · split
    · exact modSsq ..
    · exact refl s
  · exact refl s

theorem State.KeepsTracks.falseApproach (cause : Cause) (s : State) : s.KeepsTracks (s.falseApproach cause) :=
  (modSsq _ s).trans (enter ..)

theorem State.KeepsTracks.enableSite (s : State) : s.KeepsTracks s.enableSite := by
  unfold State.enableSite
  split
  · exact enter ..
  · exact modSsq ..
  · exact refl s

theorem State.KeepsTracks.disableSite (s : State) : s.KeepsTracks s.disableSite := by
  unfold State.disableSite
  split
  · exact refl s
  · exact modSsq ..
  · exact enter ..

theorem State.KeepsTracks.dormancyOnSite (s : State) : s.KeepsTracks s.dormancyOnSite := by
  unfold State.dormancyOnSite
  refine (modSsq (fun q => { q with dormancy := true }) s).trans ?_
  dsimp only
  split
  · exact enter ..
  · exact refl _

theorem State.KeepsTracks.dormancyOffSite (s : State) : s.KeepsTracks s.dormancyOffSite := by
  unfold State.dormancyOffSite
  refine (modSsq (fun q => { q with dormancy := false, restTimer := none }) s).trans ?_
  dsimp only
  split
  · exact enter ..
  · exact enter ..
  · exact refl _

theorem State.KeepsTracks.applyConfig (it : Item) (v : Nat) (o : ReplyOutcome) (s : State) :
    s.KeepsTracks (s.applyConfig it v o) := by
  have set : s.KeepsTracks (s.setActive it v) := ⟨rfl, rfl, .refl _, rfl, rfl⟩
  unfold State.applyConfig
  split
  · refine set.trans ?_
    unfold State.afterActive
    split
    · exact .of_blocks (by simp) (by simp) (by simpa using .refl _) (by simp) (by simp)
    · split
      · exact levelCarry _
      · exact refl _
  · exact ⟨rfl, rfl, .refl _, rfl, rfl⟩
  · exact refl s

theorem State.KeepsTracks.serveConfigSet (p : Port) (r : QueuedRequest) (s : State) : s.KeepsTracks (s.serveConfigSet p r) := by
  unfold State.serveConfigSet
  split
  · exact answer ..
  · dsimp only
    split
    · exact answer ..
    · exact (answer ..).trans (applyConfig ..)

/-! ## Scanners and engine -/

theorem State.KeepsTracks.failCalibration (x : Side) (s : State) : s.KeepsTracks (s.failCalibration x) :=
  (modScanner x _ s).trans (post ..)

theorem State.KeepsTracks.calibrationFrame (x : Side) (f : ScannerFrame) (s : State) : s.KeepsTracks (s.calibrationFrame x f) := by
  unfold State.calibrationFrame
  split
  · exact refl s
  · exact refl s
  · exact modScanner ..
  · exact modScanner ..
  · exact failCalibration x s

theorem State.KeepsTracks.ambientFrame (x : Side) (f : ScannerFrame) (t : Option Int) (s : State) :
    s.KeepsTracks (s.ambientFrame x f t) := by
  unfold State.ambientFrame
  split
  · split
    · exact modScanner ..
    · exact refl s
  · exact refl s

theorem State.KeepsTracks.serveLanes (s : State) : s.KeepsTracks s.serveLanes :=
  ⟨by simp, by simp, by simpa using .refl _, by simp, by simp⟩

theorem State.KeepsTracks.sweepVisit (k : Fin 4) (r : Report) (pos : SweepPos) (s : State) :
    s.KeepsTracks (s.sweepVisit k r pos) :=
  ⟨by simp, by simp, by simpa using .refl _, by simp, by simp⟩

/-- The end of an evaluation before the completion test (R105, steps 1 to 3 and the release). -/
theorem State.KeepsTracks.evaluated (e : Fin 2) (ev : Evaluation) (s : State) : s.KeepsTracks
    ((match s.liveReport ev.req.slot ev.req.number with
      | some r => s.completeLive ev r
      | none => s.completeGone ev).release e) := by
  obtain ⟨htags, hqueue⟩ := s.evaluated_store ev
  refine ⟨?_, ?_, ?_, htags, hqueue⟩ <;> split <;> simp [Tsu.SameGates]

end Sys2Proof.Machine
end

section
/-! SUPPORT. One walk through the commands for every condition on the open train, its pointers, captures and gates, the slots and
the sweep's queue: a condition that the few operations on these keep is kept by every step. -/

namespace Sys2Proof.Machine

/-- Two records of an open train with the same identity and the same counts (R31, R37). -/
structure OpenTrain.SameCounts (t u : OpenTrain) : Prop where
  slot   : u.slot = t.slot
  number : u.number = t.number
  n      : u.n = t.n
  h      : u.h = t.h
  x      : u.x = t.x

/-- A condition that is kept by each operation on the open train, the capture units, the gates, the slots and the sweep's queue. -/
structure Tracked (P : State → Prop) : Prop where
  quiet     : ∀ {s t : State}, s.KeepsTracks t → P s → P t
  timed     : ∀ {s : State} {f : OpenTrain → OpenTrain}, (∀ t : OpenTrain, t.SameCounts (f t)) → P s → P (s.modTrain f)
  /-- A capture opens (R81). -/
  opens     : ∀ {s : State} {t : OpenTrain} (k : Fin 16) (y : Nat) (ovr : Bool), s.axt.train = some t → P s →
    P (s.openCapture t k y ovr)
  /-- A unit follows its capture, or counts a gap (R63, R83, R85). -/
  follows   : ∀ {s : State} {k : Fin 16} {f : CaptureUnit → CaptureUnit}, (f s.units[k]).pointer = s.units[k].pointer →
    (f s.units[k]).capture.map (·.slot) = s.units[k].capture.map (·.slot) → P s → P (s.modUnit k f)
  /-- A capture closes and is disposed of (R91). -/
  closes    : ∀ {s : State} {t : OpenTrain} (k : Fin 16) (kind : CloseKind) (c : Capture), s.axt.train = some t → P s →
    P (s.closeCapture t k kind c)
  /-- The values of the open gates and the remaining time change (R140, R141). -/
  gates     : ∀ {s : State} {f : GatePair → GatePair}, (∀ p x, ((f p).gates.get x).isSome = (p.gates.get x).isSome) → P s →
    P (s.modTsu fun u => { u with pair := u.pair.map f })
  /-- A gate closes (R142). -/
  shuts     : ∀ {s : State} (x : Side) (gapped truncated : Bool), P s → P (s.closeGate x gapped truncated)
  /-- Both gates open (R139). -/
  edges     : ∀ {s : State} {t : OpenTrain}, s.axt.train = some t → P s → P (s.restartClear.restartHalt.gateEdge t)
  /-- A crossing of the open train (R24 to R36). -/
  crosses   : ∀ {s : State} (pr : Pair) (inward : Bool) (v : Nat), P s → P (s.openCrossing pr inward v)
  /-- A train start up to the site's entry (R37). -/
  starts    : ∀ {s : State} (k : Fin 4) (pr : Pair), s.axt.train = none → P s → P (s.trainOpened k pr)
  /-- A train's closure up to the site's part in it (R42). -/
  ends      : ∀ {s : State} {t : OpenTrain} (kind : ClosureKind), s.axt.train = some t → P s → P (s.trainClosed t kind)
  /-- The report that the sweep serves becomes COMPLETE (R109). -/
  completes : ∀ {s : State} {k : Fin 4}, s.evu.sweepQueue.head? = some k → P s → P (s.slotCompleted k)
  /-- A COMPLETE report is released (R160). -/
  releases  : ∀ {s : State} {k : Fin 4} {h : HeldSlot}, s.rps.slots[k] = some h → h.st = .complete → P s →
    P (s.modRps fun x => { x with slots := x.slots.set k (some { h with st := .released }) })
  /-- RESTART up to its change of the site state (R19). -/
  restarts  : ∀ {s : State}, P s → P s.restarted
  reset     : P State.reset

variable {P : State → Prop}

/-! ## Captures (R63, R80 to R90) -/

theorem Tracked.captureSample (hP : Tracked P) {s : State} (h : P s) (k : Fin 16) (y : Nat) (ovr : Bool) :
    P (s.captureSample k y ovr) := by
  unfold State.captureSample
  split
  · exact h
  rename_i t ht
  split
  · exact h
  split
  · split
    · exact hP.opens k y ovr ht h
    · exact h
  rename_i c hc
  have stores (c' : Capture) (hs : c'.slot = c.slot) : P (s.modUnit k fun u => { u with capture := some c' }) :=
    hP.follows rfl (by rw [hc]; exact congrArg some hs) h
  split
  · unfold State.followCapture
    dsimp only
    split
    · exact hP.closes k _ _ ht h
    · split
      · have hclosed := hP.closes k .truncated (s.useSample t.speed y ovr c) ht h
        split
        · exact hP.opens k y ovr (by simpa using ht) hclosed
        · exact hclosed
      · exact stores _ rfl
  · exact stores _ rfl

theorem Tracked.channelSample (hP : Tracked P) {s : State} (h : P s) (k : Fin 16) (x : Int) (ovr : Bool) :
    P (s.channelSample k x ovr) := by
  have hc := hP.captureSample h k (s.channels[k].convert x ovr) ovr
  unfold State.channelSample State.trackBaseline
  split
  · exact hP.quiet (.modChannel ..) hc
  · exact hc

theorem Tracked.deliver (hP : Tracked P) {s : State} (h : P s) (g : Fin 4) (f : GaugeFrame) : P (s.deliver g f) :=
  List.foldlRecOn (nodeChannels g) _ h fun _ hu _ _ => hP.channelSample hu ..

theorem Tracked.gaugeGap (hP : Tracked P) {s : State} (h : P s) (g : Fin 4) (missing : Nat) : P (s.gaugeGap g missing) :=
  List.foldlRecOn (nodeChannels g) _ h fun u hu j _ => hP.follows rfl (by cases (u.units[j.2]).capture <;> rfl) hu

theorem Tracked.closeIfOpen (hP : Tracked P) {s : State} (h : P s) (k : Fin 16) (kind : Capture → CloseKind) :
    P (s.closeIfOpen k kind) := by
  unfold State.closeIfOpen
  split
  · rename_i ht _
    exact hP.closes k _ _ ht h
  · exact h

/-! ## Nodes and scanners -/

theorem Tracked.gaugeFrame (hP : Tracked P) {g : Fin 4} {t : Nat} {a : GaugeArrival} {s u : State} (h : P s)
    (he : execGaugeFrame g t a s = .next u) : P u := by
  replace h := hP.quiet (.advance t s) h
  obtain rfl := Host.Outcome.next.inj he
  generalize s.advance t = v at h
  have node {w : State} (hw : P w) (f : GaugeNode → GaugeNode) : P (w.modNode g f) := hP.quiet (.modNode ..) hw
  split
  · exact h
  · exact node h _
  · unfold State.settlingFrame
    split
    · exact node h _
    · exact node (node h _) _
    · exact node (node (node h _) _) _
  · unfold State.presentFrame
    split
    · exact node h _
    · exact hP.deliver (node h _) g _
    · exact hP.deliver (hP.gaugeGap (node (node h _) _) g _) g _
  · unfold State.resyncFrame
    dsimp only
    split
    · exact node (node h _) _
    · exact hP.deliver (node (node h _) _) g _

theorem Tracked.loseGauge (hP : Tracked P) {s : State} (h : P s) (g : Fin 4) : P (s.loseGauge g) := by
  have node {w : State} (hw : P w) (f : GaugeNode → GaugeNode) : P (w.modNode g f) := hP.quiet (.modNode ..) hw
  refine hP.quiet (.post ..) (node ?_ _)
  exact List.foldlRecOn (nodeChannels g) _ (node h _) fun u hu j _ => hP.closeIfOpen hu ..

theorem Tracked.modGate (hP : Tracked P) {s : State} (h : P s) (x : Side) (f : Gate → Gate) : P (s.modGate x f) := by
  refine hP.gates (f := fun p => { p with gates := p.gates.upd x (·.map f) }) (fun p y => ?_) h
  dsimp only
  rw [PerSide.get_upd]
  split
  · exact Option.isSome_map
  · rfl

theorem Tracked.acceptScannerFrame (hP : Tracked P) {s : State} (h : P s) (x : Side) (f : ScannerFrame) :
    P (s.acceptScannerFrame x f) := by
  unfold State.acceptScannerFrame
  dsimp only
  refine hP.quiet (.ambientFrame ..) ?_
  have hc := hP.quiet ((State.KeepsTracks.modScanner x (fun y => { y with
    prev := some f.seq, lossTimer := some (s.now + ms (s.cfg .tlost)) }) s).trans (.calibrationFrame x f _)) h
  unfold State.gateFrame
  split
  · exact hP.modGate hc x _
  · exact hc

theorem Tracked.scannerFrame (hP : Tracked P) {x : Side} {t : Nat} {a : ScannerArrival} {s u : State} (h : P s)
    (he : execScannerFrame x t a s = .next u) : P u := by
  replace h := hP.quiet (.advance t s) h
  obtain rfl := Host.Outcome.next.inj he
  generalize s.advance t = v at h
  have scanner (f : Scanner → Scanner) : P (v.modScanner x f) := hP.quiet (.modScanner ..) h
  split
  · exact h
  · split
    · unfold State.presentScannerFrame
      split
      · exact hP.acceptScannerFrame h x _
      · exact scanner _
      · exact hP.acceptScannerFrame (hP.modGate (scanner _) x _) x _
    · exact scanner _
  · split
    · exact hP.acceptScannerFrame (scanner _) x _
    · exact scanner _

theorem Tracked.loseScanner (hP : Tracked P) {s : State} (h : P s) (x : Side) : P (s.loseScanner x) := by
  have scanner {u : State} (hu : P u) (f : Scanner → Scanner) : P (u.modScanner x f) := hP.quiet (.modScanner ..) hu
  refine hP.quiet (.post ..) (scanner ?_ _)
  have hc := hP.shuts x true false (scanner h fun y => { y with status := .lost, lossTimer := none })
  split
  · exact hP.quiet (.failCalibration ..) hc
  · exact hc

/-! ## Edges and the train's timers -/

theorem Tracked.trainStart (hP : Tracked P) {s : State} (ht : s.axt.train = none) (h : P s) (pr : Pair) (v : Nat) :
    P (s.trainStart pr v) := by
  unfold State.trainStart
  split
  · rename_i k _
    refine hP.crosses pr true v ?_
    have hentered := hP.quiet (.enter .passage .trainStart _) (hP.starts k pr ht h)
    rw [State.startTrainIn_eq]
    split
    · exact hP.quiet (.writeTrain (.modFlags _) _) hentered
    · exact hentered
  · exact h

theorem Tracked.restartClear (hP : Tracked P) {s : State} (h : P s) : P s.restartClear :=
  hP.timed (fun _ => ⟨rfl, rfl, rfl, rfl, rfl⟩) h

theorem Tracked.pairEdge (hP : Tracked P) {s : State} (h : P s) (pr : Pair) (outer : Bool) : P (s.pairEdge pr outer) := by
  obtain ⟨m, c, ⟨-, he⟩ | ⟨ht, he⟩⟩ := s.pairEdge_cases pr outer <;> rw [he] <;>
    have hm := hP.quiet (.modPair pr (fun _ => m) s) h
  · unfold State.passageCrossing
    split
    · exact hP.crosses _ _ _ (hP.restartClear hm)
    · exact hP.restartClear hm
  · unfold State.idleCrossing
    split
    · exact hP.trainStart (by simpa using ht) hm pr _
    · exact hP.quiet ((State.KeepsTracks.countStray _).trans (.reportEdge _)) hm
    · exact hP.quiet (.reportEdge _) hm

theorem Tracked.declareHalt (hP : Tracked P) {s : State} (h : P s) (t : OpenTrain) : P (s.declareHalt t) := by
  have hheld := hP.gates (f := fun p => { p with clock := match p.clock with
    | .running d => .held (d - s.now) | .held r => .held r }) (fun _ _ => rfl)
    (hP.quiet (.modVsg (fun g => { g with interrupted := true }) _) (hP.timed (f := fun t => { t with
      motion := .halted, speed := 0, haltTimer := none, standTimer := some (s.now + sec (s.cfg .tstand)) })
      (fun _ => ⟨rfl, rfl, rfl, rfl, rfl⟩) h))
  unfold State.declareHalt
  dsimp only
  split
  · exact hP.quiet (.writeTrain (.modFlags _) _) hheld
  · exact hheld

theorem Tracked.closeTrain (hP : Tracked P) {s : State} {t : OpenTrain} (ht : s.axt.train = some t) (h : P s)
    (kind : ClosureKind) : P (s.closeTrain t kind) := by
  rw [State.closeTrain_eq]
  exact hP.quiet (.siteClosure _) (hP.ends kind ht h)

theorem Tracked.clearTest (hP : Tracked P) {s : State} {t : OpenTrain} (ht : s.axt.train = some t) (h : P s) :
    P (s.clearTest t) := by
  unfold State.clearTest
  split
  · exact hP.closeTrain ht h _
  · split
    · exact hP.closeTrain ht h _
    · exact hP.timed (fun _ => ⟨rfl, rfl, rfl, rfl, rfl⟩) h

/-! ## Sweep and completion -/

theorem Tracked.completionTest (hP : Tracked P) {s : State} (h : P s) (k : Fin 4) : P (s.completionTest k) := by
  unfold State.completionTest
  split
  · rename_i hc
    simp only [Bool.and_eq_true, Evu.restsOn, beq_iff_eq] at hc
    obtain ⟨⟨⟨⟨hk, -⟩, -⟩, -⟩, -⟩ := hc
    rw [State.completeSlot_eq]
    exact hP.quiet ((State.KeepsTracks.settleIfBegun ..).trans (.levelCarry _)) (hP.completes hk h)
  · exact h

theorem Tracked.endPass (hP : Tracked P) {s : State} (h : P s) (k : Fin 4) : P (s.endPass k) := by
  unfold State.endPass
  split
  · exact hP.quiet (.modEvu rfl) h
  · exact hP.completionTest (hP.quiet (.modEvu rfl) h) k

theorem Tracked.sweepStep (hP : Tracked P) {s u : State} (h : P s) (he : execSweepStep s = .next u) : P u := by
  obtain rfl := Host.Outcome.next.inj he
  split
  · exact h
  rename_i k _
  split
  · exact h
  split
  · exact h
  rename_i r _
  dsimp only
  split
  · exact hP.endPass (hP.quiet (.modEvu rfl) h) k
  · have hv := hP.quiet (.sweepVisit k r.report (s.evu.sweepPos.norm r.report) s) h
    unfold State.sweepAt
    dsimp only
    split
    · exact hP.endPass hv k
    · exact hv

/-! ## Every command -/

theorem Tracked.serveRelease (hP : Tracked P) {s : State} (h : P s) (p : Port) (r : QueuedRequest) : P (s.serveRelease p r) := by
  have answered (a : Reply) : P (s.answer p r a) := hP.quiet (.answer ..) h
  unfold State.serveRelease
  split
  · split
    · exact answered _
    · split
      · split
        · rename_i hk hst
          exact hP.releases (by simpa [Vector.get_eq_getElem] using hk) hst (answered _)
        · exact answered _
      · exact answered _
  · exact answered _

theorem Tracked.serveAction (hP : Tracked P) {s : State} {p : Port} {outcome : State → ReplyOutcome} {effect : State → State}
    (he : ∀ v : State, P v → P (effect v)) (h : P s) (r : QueuedRequest) : P (s.serveAction p outcome effect r) :=
  he _ (hP.quiet (.answer ..) h)

/-- The commands that move no site keep the condition. -/
theorem Tracked.exec_of_movesNoSite (hP : Tracked P) {c : Instr} (hc : movesNoSite c = true) {s u : State} (hs : P s)
    (h : exec c s = .next u) : P u := by
  have keep {v : State} (hk : s.KeepsTracks v) : P v := hP.quiet hk hs
  have blocks {v : State} (ht : v.axt.train = s.axt.train) (hu : v.units = s.units) (hg : v.tsu = s.tsu) (hr : v.rps = s.rps)
      (he : v.evu = s.evu) : P v := keep (.of_blocks ht hu (by rw [hg]; exact .refl _) hr he)
  have at_ (d : Nat) : P (s.advance d) := keep (.advance d s)
  cases c <;> simp only [movesNoSite, reduceCtorEq] at hc
  case gaugeFrame g t a => exact hP.gaugeFrame hs h
  case scannerFrame x t a => exact hP.scannerFrame hs h
  all_goals obtain rfl := Host.Outcome.next.inj h
  case portFramingReady p => split <;> exact blocks (by simp) (by simp) (by simp) (by simp) (by simp)
  case frameReceived p t bytes => exact hP.quiet (.modPort ..) (at_ t)
  case badKind p => exact State.serve_of hs p _ _ fun _ => keep (.modPort ..)
  case calibrationSet p => exact State.serve_of hs p _ _ fun _ => blocks (by simp) (by simp) (by simp) (by simp) (by simp)
  case trainStream p => exact State.serve_of hs p _ _ fun _ => blocks (by simp) (by simp) (by simp) (by simp) (by simp)
  case trainRelease p => exact State.serve_of hs p _ _ fun r => hP.serveRelease hs p r
  case alertTake p => exact State.serve_of hs p _ _ fun _ => blocks (by simp) (by simp) (by simp) (by simp) (by simp)
  case outputFrameSent p => split <;> exact blocks rfl rfl rfl rfl rfl
  case streamPage p =>
    split
    · split
      · exact hs
      · split
        · exact keep (.modPort ..)
        · exact hs
    · exact hs
  case lineBreak p => split <;> exact blocks rfl rfl rfl rfl rfl
  case lineBreakEnd p => exact keep (.modPort ..)
  case pairTimerExpiry pr => split <;> exact blocks rfl rfl rfl rfl rfl
  case haltTimerExpiry =>
    split
    · split
      · split
        · exact hP.declareHalt (at_ _) _
        · exact hs
      · exact hs
    · exact hs
  case gaugeLossTimerExpiry g =>
    split
    · split
      · exact hP.loseGauge (at_ _) g
      · exact hs
    · exact hs
  case quietTimerExpiry k =>
    split
    · exact hP.quiet (.modChannel ..) (at_ _)
    · exact hs
  case scannerLossTimerExpiry x =>
    split
    · split
      · exact hP.loseScanner (at_ _) x
      · exact hs
    · exact hs
  case shutterTimerExpiry x =>
    split
    · split
      · exact hP.quiet (.failCalibration ..) (at_ _)
      · exact hs
    · exact hs
  case gateTimeExpiry =>
    split
    · split
      · exact hP.shuts .b false false (hP.shuts .a false false (at_ _))
      · exact hs
    · exact hs
  all_goals exact State.serve_of hs _ _ _ fun _ => keep (.answer ..)

/-- Every command keeps the condition. -/
theorem Tracked.exec (hP : Tracked P) {c : Instr} {s u : State} (hs : P s) (h : exec c s = .next u) : P u := by
  have keep {v : State} (hk : s.KeepsTracks v) : P v := hP.quiet hk hs
  have at_ (d : Nat) : P (s.advance d) := keep (.advance d s)
  have control (p : Port) (action : Nat) (act : QueuedRequest → State → State) (ha : ∀ r, P (act r s)) :
      P (s.serveControl p action act) := State.serveControl_of hs p action act (fun _ _ => keep (.answer ..)) ha
  cases hc : movesNoSite c
  case true => exact hP.exec_of_movesNoSite hc hs h
  cases c <;> simp only [movesNoSite, reduceCtorEq] at hc
  case sweepStep => exact hP.sweepStep hs h
  all_goals obtain rfl := Host.Outcome.next.inj h
  case powerOn => exact hP.quiet (s := State.reset) ⟨rfl, rfl, .refl _, rfl, rfl⟩ hP.reset
  case clockSet p =>
    refine State.serve_of hs p _ _ fun r => ?_
    split
    · exact keep ((State.KeepsTracks.answer ..).trans (.modSsq ..))
    · exact keep (.answer ..)
  case enable p => exact control _ _ _ (hP.serveAction (fun v => hP.quiet (.enableSite v)) hs)
  case disable p => exact control _ _ _ (hP.serveAction (fun v => hP.quiet (.disableSite v)) hs)
  case dormancyOn p => exact control _ _ _ (hP.serveAction (fun v => hP.quiet (.dormancyOnSite v)) hs)
  case dormancyOff p => exact control _ _ _ (hP.serveAction (fun v => hP.quiet (.dormancyOffSite v)) hs)
  case restart p =>
    refine control _ _ _ (hP.serveAction (fun v hv => ?_) (keep (.modPort ..)))
    rw [State.restartSite_eq]
    exact hP.quiet (((State.KeepsTracks.changeSite ..).trans (.applyPending _)).trans (.levelCarry _)) (hP.restarts hv)
  case configSet p => exact State.serve_of hs p _ _ fun r => keep (.serveConfigSet p r s)
  case approachRisingEdge t =>
    have hu := hP.quiet (.modSsq (fun q => { q with approachInput := true }) _) (at_ t)
    split
    · exact hu
    · exact hP.quiet (.arm _) hu
    · exact hP.quiet (.arm _) hu
    · exact hP.quiet (.arm _) hu
    · split
      · exact hu
      · exact hP.quiet (.modSsq ..) hu
    · exact hP.quiet (.modSsq ..) hu
  case approachFallingEdge t =>
    have hu := hP.quiet (.modSsq (fun q => { q with approachInput := false }) _) (at_ t)
    split
    · exact hP.quiet (.falseApproach ..) hu
    · exact hu
  case armingTimerExpiry =>
    split
    · split
      · exact hP.quiet (.falseApproach ..) (at_ _)
      · exact hs
    · exact hs
  case sweepTimerExpiry =>
    split
    · split
      · exact hP.quiet (.enter ..) (at_ _)
      · exact hs
    · exact hs
  case sweepDurationExpiry =>
    split
    · split
      · exact hP.quiet (.enter ..) (at_ _)
      · exact hs
    · exact hs
  case restTimerExpiry =>
    split
    · split
      · exact hP.quiet (.enter ..) (at_ _)
      · exact hs
    · exact hs
  case siteClockTick => exact hP.quiet (.modSsq ..) (at_ _)
  case wheelSensorEdge w t =>
    split
    · exact at_ t
    · exact hP.pairEdge (at_ t) ..
  case gateSensorEdge t =>
    split
    · rename_i ht
      exact hP.edges (s := s.advance t) ht (at_ t)
    · split
      · exact at_ t
      · exact hP.quiet (.reportEdge _) (at_ t)
  case clearTimerExpiry =>
    split
    · rename_i ht
      split
      · rename_i d _
        exact hP.clearTest (s := s.advance d) ht (at_ d)
      · exact hs
    · exact hs
  case standTimerExpiry =>
    split
    · rename_i ht
      split
      · rename_i d _
        exact hP.closeTrain (s := s.advance d) ht (at_ d) _
      · exact hs
    · exact hs
  case evaluationCompletion e =>
    split
    · exact hs
    · rename_i ev _
      exact hP.quiet (.serveLanes _) (hP.completionTest (keep (.evaluated e ev s)) _)

/-- Every step keeps the condition. -/
theorem Tracked.step (hP : Tracked P) {s t : State} (hs : P s) (h : step s = .next t) : P t :=
  step_of (motive := P) (fun v => hP.quiet (t := v.idle) ⟨rfl, rfl, .refl _, rfl, rfl⟩)
    (fun v q => hP.quiet (t := { v with pending := q }) ⟨rfl, rfl, .refl _, rfl, rfl⟩) (fun _ _ _ => hP.exec) hs h

end Sys2Proof.Machine
end

section
/-! SUPPORT. What a closing gate and a closing capture leave: the pointers, the gate pair, the open captures (R82, R91, R139, R142,
R143). -/

namespace Sys2Proof.Machine

/-! ## Gates -/

/-- An open gate pair has an open gate (R143). -/
def State.GatesOpen (s : State) : Prop := ∀ p, s.tsu.pair = some p → ∃ x, p.gates.get x ≠ none

theorem State.finishPair_gatesOpen (t : OpenTrain) (s : State) : (s.finishPair t).GatesOpen := by
  unfold State.GatesOpen State.finishPair
  intro q hq
  split at hq
  · rename_i p hp
    split at hq
    · dsimp only at hq
      split at hq
      · split at hq <;> simp at hq
      · simp at hq
    · rename_i hopen
      obtain rfl : p = q := Option.some.inj (hp.symm.trans hq)
      rw [Bool.and_eq_true, Option.isNone_iff_eq_none, Option.isNone_iff_eq_none, Classical.not_and_iff_not_or_not] at hopen
      exact hopen.elim (fun ha => ⟨.a, ha⟩) (fun hb => ⟨.b, hb⟩)
  · rename_i hp
    exact nomatch hp.symm.trans hq

/-- A gate that is told to close stays as it is, or was open and is disposed of, and with it its pair if it was the last. -/
theorem State.closeGate_cases (x : Side) (gapped truncated : Bool) (s : State) : s.closeGate x gapped truncated = s
    ∨ ∃ t p g, s.axt.train = some t ∧ s.tsu.pair = some p ∧ s.closeGate x gapped truncated =
      ((s.modTsu fun u => { u with pair := some (p.shut x) }).disposeGate t p x
        (gateRecordOf g (s.tsu.scanners.get x).ambient gapped truncated)).finishPair t := by
  cases ht : s.axt.train with
  | none =>
    left
    unfold State.closeGate
    rw [ht]
    cases s.tsu.pair <;> rfl
  | some t =>
    cases hg : s.gateOf x with
    | none => exact .inl (State.closeGate_of_none hg ..)
    | some g =>
      obtain ⟨p, hp, hx⟩ := Option.bind_eq_some_iff.mp hg
      exact .inr ⟨t, p, g, rfl, hp, State.closeGate_open ht hp hx gapped truncated⟩

theorem State.closeGate_gatesOpen {s : State} (h : s.GatesOpen) (x : Side) (gapped truncated : Bool) :
    (s.closeGate x gapped truncated).GatesOpen := by
  rcases s.closeGate_cases x gapped truncated with he | ⟨t, p, g, -, -, he⟩ <;> rw [he]
  · exact h
  · exact State.finishPair_gatesOpen _ _

theorem State.closeGate_pair_none {s : State} (h : s.tsu.pair = none) (x : Side) (gapped truncated : Bool) :
    s.closeGate x gapped truncated = s := by
  unfold State.closeGate
  rw [h]

theorem State.closeGates_pair_none {s : State} (h : s.tsu.pair = none) (truncated : Bool) : s.closeGates truncated = s := by
  rw [State.closeGates, State.closeGate_pair_none h, State.closeGate_pair_none h]

/-- With both gates closed the pair is gone (R143). -/
theorem State.closeGates_pair {s : State} (ht : s.axt.train.isSome) (h : s.GatesOpen) (truncated : Bool) :
    (s.closeGates truncated).tsu.pair = none := by
  have hopen : (s.closeGates truncated).GatesOpen := State.closeGate_gatesOpen (State.closeGate_gatesOpen h _ _ _) _ _ _
  cases hp : (s.closeGates truncated).tsu.pair with
  | none => rfl
  | some p =>
    obtain ⟨x, hx⟩ := hopen p hp
    have hg := State.closeGates_gateOf ht truncated x
    unfold State.gateOf at hg
    rw [hp] at hg
    exact absurd hg hx

/-- A closing gate leaves the gate pointer, or sets it back to no more than N (R142). -/
theorem State.closeGate_pointer {s : State} {t : OpenTrain} (ht : s.axt.train = some t) (x : Side) (gapped truncated : Bool) :
    (s.closeGate x gapped truncated).tsu.pointer = s.tsu.pointer ∨ (s.closeGate x gapped truncated).tsu.pointer ≤ t.n := by
  have disposed (p : GatePair) (r : GateRecord) (u : State) : (u.disposeGate t p x r).tsu.pointer = u.tsu.pointer
      ∨ (u.disposeGate t p x r).tsu.pointer ≤ t.n := by
    unfold State.disposeGate
    split
    · exact .inl rfl
    · split
      · split
        · exact .inl rfl
        · exact .inr (Nat.min_le_right ..)
      · split <;> exact .inl (by simp [State.writeGateRecord])
  have finished (u : State) : (u.finishPair t).tsu.pointer = u.tsu.pointer := by
    unfold State.finishPair
    split
    · split
      · dsimp only
        split
        · split <;> simp
        · rfl
      · rfl
    · rfl
  rcases s.closeGate_cases x gapped truncated with he | ⟨t', p, g, ht', -, he⟩
  · exact .inl (by rw [he])
  · obtain rfl := Option.some.inj (ht.symm.trans ht')
    rw [he, finished]
    exact disposed ..

/-! ## Captures -/

theorem applyPointer_le (taken : RelDir) {pointer n : Nat} (h : pointer ≤ n) : (applyPointer taken pointer n).2.1 ≤ n := by
  unfold applyPointer
  split <;> split <;> dsimp only <;> omega

theorem vupd_get {α : Type} {n : Nat} (v : Vector α n) (i j : Fin n) (f : α → α) :
    (vupd v i f)[j] = if j = i then f v[j] else v[j] := by
  by_cases h : j = i
  · subst h
    rw [if_pos rfl]
    exact vupd_get_self ..
  · rw [if_neg h, vupd_get_ne v h]

theorem State.writeCribRecord_units (t : OpenTrain) (slot : Fin 4) (k : Fin 16) (a : Nat) (r : CribRecord) (s : State) :
    (s.writeCribRecord t slot k a r).units = s.units := by
  unfold State.writeCribRecord
  dsimp only
  split <;> simp

/-- A disposal leaves the units, or counts in its own, whose pointer stays or is set back to no more than N (R91). -/
theorem State.disposeCapture_units (t : OpenTrain) (k : Fin 16) (kind : CloseKind) (c : Capture) (s : State) :
    (s.disposeCapture t k kind c).units = s.units ∨ ∃ f : CaptureUnit → CaptureUnit, (∀ u, (f u).capture = u.capture) ∧
      (∀ u, (f u).pointer = u.pointer ∨ (f u).pointer ≤ t.n) ∧ (s.disposeCapture t k kind c).units = vupd s.units k f := by
  unfold State.disposeCapture
  split
  · exact .inl rfl
  · dsimp only
    split
    · exact .inr ⟨_, fun _ => by rfl, fun _ => by exact .inr (Nat.min_le_right ..), State.modUnit_units ..⟩
    · split
      · exact .inr ⟨_, fun _ => by rfl, fun _ => by exact .inr (Nat.min_le_right ..), State.modUnit_units ..⟩
      · split
        · exact .inr ⟨_, fun _ => by rfl, fun _ => by exact .inl rfl, State.modUnit_units ..⟩
        · exact .inl (State.writeCribRecord_units ..)

theorem State.disposeCapture_unit (t : OpenTrain) (k : Fin 16) (kind : CloseKind) (c : Capture) (s : State) (j : Fin 16) :
    ((s.disposeCapture t k kind c).units[j]).capture = (s.units[j]).capture ∧
      (((s.disposeCapture t k kind c).units[j]).pointer = (s.units[j]).pointer
        ∨ ((s.disposeCapture t k kind c).units[j]).pointer ≤ t.n) := by
  rcases State.disposeCapture_units t k kind c s with he | ⟨f, hc, hp, he⟩ <;> rw [he]
  · exact ⟨rfl, .inl rfl⟩
  · rw [vupd_get]
    split
    · exact ⟨hc _, hp _⟩
    · exact ⟨rfl, .inl rfl⟩

/-- A close takes its own capture away and leaves the others; each pointer stays or is set back to no more than N (R91). -/
theorem State.closeCapture_unit (t : OpenTrain) (k : Fin 16) (kind : CloseKind) (c : Capture) (s : State) (j : Fin 16) :
    ((s.closeCapture t k kind c).units[j]).capture = (if j = k then none else (s.units[j]).capture) ∧
      (((s.closeCapture t k kind c).units[j]).pointer = (s.units[j]).pointer
        ∨ ((s.closeCapture t k kind c).units[j]).pointer ≤ t.n) := by
  have hopen : ((s.modUnit k fun u => { u with capture := none }).units[j]) =
      { s.units[j] with capture := if j = k then none else (s.units[j]).capture } := by
    rw [State.modUnit_units, vupd_get]
    split <;> rfl
  obtain ⟨hc, hp⟩ := State.disposeCapture_unit t k kind c
    ((s.modUnit k fun u => { u with capture := none }).modChannel k fun ch =>
      { ch with quiet := some (s.now + ms (s.cfg .tquiet)) }) j
  rw [State.modChannel_units, hopen] at hc hp
  exact ⟨hc, hp⟩

theorem mem_allChannels (k : Fin 16) : k ∈ allChannels := by decide +revert

/-- With a train open the closure's walk over the channels leaves no capture open (R90). -/
theorem State.closeAllCaptures_capture {s : State} (ht : s.axt.train.isSome) (k : Fin 16) :
    (s.closeAllCaptures.units[k]).capture = none := by
  obtain ⟨t, ht⟩ := Option.isSome_iff_exists.mp ht
  have closes (ks : List (Fin 16)) : ∀ u : State, u.axt.train = some t → k ∈ ks ∨ (u.units[k]).capture = none →
      ((ks.foldl (fun s j => s.closeIfOpen j closureKindOf) u).units[k]).capture = none := by
    induction ks with
    | nil => exact fun u _ hk => hk.resolve_left (List.not_mem_nil)
    | cons j ks ih =>
      intro u hu hk
      have hstep : (u.closeIfOpen j closureKindOf).axt.train = some t ∧
          ((u.closeIfOpen j closureKindOf).units[k]).capture = (if k = j then none else (u.units[k]).capture) := by
        unfold State.closeIfOpen
        rw [hu]
        split
        · refine ⟨by simpa using hu, (State.closeCapture_unit ..).1⟩
        · rename_i hnone
          refine ⟨hu, ?_⟩
          split
          · rename_i hkj
            subst hkj
            exact Option.eq_none_iff_forall_not_mem.mpr fun c hc => hnone _ _ rfl hc
          · rfl
      refine ih _ hstep.1 ?_
      rw [hstep.2]
      split
      · exact .inr rfl
      · rename_i hne
        exact hk.imp_left fun hmem => (List.mem_cons.mp hmem).resolve_left hne
  exact closes allChannels s ht (.inl (mem_allChannels k))

/-- The closure's walk over the channels changes no slot's tag and not the sweep's queue (R90). -/
theorem State.closeAllCaptures_store (s : State) :
    s.closeAllCaptures.rps.tags = s.rps.tags ∧ s.closeAllCaptures.evu.sweepQueue = s.evu.sweepQueue := by
  refine List.foldlRecOn (motive := fun u : State => u.rps.tags = s.rps.tags ∧ u.evu.sweepQueue = s.evu.sweepQueue)
    allChannels _ ⟨rfl, rfl⟩ fun u hu k _ => ?_
  unfold State.closeIfOpen
  split
  · simpa using hu
  · exact hu

end Sys2Proof.Machine
end

section
/-! SUPPORT. A crossing of the open train by its parts: the motion it sets, the reversal it may be, the count it moves (R24 to
R36). -/

namespace Sys2Proof.Machine

/-! ## The motion (R24 to R30) -/

/-- The motion of a crossing, before the captures, the gates and the segmenter learn of a reversal (R26 to R28, R30, R140). -/
def State.moved (t : OpenTrain) (pr : Pair) (travel : Direction) (v : Nat) (s : State) : State :=
  let s := (s.modTrain (·.cross pr travel s.now (s.haltTime v))).resumeGates
  if contradicts (t.lastCross.get (Pair.other pr)) travel s.now then
    s.writeTrain (Report.modFlags fun f => { f with directionConflict := true })
  else s

@[simp] theorem State.moved_frame (t : OpenTrain) (pr : Pair) (travel : Direction) (v : Nat) (s : State) :
    (s.moved t pr travel v).now = s.now ∧
      (s.moved t pr travel v).ssq = s.ssq ∧
      (s.moved t pr travel v).axt = { s.axt with train := s.axt.train.map (·.cross pr travel s.now (s.haltTime v)) } ∧
      (s.moved t pr travel v).vsg = s.vsg ∧
      (s.moved t pr travel v).units = s.units ∧
      (s.moved t pr travel v).evu = s.evu ∧
      (s.moved t pr travel v).tsu = s.resumeGates.tsu ∧
      (s.moved t pr travel v).mpc = s.mpc := by
  unfold State.moved
  dsimp only
  split <;> simp [State.modTrain] <;> rfl

@[simp] theorem State.reversal_blocks (s : State) :
    s.reversal.vsg = { s.vsg with interrupted := true } ∧
      s.reversal.units = s.reverseCaptures.units ∧
      s.reversal.tsu = (s.reverseCaptures.closeGates true).tsu := by
  simp [State.reversal, State.segInterrupt]

theorem State.reverseCaptures_unit (s : State) (k : Fin 16) : s.reverseCaptures.units[k] =
    { s.units[k] with capture := (s.units[k]).capture.map fun c => { c with reversed := true } } :=
  vmap_get ..

/-- The open train once a crossing of pair `pr` has set its speed and its motion (R24, R26, R28, R30). -/
def OpenTrain.crossed (pr : Pair) (travel : Direction) (v now halt : Nat) (t : OpenTrain) : OpenTrain :=
  OpenTrain.cross pr travel now halt { t with speed := v, lastSpeed := v }

theorem OpenTrain.crossed_sameCounts (pr : Pair) (travel : Direction) (v now halt : Nat) (t : OpenTrain) :
    t.SameCounts (t.crossed pr travel v now halt) := ⟨rfl, rfl, rfl, rfl, rfl⟩

/-- A crossing of the open train up to its count (R24, R26 to R28, R30). -/
def State.speeded (t : OpenTrain) (pr : Pair) (inward : Bool) (v : Nat) (s : State) : State :=
  (s.setSpeed v).setMotion t pr (travelOf pr inward) v

theorem State.openCrossing_eq {s : State} {t : OpenTrain} (ht : s.axt.train = some t) (pr : Pair) (inward : Bool) (v : Nat) :
    s.openCrossing pr inward v = (s.speeded t pr inward v).countCrossing t pr inward v := by
  unfold State.openCrossing
  rw [ht]
  rfl

theorem State.setSpeed_axt {s : State} {t : OpenTrain} (ht : s.axt.train = some t) (v : Nat) :
    (s.setSpeed v).axt = { s.axt with train := some { t with speed := v, lastSpeed := v } } := by
  unfold State.setSpeed
  simp only [State.writeTrain_frame, State.modTrain, State.modAxt_axt, ht]
  rfl

theorem State.setSpeed_haltTime (v : Nat) (s : State) : (s.setSpeed v).haltTime v = s.haltTime v := by
  unfold State.haltTime
  rw [State.cfg_congr (s := s) (by simp)]

/-- The state of a crossing in which its reversal, if it is one, is reported: speed and motion are set (R24, R26). -/
def State.oriented (t : OpenTrain) (pr : Pair) (inward : Bool) (v : Nat) (s : State) : State :=
  (s.setSpeed v).moved t pr (travelOf pr inward) v

theorem State.speeded_eq (t : OpenTrain) (pr : Pair) (inward : Bool) (v : Nat) (s : State) : s.speeded t pr inward v =
    if relativeTo t.d0 (travelOf pr inward) = t.lastDir then s.oriented t pr inward v
    else (s.oriented t pr inward v).reversal := rfl

theorem State.oriented_axt {s : State} {t : OpenTrain} (ht : s.axt.train = some t) (pr : Pair) (inward : Bool) (v : Nat) :
    (s.oriented t pr inward v).axt =
      { s.axt with train := some (t.crossed pr (travelOf pr inward) v s.now (s.haltTime v)) } := by
  unfold State.oriented
  simp only [State.moved_frame, State.setSpeed_frame, State.setSpeed_axt ht, State.setSpeed_haltTime]
  rfl

@[simp] theorem State.oriented_frame (t : OpenTrain) (pr : Pair) (inward : Bool) (v : Nat) (s : State) :
    (s.oriented t pr inward v).now = s.now ∧
      (s.oriented t pr inward v).ssq = s.ssq ∧
      (s.oriented t pr inward v).vsg = s.vsg ∧
      (s.oriented t pr inward v).units = s.units ∧
      (s.oriented t pr inward v).evu = s.evu ∧
      (s.oriented t pr inward v).tsu = s.resumeGates.tsu ∧
      (s.oriented t pr inward v).mpc = s.mpc := by
  simp [State.oriented, State.resumeGates]

theorem State.speeded_axt {s : State} {t : OpenTrain} (ht : s.axt.train = some t) (pr : Pair) (inward : Bool) (v : Nat) :
    (s.speeded t pr inward v).axt =
      { s.axt with train := some (t.crossed pr (travelOf pr inward) v s.now (s.haltTime v)) } := by
  rw [State.speeded_eq]
  split
  · exact State.oriented_axt ht ..
  · simp only [State.reversal_frame, State.oriented_axt ht]

/-- A reversal marks the open captures and moves no pointer (R86). -/
theorem State.speeded_unit (t : OpenTrain) (pr : Pair) (inward : Bool) (v : Nat) (s : State) (k : Fin 16) :
    (s.speeded t pr inward v).units[k] = { s.units[k] with
      capture := (s.units[k]).capture.map fun c =>
        if relativeTo t.d0 (travelOf pr inward) = t.lastDir then c else { c with reversed := true } } := by
  rw [State.speeded_eq]
  by_cases h : relativeTo t.d0 (travelOf pr inward) = t.lastDir
  · simp [h]
  · simp only [if_neg h, State.reversal_blocks, State.reverseCaptures_unit, State.oriented_frame]

/-- A crossing resumes the held gate time; a reversal closes the gates (R26, R140, R142). -/
theorem State.speeded_tsu (t : OpenTrain) (pr : Pair) (inward : Bool) (v : Nat) (s : State) : (s.speeded t pr inward v).tsu =
    if relativeTo t.d0 (travelOf pr inward) = t.lastDir then s.resumeGates.tsu
    else ((s.oriented t pr inward v).reverseCaptures.closeGates true).tsu := by
  rw [State.speeded_eq]
  split
  · simp only [State.oriented_frame]
  · simp only [State.reversal_blocks]

/-! ## The counts (R31 to R36) -/

/-- How a crossing of the train `t` moves the counts, by its kind (R31, R33, R35, R36). -/
def OpenTrain.counting (pr : Pair) (inward : Bool) (t : OpenTrain) : OpenTrain → OpenTrain :=
  if pr = t.entry then
    if inward then (if 65535 ≤ t.n then id else fun u => { u with n := u.n + 1, h := max u.h (u.n + 1) })
    else (if t.n ≤ t.x then id else fun u => { u with n := u.n - 1 })
  else if inward then fun u => { u with x := u.x - 1 }
  else if t.x < t.n then fun u => { u with x := u.x + 1 } else id

/-- A crossing takes an axle back out over the entry pair (R33). -/
def OpenTrain.BacksOut (pr : Pair) (inward : Bool) (t : OpenTrain) : Prop := pr = t.entry ∧ inward = false ∧ t.x < t.n

theorem State.countCrossing_train (t : OpenTrain) (pr : Pair) (inward : Bool) (v : Nat) (s : State) :
    (s.countCrossing t pr inward v).axt.train = s.axt.train.map (t.counting pr inward) := by
  unfold State.countCrossing OpenTrain.counting
  split
  · cases inward
    · unfold State.reverseEntry
      rw [if_neg Bool.false_ne_true, if_neg Bool.false_ne_true]
      split
      · simp
      · simp only [State.clampPointers_frame, State.segReverse_frame]
        rfl
    · unfold State.forwardEntry
      rw [if_pos rfl, if_pos rfl]
      split
      · simp
      · dsimp only
        split
        · simp only [State.newAxle_frame, State.segForward_frame, State.writeTrain_frame]
          rfl
        · simp only [State.rePass_frame, State.segForward_frame]
          rfl
  · cases inward
    · unfold State.forwardExit
      rw [if_neg Bool.false_ne_true, if_neg Bool.false_ne_true]
      split
      · rfl
      · exact (congrFun Option.map_id _).symm
    · rfl

/-- A crossing that takes no axle back out leaves the capture units, the scanner unit and the count of clamped pointers. -/
theorem State.countCrossing_still {t : OpenTrain} {pr : Pair} {inward : Bool} (h : ¬ t.BacksOut pr inward) (v : Nat) (s : State) :
    (s.countCrossing t pr inward v).units = s.units ∧ (s.countCrossing t pr inward v).tsu = s.tsu ∧
      (s.countCrossing t pr inward v).axt.pointerClamp = s.axt.pointerClamp := by
  unfold State.countCrossing
  split
  · rename_i hpr
    cases inward
    · have hheld : t.n ≤ t.x := Nat.not_lt.mp fun hlt => h ⟨hpr, rfl, hlt⟩
      rw [if_neg Bool.false_ne_true, State.reverseEntry, if_pos hheld]
      simp
    · rw [if_pos rfl]
      refine ⟨by simp, by simp, ?_⟩
      unfold State.forwardEntry
      dsimp only
      split
      · simp
      · split <;> simp [State.modTrain]
  · cases inward
    · rw [if_neg Bool.false_ne_true]
      refine ⟨by simp, by simp, ?_⟩
      unfold State.forwardExit
      split <;> rfl
    · exact ⟨rfl, rfl, rfl⟩

/-- A crossing that takes an axle back out clamps the pointers to the lower count (R33, R34). -/
theorem State.countCrossing_backsOut {t : OpenTrain} {pr : Pair} {inward : Bool} (h : t.BacksOut pr inward) (v : Nat) (s : State) :
    (s.countCrossing t pr inward v).units = vmap (fun u => { u with pointer := min u.pointer (t.n - 1) }) s.units ∧
      (s.countCrossing t pr inward v).tsu = { s.tsu with pointer := min s.tsu.pointer (t.n - 1) } ∧
      (s.countCrossing t pr inward v).axt.pointerClamp = sat16 (s.axt.pointerClamp + s.pointersAbove (t.n - 1)) := by
  obtain ⟨hpr, rfl, hlt⟩ := h
  unfold State.countCrossing State.reverseEntry State.clampPointers State.pointersAbove
  rw [if_pos hpr, if_neg Bool.false_ne_true, if_neg (Nat.not_le.mpr hlt)]
  simp [State.modTrain]

end Sys2Proof.Machine
end

section
/-! SUPPORT. EveryStepKeepsTheCounts: X ≤ N ≤ H and no pointer above N, kept by each operation on the open train (R31 to R36). -/

namespace Sys2Proof.Machine

/-! ## Counts in their order -/

/-- The counts of a train are in their order (2.6). -/
def OpenTrain.Ordered (t : OpenTrain) : Prop := t.x ≤ t.n ∧ t.n ≤ t.h ∧ t.h ≤ 65535

/-- No pointer, crib or gate, stands above `n` (R34). -/
def State.PointersBelow (s : State) (n : Nat) : Prop := (∀ k : Fin 16, (s.units[k]).pointer ≤ n) ∧ s.tsu.pointer ≤ n

theorem State.PointersBelow.mono {s : State} {n m : Nat} (h : s.PointersBelow n) (hm : n ≤ m) : s.PointersBelow m :=
  ⟨fun k => (h.1 k).trans hm, h.2.trans hm⟩

theorem State.countsOk_iff {s : State} : s.CountsOk ↔ ∀ t, s.axt.train = some t → t.Ordered ∧ s.PointersBelow t.n :=
  forall₂_congr fun _ _ =>
    ⟨fun ⟨hx, hn, hh, hk, hg⟩ => ⟨⟨hx, hn, hh⟩, hk, hg⟩, fun ⟨⟨hx, hn, hh⟩, hk, hg⟩ => ⟨hx, hn, hh, hk, hg⟩⟩

theorem State.countsOk_of_train {s : State} (h : s.axt.train = none) : s.CountsOk := fun _ ht => nomatch h.symm.trans ht

theorem OpenTrain.counting_ordered {t u : OpenTrain} (h : u.Ordered) (hc : t.SameCounts u) (pr : Pair) (inward : Bool) :
    (t.counting pr inward u).Ordered := by
  obtain ⟨hx, hn, hh⟩ := h
  have htn := hc.n
  have htx := hc.x
  unfold OpenTrain.counting OpenTrain.Ordered
  split
  · cases inward
    · rw [if_neg Bool.false_ne_true]
      split
      · exact ⟨hx, hn, hh⟩
      · dsimp only; omega
    · rw [if_pos rfl]
      split
      · exact ⟨hx, hn, hh⟩
      · dsimp only; omega
  · cases inward
    · rw [if_neg Bool.false_ne_true]
      split
      · dsimp only; omega
      · exact ⟨hx, hn, hh⟩
    · rw [if_pos rfl]
      dsimp only; omega

/-- N falls only where an axle backs out, and then by one (R33). -/
theorem OpenTrain.counting_n (t u : OpenTrain) (hc : t.SameCounts u) (pr : Pair) (inward : Bool) :
    (t.BacksOut pr inward ∧ (t.counting pr inward u).n = t.n - 1)
      ∨ (¬ t.BacksOut pr inward ∧ t.n ≤ (t.counting pr inward u).n) := by
  have htn := hc.n
  unfold OpenTrain.counting OpenTrain.BacksOut
  split
  · rename_i hpr
    cases inward
    · rw [if_neg Bool.false_ne_true]
      split
      · exact .inr ⟨fun hb => by omega, htn.ge⟩
      · exact .inl ⟨⟨hpr, rfl, by omega⟩, congrArg (· - 1) htn⟩
    · rw [if_pos rfl]
      refine .inr ⟨fun hb => absurd hb.2.1 (by decide), ?_⟩
      split
      · exact htn.ge
      · exact htn.ge.trans (Nat.le_succ _)
  · rename_i hpr
    refine .inr ⟨fun hb => hpr hb.1, ?_⟩
    cases inward
    · rw [if_neg Bool.false_ne_true]
      split <;> exact htn.ge
    · exact htn.ge

/-! ## Pointers -/

theorem State.PointersBelow.closeGate {s : State} {n : Nat} (h : s.PointersBelow n) (hn : ∀ t, s.axt.train = some t → t.n ≤ n)
    (x : Side) (gapped truncated : Bool) : (s.closeGate x gapped truncated).PointersBelow n := by
  refine ⟨by simpa using h.1, ?_⟩
  cases ht : s.axt.train with
  | none =>
    rcases s.closeGate_cases x gapped truncated with he | ⟨t, -, -, ht', -⟩
    · rw [he]; exact h.2
    · exact nomatch ht.symm.trans ht'
  | some t =>
    rcases State.closeGate_pointer ht x gapped truncated with he | he
    · exact he ▸ h.2
    · exact he.trans (hn t ht)

theorem State.PointersBelow.closeGates {s : State} {n : Nat} (h : s.PointersBelow n) (hn : ∀ t, s.axt.train = some t → t.n ≤ n)
    (truncated : Bool) : (s.closeGates truncated).PointersBelow n :=
  (h.closeGate hn .a false truncated).closeGate (by simpa using hn) .b false truncated

/-- A crossing up to its count leaves no pointer above N. -/
theorem State.PointersBelow.speeded {s : State} {t : OpenTrain} (ht : s.axt.train = some t) (h : s.PointersBelow t.n) (pr : Pair)
    (inward : Bool) (v : Nat) : (s.speeded t pr inward v).PointersBelow t.n := by
  refine ⟨fun k => ?_, ?_⟩
  · rw [State.speeded_unit]
    exact h.1 k
  · rw [State.speeded_tsu]
    split
    · exact h.2
    · refine (State.PointersBelow.closeGates (s := (s.oriented t pr inward v).reverseCaptures) ⟨fun k => ?_, ?_⟩ ?_ true).2
      · rw [State.reverseCaptures_unit]
        simpa using h.1 k
      · simpa [State.resumeGates] using h.2
      · intro u hu
        simp only [State.reverseCaptures_frame, State.oriented_axt ht] at hu
        obtain rfl := Option.some.inj hu
        exact le_rfl

/-- A crossing of the open train keeps the order of its counts and the pointers below N (R31 to R36). -/
theorem State.CountsOk.openCrossing {s : State} (h : s.CountsOk) (pr : Pair) (inward : Bool) (v : Nat) :
    (s.openCrossing pr inward v).CountsOk := by
  cases ht : s.axt.train with
  | none =>
    unfold State.openCrossing
    rw [ht]
    exact h
  | some t =>
    obtain ⟨hordered, hpointers⟩ := State.countsOk_iff.mp h t ht
    have hbelow := hpointers.speeded ht pr inward v
    have hsame := t.crossed_sameCounts pr (travelOf pr inward) v s.now (s.haltTime v)
    rw [State.openCrossing_eq ht]
    refine State.countsOk_iff.mpr fun u hu => ?_
    rw [State.countCrossing_train, State.speeded_axt ht] at hu
    obtain rfl := Option.some.inj hu
    refine ⟨OpenTrain.counting_ordered (u := t.crossed ..) hordered hsame pr inward, ?_⟩
    rcases OpenTrain.counting_n t _ hsame pr inward with ⟨hb, hn⟩ | ⟨hb, hn⟩
    · obtain ⟨hunits, htsu, -⟩ := State.countCrossing_backsOut hb v (s.speeded t pr inward v)
      unfold State.PointersBelow
      rw [hunits, htsu, hn]
      exact ⟨fun k => by rw [vmap_get]; exact Nat.min_le_right .., Nat.min_le_right ..⟩
    · obtain ⟨hunits, htsu, -⟩ := State.countCrossing_still hb v (s.speeded t pr inward v)
      unfold State.PointersBelow
      rw [hunits, htsu]
      exact hbelow.mono hn

/-- A capture opens at a pointer that stays at or below N (R82). -/
theorem State.PointersBelow.openCapture {s : State} {t : OpenTrain} (h : s.PointersBelow t.n) (k : Fin 16) (y : Nat) (ovr : Bool) :
    (s.openCapture t k y ovr).PointersBelow t.n := by
  refine ⟨fun j => ?_, h.2⟩
  unfold State.openCapture
  rw [State.modUnit_units, vupd_get]
  split
  · exact applyPointer_le _ (h.1 j)
  · exact h.1 j

/-! ## Every operation -/

theorem State.tracked_countsOk : Tracked State.CountsOk where
  quiet hk h u hu := by
    rw [hk.train] at hu
    rw [hk.units, hk.gates.1]
    exact h u hu
  timed {s f} hf h u hu := by
    obtain ⟨t, ht, rfl⟩ := Option.map_eq_some_iff.mp hu
    rw [(hf t).x, (hf t).n, (hf t).h]
    exact h t ht
  opens {s t} k y ovr ht h := by
    obtain ⟨ho, hp⟩ := State.countsOk_iff.mp h t ht
    refine State.countsOk_iff.mpr fun u hu => ?_
    obtain rfl := Option.some.inj (ht.symm.trans hu)
    exact ⟨ho, hp.openCapture k y ovr⟩
  follows {s k f} hf _ h := by
    refine State.countsOk_iff.mpr fun u hu => ?_
    obtain ⟨ho, hp⟩ := State.countsOk_iff.mp h u hu
    refine ⟨ho, fun j => ?_, hp.2⟩
    rw [State.modUnit_units, vupd_get]
    split
    · rename_i hj
      subst hj
      exact hf.trans_le (hp.1 _)
    · exact hp.1 j
  closes {s t} k kind c ht h := by
    obtain ⟨ho, hp⟩ := State.countsOk_iff.mp h t ht
    refine State.countsOk_iff.mpr fun u hu => ?_
    simp only [State.closeCapture_frame] at hu
    obtain rfl := Option.some.inj (ht.symm.trans hu)
    refine ⟨ho, fun j => ?_, by simpa using hp.2⟩
    exact (State.closeCapture_unit t k kind c s j).2.elim (fun he => he.trans_le (hp.1 j)) id
  gates _ h := h
  shuts {s} x gapped truncated h := by
    refine State.countsOk_iff.mpr fun u hu => ?_
    simp only [State.closeGate_frame] at hu
    obtain ⟨ho, hp⟩ := State.countsOk_iff.mp h u hu
    exact ⟨ho, hp.closeGate (fun t ht => (congrArg OpenTrain.n (Option.some.inj (ht.symm.trans hu))).le) x gapped truncated⟩
  edges {s t} ht h := by
    obtain ⟨ho, hp⟩ := State.countsOk_iff.mp h t ht
    have hedge := State.restartTimers_eq ht
    refine State.countsOk_iff.mpr fun u hu => ?_
    simp only [State.gateEdge_frame, hedge] at hu
    obtain rfl := Option.some.inj hu
    refine ⟨ho, ?_⟩
    rw [hedge]
    have hclosed := State.PointersBelow.closeGates (s := s.withAxt { s.axt with train := some (s.edgeTimers t) }) hp
      (fun u hu => (congrArg OpenTrain.n (Option.some.inj hu)).ge) true
    exact ⟨hclosed.1, applyPointer_le t.motionTaken hclosed.2⟩
  crosses pr inward v h := h.openCrossing pr inward v
  starts {s} k pr _ _ := by
    refine State.countsOk_iff.mpr fun u hu => ?_
    rw [State.trainOpened_eq] at hu ⊢
    obtain rfl := Option.some.inj hu
    refine ⟨⟨le_rfl, le_rfl, Nat.zero_le _⟩, fun j => ?_, le_rfl⟩
    dsimp only
    rw [vmap_get]
    exact le_rfl
  ends kind _ _ := State.countsOk_of_train (State.trainClosed_train ..)
  completes _ h u hu := by
    simp only [State.slotCompleted, State.noticeComplete_frame, State.modEvu_axt, State.modEvu_units, State.modEvu_tsu,
      State.setSlotState_frame] at hu ⊢
    exact h u hu
  releases _ _ h := h
  restarts _ := State.countsOk_of_train rfl
  reset := State.countsOk_of_train rfl

/-- Settles O56: each operation on the open train, its pointers and its gates keeps the counts (`State.tracked_countsOk`), and every
step is made of these. -/
theorem everyStepKeepsTheCounts : Obligations.EveryStepKeepsTheCounts := fun _ _ hs h => State.tracked_countsOk.step hs h

end Sys2Proof.Machine
end

section
/-! SUPPORT. EveryStepKeepsTheSlots: what the slots, the captures and the gates have to do with the open train, block by block,
and the operations that keep it (R37, R42, R107, R150). -/

namespace Sys2Proof.Machine

/-! ## The condition by blocks -/

/-- The slot of the open train and its number. -/
def State.berth (s : State) : Option (Fin 4 × Nat) := s.axt.train.map fun t => (t.slot, t.number)

/-- The FILLING slot is the open train's with its number, and the sweep's queue holds the CLOSING slots, each once (R107, R150). -/
structure SlotsAgree (berth : Option (Fin 4 × Nat)) (tags : Fin 4 → Option (SlotState × Nat)) (queue : List (Fin 4)) : Prop where
  filling : ∀ k n, tags k = some (.filling, n) ↔ berth = some (k, n)
  queued  : ∀ k, k ∈ queue ↔ ∃ n, tags k = some (.closing, n)
  once    : queue.Nodup

/-- Every open capture names the open train's slot (R81). -/
def CapturesIn (berth : Option (Fin 4 × Nat)) (units : Vector CaptureUnit 16) : Prop :=
  ∀ (k : Fin 16) (c : Capture), (units[k]).capture = some c → ∃ n, berth = some (c.slot, n)

/-- A gate pair is open only in an open train, and has an open gate (R139, R143). -/
def GatesIn (berth : Option (Fin 4 × Nat)) (pair : Option GatePair) : Prop :=
  ∀ p, pair = some p → berth.isSome ∧ ∃ x, p.gates.get x ≠ none

theorem Rps.tags_eq_some {r : Rps} {k : Fin 4} {st : SlotState} {n : Nat} :
    r.tags k = some (st, n) ↔ ∃ h, r.slots[k] = some h ∧ h.st = st ∧ h.report.header.number = n := by
  unfold Rps.tags HeldSlot.tag
  rw [Option.map_eq_some_iff]
  exact exists_congr fun h => and_congr_right fun _ => Prod.ext_iff

/-- A slot is in a state exactly if its tag says so. -/
theorem State.slot_any {s : State} (k : Fin 4) (st : SlotState) :
    (s.rps.slots[k]).any (fun h => h.st == st) = true ↔ ∃ n, s.rps.tags k = some (st, n) := by
  simp only [Rps.tags_eq_some]
  cases s.rps.slots[k] <;> simp

theorem State.berth_eq_some {s : State} {k : Fin 4} {n : Nat} :
    s.berth = some (k, n) ↔ ∃ t, s.axt.train = some t ∧ t.slot = k ∧ t.number = n := by
  unfold State.berth
  rw [Option.map_eq_some_iff]
  exact exists_congr fun t => and_congr_right fun _ => Prod.ext_iff

theorem State.slotsOk_iff {s : State} : s.SlotsOk ↔
    SlotsAgree s.berth s.rps.tags s.evu.sweepQueue ∧ CapturesIn s.berth s.units ∧ GatesIn s.berth s.tsu.pair := by
  constructor
  · intro h
    refine ⟨⟨fun k n => ⟨fun hk => ?_, fun hb => ?_⟩, fun k => (h.queue k).trans (State.slot_any k .closing), h.once⟩,
      fun k c hc => ?_, fun p hp => ⟨?_, h.gate p hp⟩⟩
    · obtain ⟨t, ht, rfl⟩ := (h.filling k).mp ((State.slot_any k .filling).mpr ⟨n, hk⟩)
      obtain ⟨held, hheld, -, hn⟩ := Rps.tags_eq_some.mp hk
      exact State.berth_eq_some.mpr ⟨t, ht, rfl, (h.number t held ht hheld).symm.trans hn⟩
    · obtain ⟨t, ht, rfl, rfl⟩ := State.berth_eq_some.mp hb
      obtain ⟨n, hn⟩ := (State.slot_any t.slot .filling).mp ((h.filling t.slot).mpr ⟨t, ht, rfl⟩)
      obtain ⟨held, hheld, -, hnum⟩ := Rps.tags_eq_some.mp hn
      rw [hn, ← hnum, h.number t held ht hheld]
    · obtain ⟨t, ht, hslot⟩ := h.captures k c hc
      exact ⟨t.number, State.berth_eq_some.mpr ⟨t, ht, hslot.symm, rfl⟩⟩
    · exact Option.isSome_map.trans (h.gates (Option.isSome_of_eq_some hp))
  · rintro ⟨hslots, hcaptures, hgates⟩
    refine ⟨fun k => (State.slot_any k .filling).trans ?_, fun t held ht hheld => ?_,
      fun k => (hslots.queued k).trans (State.slot_any k .closing).symm, hslots.once, fun k c hc => ?_, fun hp => ?_,
      fun p hp => (hgates p hp).2⟩
    · constructor
      · rintro ⟨n, hn⟩
        obtain ⟨t, ht, hslot, -⟩ := State.berth_eq_some.mp ((hslots.filling k n).mp hn)
        exact ⟨t, ht, hslot⟩
      · rintro ⟨t, ht, rfl⟩
        exact ⟨t.number, (hslots.filling _ _).mpr (State.berth_eq_some.mpr ⟨t, ht, rfl, rfl⟩)⟩
    · have htag := (hslots.filling t.slot t.number).mpr (State.berth_eq_some.mpr ⟨t, ht, rfl, rfl⟩)
      obtain ⟨held', hheld', -, hn⟩ := Rps.tags_eq_some.mp htag
      obtain rfl := Option.some.inj (hheld.symm.trans hheld')
      exact hn
    · obtain ⟨n, hn⟩ := hcaptures k c hc
      obtain ⟨t, ht, hslot, -⟩ := State.berth_eq_some.mp hn
      exact ⟨t, ht, hslot.symm⟩
    · obtain ⟨p, hp⟩ := Option.isSome_iff_exists.mp hp
      exact Option.isSome_map.symm.trans (hgates p hp).1

/-! ## Blocks of an operation -/

/-- A state that has the train, tags and queue of another has what its captures and gates allow. -/
theorem State.SlotsOk.of_blocks {s u : State} (h : s.SlotsOk) (hb : u.berth = s.berth) (ht : u.rps.tags = s.rps.tags)
    (hq : u.evu.sweepQueue = s.evu.sweepQueue) (hc : CapturesIn s.berth s.units → CapturesIn s.berth u.units)
    (hg : GatesIn s.berth s.tsu.pair → GatesIn s.berth u.tsu.pair) : u.SlotsOk := by
  obtain ⟨hslots, hcaptures, hgates⟩ := State.slotsOk_iff.mp h
  rw [State.slotsOk_iff, hb, ht, hq]
  exact ⟨hslots, hc hcaptures, hg hgates⟩

theorem State.berth_congr {s u : State} (h : u.axt.train = s.axt.train) : u.berth = s.berth :=
  congrArg (Option.map fun t : OpenTrain => (t.slot, t.number)) h

theorem State.berth_of_train {s : State} {t : OpenTrain} (h : s.axt.train = some t) : s.berth = some (t.slot, t.number) :=
  congrArg (Option.map fun t : OpenTrain => (t.slot, t.number)) h

theorem State.berth_modTrain {s : State} {f : OpenTrain → OpenTrain} (hf : ∀ t : OpenTrain, t.SameCounts (f t)) :
    (s.modTrain f).berth = s.berth := by
  unfold State.berth State.modTrain
  rw [State.modAxt_axt, Option.map_map]
  exact congrArg (fun g => s.axt.train.map g) (funext fun t => Prod.ext (hf t).slot (hf t).number)

/-- Units whose open captures are among those of others. -/
theorem CapturesIn.of_slots {b : Option (Fin 4 × Nat)} {us vs : Vector CaptureUnit 16} (h : CapturesIn b us)
    (hv : ∀ (k : Fin 16) (c : Capture), (vs[k]).capture = some c → ∃ c', (us[k]).capture = some c' ∧ c'.slot = c.slot) :
    CapturesIn b vs := by
  intro k c hc
  obtain ⟨c', hc', hslot⟩ := hv k c hc
  obtain ⟨n, hn⟩ := h k c' hc'
  exact ⟨n, hslot ▸ hn⟩

theorem gatesIn_none (b : Option (Fin 4 × Nat)) : GatesIn b none := fun _ h => nomatch h

theorem GatesIn.map {b : Option (Fin 4 × Nat)} {pair : Option GatePair} (h : GatesIn b pair) {f : GatePair → GatePair}
    (hf : ∀ p x, ((f p).gates.get x).isSome = (p.gates.get x).isSome) : GatesIn b (pair.map f) := by
  intro q hq
  obtain ⟨p, hp, rfl⟩ := Option.map_eq_some_iff.mp hq
  obtain ⟨hb, x, hx⟩ := h p hp
  exact ⟨hb, x, Option.isSome_iff_ne_none.mp ((hf p x).trans (Option.isSome_iff_ne_none.mpr hx))⟩

theorem State.closeGate_gatesIn {s : State} {b : Option (Fin 4 × Nat)} (h : GatesIn b s.tsu.pair) (x : Side)
    (gapped truncated : Bool) : GatesIn b (s.closeGate x gapped truncated).tsu.pair := by
  rcases s.closeGate_cases x gapped truncated with he | ⟨t, p, g, -, hp, he⟩ <;> rw [he]
  · exact h
  · exact fun q hq => ⟨(h p hp).1, State.finishPair_gatesOpen _ _ q hq⟩

theorem State.closeGates_gatesIn {s : State} {b : Option (Fin 4 × Nat)} (h : GatesIn b s.tsu.pair) (truncated : Bool) :
    GatesIn b (s.closeGates truncated).tsu.pair :=
  State.closeGate_gatesIn (State.closeGate_gatesIn h _ _ _) _ _ _

/-! ## A crossing -/

theorem OpenTrain.counting_berth (t : OpenTrain) (pr : Pair) (inward : Bool) (u : OpenTrain) :
    (t.counting pr inward u).slot = u.slot ∧ (t.counting pr inward u).number = u.number := by
  unfold OpenTrain.counting
  split
  · split <;> split <;> exact ⟨rfl, rfl⟩
  · split
    · exact ⟨rfl, rfl⟩
    · split <;> exact ⟨rfl, rfl⟩

theorem State.SlotsOk.openCrossing {s : State} (h : s.SlotsOk) (pr : Pair) (inward : Bool) (v : Nat) :
    (s.openCrossing pr inward v).SlotsOk := by
  cases ht : s.axt.train with
  | none =>
    unfold State.openCrossing
    rw [ht]
    exact h
  | some t =>
    have hcrossed (k : Fin 16) (c : Capture) (hc : ((s.speeded t pr inward v).units[k]).capture = some c) :
        ∃ c', (s.units[k]).capture = some c' ∧ c'.slot = c.slot := by
      rw [State.speeded_unit] at hc
      obtain ⟨c', hc', rfl⟩ := Option.map_eq_some_iff.mp hc
      exact ⟨c', hc', by split <;> rfl⟩
    have hpair (hg : GatesIn s.berth s.tsu.pair) : GatesIn s.berth (s.speeded t pr inward v).tsu.pair := by
      have hresumed : GatesIn s.berth s.resumeGates.tsu.pair := hg.map fun _ _ => rfl
      rw [State.speeded_tsu]
      split
      · exact hresumed
      · refine State.closeGates_gatesIn ?_ true
        simp only [State.reverseCaptures_frame, State.oriented_frame]
        exact hresumed
    refine h.of_blocks ?_ (State.openCrossing_store ..).1 (State.openCrossing_store ..).2 (fun hc => hc.of_slots ?_) fun hg => ?_
    · rw [State.berth_of_train ht]
      have htrain : (s.openCrossing pr inward v).axt.train =
          some (t.counting pr inward (t.crossed pr (travelOf pr inward) v s.now (s.haltTime v))) := by
        rw [State.openCrossing_eq ht, State.countCrossing_train, State.speeded_axt ht]
        rfl
      rw [State.berth_of_train htrain, (OpenTrain.counting_berth ..).1, (OpenTrain.counting_berth ..).2]
      rfl
    · intro k c hc
      rw [State.openCrossing_eq ht] at hc
      refine hcrossed k c ?_
      by_cases hb : t.BacksOut pr inward
      · rw [(State.countCrossing_backsOut hb ..).1, vmap_get] at hc
        exact hc
      · rw [(State.countCrossing_still hb ..).1] at hc
        exact hc
    · rw [State.openCrossing_eq ht]
      by_cases hb : t.BacksOut pr inward
      · rw [(State.countCrossing_backsOut hb ..).2.1]
        exact hpair hg
      · rw [(State.countCrossing_still hb ..).2.1]
        exact hpair hg

end Sys2Proof.Machine
end

section
/-! SUPPORT. EveryStepKeepsTheSlots: starts, closures, completions, releases and RESTART retag a slot and move the sweep's queue
alike (R37, R42, R107, R109, R160, R161). -/

namespace Sys2Proof.Machine

/-! ## Tags and queue -/

/-- The tags with slot `k` retagged. -/
def retag (k : Fin 4) (x : Option (SlotState × Nat)) (tags : Fin 4 → Option (SlotState × Nat)) (j : Fin 4) :
    Option (SlotState × Nat) := if j = k then x else tags j

@[simp] theorem retag_self (k : Fin 4) (x : Option (SlotState × Nat)) (tags : Fin 4 → Option (SlotState × Nat)) :
    retag k x tags k = x := if_pos rfl

theorem retag_ne {k j : Fin 4} (h : j ≠ k) (x : Option (SlotState × Nat)) (tags : Fin 4 → Option (SlotState × Nat)) :
    retag k x tags j = tags j := if_neg h

theorem Rps.tags_of_set {r r' : Rps} {k : Fin 4} {h : Option HeldSlot} (hr : r'.slots = r.slots.set k h) :
    r'.tags = retag k (h.map HeldSlot.tag) r.tags := by
  funext j
  refine Eq.trans ?_ (Rps.tags_set r k j h)
  unfold Rps.tags
  rw [hr]

/-- A slot that is neither FILLING nor CLOSING, by its tag. -/
def AtRest (x : Option (SlotState × Nat)) : Prop := ∀ n, x ≠ some (.filling, n) ∧ x ≠ some (.closing, n)

theorem atRest_of_state {h : HeldSlot} (hf : h.st ≠ .filling) (hc : h.st ≠ .closing) : AtRest (some h.tag) :=
  fun _ => ⟨fun he => hf (congrArg Prod.fst (Option.some.inj he)), fun he => hc (congrArg Prod.fst (Option.some.inj he))⟩

@[simp] theorem Evu.leaveSweep_sweepQueue (k : Fin 4) (v : Evu) : (v.leaveSweep k).sweepQueue = v.sweepQueue.filter (· ≠ k) := by
  unfold Evu.leaveSweep
  split <;> rfl

@[simp] theorem Evu.joinSweep_sweepQueue (k : Fin 4) (v : Evu) : (v.joinSweep k).sweepQueue = v.sweepQueue ++ [k] := by
  unfold Evu.joinSweep
  split
  · rename_i h
    rw [List.isEmpty_iff.mp h]
    rfl
  · rfl

section
variable {berth : Option (Fin 4 × Nat)} {tags : Fin 4 → Option (SlotState × Nat)} {queue : List (Fin 4)}

/-- The queue without a slot that is no longer CLOSING. -/
theorem SlotsAgree.leaves (h : SlotsAgree berth tags queue) (k : Fin 4) {x : Option (SlotState × Nat)}
    (hx : ∀ n, x ≠ some (.closing, n)) (j : Fin 4) : j ∈ queue.filter (· ≠ k) ↔ ∃ n, retag k x tags j = some (.closing, n) := by
  simp only [List.mem_filter, decide_eq_true_eq, h.queued j]
  by_cases hj : j = k
  · subst hj
    simp [hx]
  · simp [hj, retag_ne hj]

/-- A train opens in a slot, which leaves the sweep's queue (R37, R151). -/
theorem SlotsAgree.starts (h : SlotsAgree none tags queue) (k : Fin 4) (n : Nat) :
    SlotsAgree (some (k, n)) (retag k (some (.filling, n)) tags) (queue.filter (· ≠ k)) where
  filling j m := by
    by_cases hj : j = k
    · subst hj
      simp
    · rw [retag_ne hj, h.filling]
      simp [Ne.symm hj]
  queued := h.leaves k (by simp)
  once := h.once.filter _

/-- The open train's slot becomes CLOSING and joins the sweep's queue (R42). -/
theorem SlotsAgree.ends {k : Fin 4} {n : Nat} (h : SlotsAgree (some (k, n)) tags queue) :
    SlotsAgree none (retag k (some (.closing, n)) tags) (queue ++ [k]) where
  filling j m := by
    by_cases hj : j = k
    · subst hj
      simp
    · rw [retag_ne hj, h.filling]
      simp [Ne.symm hj]
  queued j := by
    rw [List.mem_append, List.mem_singleton, h.queued j]
    by_cases hj : j = k
    · subst hj
      simp
    · simp [hj, retag_ne hj]
  once := by
    refine List.nodup_append.mpr ⟨h.once, List.nodup_singleton k, fun a ha b hb => ?_⟩
    obtain rfl := List.mem_singleton.mp hb
    rintro rfl
    obtain ⟨m, hm⟩ := (h.queued a).mp ha
    exact nomatch hm.symm.trans ((h.filling a n).mpr rfl)

/-- A slot that is not FILLING comes to rest and leaves the sweep's queue (R109, R160). -/
theorem SlotsAgree.rests (h : SlotsAgree berth tags queue) {k : Fin 4} (hk : ∀ n, tags k ≠ some (.filling, n))
    {x : Option (SlotState × Nat)} (hx : AtRest x) : SlotsAgree berth (retag k x tags) (queue.filter (· ≠ k)) where
  filling j m := by
    by_cases hj : j = k
    · subst hj
      rw [retag_self, ← h.filling]
      exact iff_of_false (hx m).1 (hk m)
    · rw [retag_ne hj, h.filling]
  queued := h.leaves k fun n => (hx n).2
  once := h.once.filter _

end

/-! ## Starts and closures -/

theorem State.SlotsOk.none_open {s : State} (h : s.SlotsOk) (ht : s.axt.train = none) :
    (∀ k : Fin 16, (s.units[k]).capture = none) ∧ s.tsu.pair = none := by
  refine ⟨fun k => Option.eq_none_iff_forall_not_mem.mpr fun c hc => ?_, Option.not_isSome_iff_eq_none.mp fun hp => ?_⟩
  · obtain ⟨t, ht', -⟩ := h.captures k c hc
    exact nomatch ht.symm.trans ht'
  · exact absurd (h.gates hp) (by simp [ht])

theorem State.SlotsOk.trainOpened {s : State} (h : s.SlotsOk) (ht : s.axt.train = none) (k : Fin 4) (pr : Pair) :
    (s.trainOpened k pr).SlotsOk := by
  obtain ⟨hcaptures, hpair⟩ := h.none_open ht
  have hslots := (State.slotsOk_iff.mp h).1
  rw [show s.berth = none from congrArg (Option.map _) ht] at hslots
  have hqueue : (s.trainOpened k pr).evu.sweepQueue = s.evu.sweepQueue.filter (· ≠ k) := by
    rw [(State.trainOpened_allocated k pr s).2.1, Evu.leaveSweep_sweepQueue]
  rw [State.trainOpened_eq] at hqueue ⊢
  refine State.slotsOk_iff.mpr ⟨?_, fun j c hc => ?_, ?_⟩
  · rw [hqueue]
    refine Eq.subst (motive := fun tags => SlotsAgree (some (k, s.newNumber)) tags _) ?_ (hslots.starts k s.newNumber)
    exact (Rps.tags_of_set (r := s.rps) (h := some { st := .filling, report := .opened (s.newHeader k pr) }) rfl).symm
  · dsimp only at hc
    rw [vmap_get] at hc
    exact nomatch (hcaptures j).symm.trans hc
  · dsimp only
    rw [hpair]
    exact gatesIn_none _

/-- A closure up to its last vehicle closes every capture and both gates, and moves no slot (R42, R90, R142). -/
theorem State.trainEnding_blocks {s : State} {t : OpenTrain} (ht : s.axt.train = some t) (h : s.GatesOpen) (kind : ClosureKind) :
    (s.trainEnding t kind).rps.tags = s.rps.tags ∧ (s.trainEnding t kind).evu.sweepQueue = s.evu.sweepQueue ∧
      (∀ k : Fin 16, ((s.trainEnding t kind).units[k]).capture = none) ∧ (s.trainEnding t kind).tsu.pair = none := by
  obtain ⟨u, hu⟩ : ∃ u, u = s.writeTrain (Report.modHeader fun h => { h with
    closure := some kind, endTime := some s.ssq.clock }) := ⟨_, rfl⟩
  have htrain : u.axt.train.isSome := by simp [hu, ht]
  have hopen : u.closeAllCaptures.GatesOpen := by
    unfold State.GatesOpen
    simp only [State.closeAllCaptures_frame, hu, State.writeTrain_frame]
    exact h
  have hstore := u.closeAllCaptures_store
  have hunits := fun k => State.closeAllCaptures_capture htrain k
  have hpair := State.closeGates_pair (s := u.closeAllCaptures) (by simpa using htrain) hopen true
  have hwritten : u.rps.tags = s.rps.tags ∧ u.evu.sweepQueue = s.evu.sweepQueue := by
    rw [hu]
    exact ⟨State.writeTrain_tags _ _ fun _ => rfl, by simp⟩
  have hstale (w : State) : (w.recordStale t).rps.tags = w.rps.tags := by
    unfold State.recordStale
    simp only [State.postAll_frame]
    exact State.writeTrain_tags _ _ fun _ => rfl
  have hending : s.trainEnding t kind = ((u.closeAllCaptures.closeGates true).recordStale t).segClose t t.n := by rw [hu]; rfl
  rw [hending]
  refine ⟨?_, ?_, fun k => ?_, ?_⟩
  · rw [(State.segClose_store ..).1, hstale, (State.closeGates_store ..).1, hstore.1, hwritten.1]
  · simp only [State.segClose_store, State.recordStale_frame, State.closeGates_store, hstore.2, hwritten.2]
  · simpa using hunits k
  · simpa using hpair

theorem State.SlotsOk.trainClosed {s : State} {t : OpenTrain} (h : s.SlotsOk) (ht : s.axt.train = some t) (kind : ClosureKind) :
    (s.trainClosed t kind).SlotsOk := by
  have hslots := (State.slotsOk_iff.mp h).1
  rw [State.berth_of_train ht] at hslots
  obtain ⟨htags, hqueue, hcaptures, hpair⟩ := State.trainEnding_blocks ht h.gate kind
  have hheld : (s.trainEnding t kind).rps.tags t.slot = some (.filling, t.number) := by
    rw [htags]
    exact (hslots.filling _ _).mpr rfl
  obtain ⟨held, hslot, -, hnumber⟩ := Rps.tags_eq_some.mp hheld
  refine State.slotsOk_iff.mpr ⟨?_, fun j c hc => ?_, ?_⟩
  · have hq : (s.trainClosed t kind).evu.sweepQueue = s.evu.sweepQueue ++ [t.slot] := by
      unfold State.trainClosed
      simp only [State.modAxt_evu, State.modEvu_evu, Evu.joinSweep_sweepQueue, State.setSlotState_frame, hqueue]
    have htag : (s.trainClosed t kind).rps.tags = retag t.slot (some (.closing, t.number)) s.rps.tags := by
      refine (Rps.tags_of_set (r := (s.trainEnding t kind).rps) rfl).trans ?_
      rw [htags, hslot, ← hnumber]
      rfl
    rw [hq, htag]
    exact hslots.ends
  · exact nomatch (hcaptures j).symm.trans hc
  · exact Eq.subst (motive := GatesIn _) hpair.symm (gatesIn_none _)

/-! ## Completions, releases, RESTART -/

theorem State.SlotsOk.slotCompleted {s : State} (h : s.SlotsOk) {k : Fin 4} (hk : s.evu.sweepQueue.head? = some k) :
    (s.slotCompleted k).SlotsOk := by
  obtain ⟨hslots, hcaptures, hgates⟩ := State.slotsOk_iff.mp h
  obtain ⟨n, hn⟩ := (hslots.queued k).mp (List.mem_of_head? hk)
  obtain ⟨held, hslot, -, -⟩ := Rps.tags_eq_some.mp hn
  have hb : (s.slotCompleted k).berth = s.berth := State.berth_congr (by simp [State.slotCompleted])
  refine State.slotsOk_iff.mpr ⟨?_, ?_, ?_⟩
  · have hq : (s.slotCompleted k).evu.sweepQueue = s.evu.sweepQueue.filter (· ≠ k) := by simp [State.slotCompleted]
    have htag : (s.slotCompleted k).rps.tags = retag k (some (HeldSlot.tag { held with st := .complete })) s.rps.tags := by
      unfold State.slotCompleted
      simp only [State.modEvu_rps, State.noticeComplete_frame]
      refine (Rps.tags_of_set (r := s.rps) rfl).trans ?_
      rw [hslot]
      rfl
    rw [hq, htag, hb]
    exact hslots.rests (fun m hm => nomatch hn.symm.trans hm) (atRest_of_state nofun nofun)
  · rw [hb, show (s.slotCompleted k).units = s.units by simp [State.slotCompleted]]
    exact hcaptures
  · rw [hb, show (s.slotCompleted k).tsu = s.tsu by simp [State.slotCompleted]]
    exact hgates

theorem State.SlotsOk.releaseSlot {s : State} (h : s.SlotsOk) {k : Fin 4} {held : HeldSlot} (hk : s.rps.slots[k] = some held)
    (hst : held.st = .complete) :
    (s.modRps fun x => { x with slots := x.slots.set k (some { held with st := .released }) }).SlotsOk := by
  obtain ⟨hslots, hcaptures, hgates⟩ := State.slotsOk_iff.mp h
  have htag : s.rps.tags k = some held.tag := congrArg (Option.map HeldSlot.tag) hk
  have hrest : AtRest (s.rps.tags k) := htag ▸ atRest_of_state (by simp [hst]) (by simp [hst])
  have hq : s.evu.sweepQueue.filter (· ≠ k) = s.evu.sweepQueue := by
    refine List.filter_eq_self.mpr fun j hj => decide_eq_true ?_
    rintro rfl
    obtain ⟨n, hn⟩ := (hslots.queued j).mp hj
    exact (hrest n).2 hn
  refine State.slotsOk_iff.mpr ⟨?_, hcaptures, hgates⟩
  have hrested := hslots.rests (fun n => (hrest n).1) (x := some (HeldSlot.tag { held with st := .released }))
    (atRest_of_state nofun nofun)
  rw [hq] at hrested
  exact Eq.subst (motive := fun tags => SlotsAgree s.berth tags s.evu.sweepQueue) (Rps.tags_of_set (r := s.rps) rfl).symm hrested

theorem State.abortSlot_tags (k : Fin 4) (s : State) :
    (s.abortSlot k).rps.tags = retag k ((s.rps.slots[k]).map fun h => (h.abort s.ssq.clock).tag) s.rps.tags := by
  unfold State.abortSlot
  simp only [State.noticeComplete_frame]
  refine (Rps.tags_of_set (r := s.rps) rfl).trans ?_
  rw [Option.map_map]
  rfl

theorem mem_slots (k : Fin 4) : k ∈ ([0, 1, 2, 3] : List (Fin 4)) := by decide +revert

/-- RESTART leaves no slot FILLING or CLOSING (R161). -/
theorem State.abortSlots_atRest {s : State} (h : ∀ k, k ∈ s.evu.sweepQueue ↔ s.slotClosing k = true) (k : Fin 4) :
    AtRest (s.abortSlots.rps.tags k) := by
  have aborts (ks : List (Fin 4)) : ∀ u : State, k ∈ ks ∨ AtRest (u.rps.tags k) →
      AtRest ((ks.foldl (fun s j => s.abortSlot j) u).rps.tags k) := by
    induction ks with
    | nil => exact fun u hk => hk.resolve_left List.not_mem_nil
    | cons j ks ih =>
      intro u hk
      refine ih _ ?_
      rw [State.abortSlot_tags]
      by_cases hj : k = j
      · subst hj
        right
        rw [retag_self]
        cases u.rps.slots[k] with
        | none => exact fun _ => ⟨nofun, nofun⟩
        | some held => exact atRest_of_state (h := held.abort u.ssq.clock) nofun nofun
      · rw [retag_ne hj]
        exact hk.imp_left fun hmem => (List.mem_cons.mp hmem).resolve_left hj
  refine aborts _ s ?_
  rw [List.mem_append, List.mem_filter, List.mem_filter]
  by_cases hc : s.slotClosing k = true
  · exact .inl (.inl ⟨(h k).mpr hc, hc⟩)
  · by_cases hf : s.slotIs .filling k = true
    · exact .inl (.inr ⟨mem_slots k, hf⟩)
    · exact .inr fun n => ⟨fun hn => hf ((State.slot_any k .filling).mpr ⟨n, hn⟩),
        fun hn => hc ((State.slot_any k .closing).mpr ⟨n, hn⟩)⟩

theorem State.SlotsOk.restarted {s : State} (h : s.SlotsOk) : s.restarted.SlotsOk := by
  have hrest (k : Fin 4) : AtRest (s.restarted.rps.tags k) := by
    refine State.abortSlots_atRest (s := s.quietSite) (fun j => ?_) k
    unfold State.slotClosing
    simp only [State.quietSite_frame]
    exact h.queue j
  refine State.slotsOk_iff.mpr ⟨⟨fun k n => ?_, fun k => ?_, List.nodup_nil⟩, fun k c hc => ?_, gatesIn_none _⟩
  · exact iff_of_false (hrest k n).1 nofun
  · exact iff_of_false List.not_mem_nil fun ⟨n, hn⟩ => (hrest k n).2 hn
  · have hreset : (s.restarted.units[k]).capture = none := by
      show ((Vector.replicate 16 CaptureUnit.reset)[k]).capture = none
      rw [Fin.getElem_fin, Vector.getElem_replicate]
      rfl
    exact nomatch hreset.symm.trans hc

/-! ## Every operation -/

theorem State.tracked_slotsOk : Tracked State.SlotsOk where
  quiet {s t} hk h := h.of_blocks (State.berth_congr hk.train) hk.tags hk.queue (by rw [hk.units]; exact id)
    (by rw [hk.gates.2]; exact id)
  timed hf h := h.of_blocks (State.berth_modTrain hf) rfl rfl id id
  opens {s t} k y ovr ht h := h.of_blocks rfl rfl rfl (fun hc j c hj => by
    unfold State.openCapture at hj
    rw [State.modUnit_units, vupd_get] at hj
    split at hj
    · obtain rfl := Option.some.inj hj
      exact ⟨t.number, State.berth_of_train ht⟩
    · exact hc j c hj) id
  follows {s k f} _ hf h := h.of_blocks rfl rfl rfl (fun hc => hc.of_slots fun j c hj => by
    rw [State.modUnit_units, vupd_get] at hj
    split at hj
    · rename_i hjk
      subst hjk
      rw [hj] at hf
      obtain ⟨c', hc', hslot⟩ := Option.map_eq_some_iff.mp hf.symm
      exact ⟨c', hc', hslot⟩
    · exact ⟨c, hj, rfl⟩) id
  closes {s t} k kind c _ h := h.of_blocks (State.berth_congr (by simp)) (by simp) (by simp)
    (fun hc => hc.of_slots fun j c' hj => by
      rw [(State.closeCapture_unit t k kind c s j).1] at hj
      split at hj
      · exact nomatch hj
      · exact ⟨c', hj, rfl⟩) (by simp)
  gates hf h := h.of_blocks rfl rfl rfl id fun hg => hg.map hf
  shuts {s} x gapped truncated h := h.of_blocks (State.berth_congr (by simp)) (by simp) (by simp) (by simp)
    fun hg => State.closeGate_gatesIn hg x gapped truncated
  edges {s t} ht h := by
    refine h.of_blocks (u := s.restartClear.restartHalt.gateEdge t) ?_ (by rw [(State.gateEdge_store ..).1]; rfl)
      (by rw [(State.gateEdge_store ..).2]; rfl) (by simp only [State.gateEdge_frame]; exact id) fun _ p hp => ?_
    · rw [State.berth_congr (s := s.restartClear.restartHalt) (by simp), State.restartTimers_eq ht]
      exact (State.berth_of_train ht).symm
    · obtain rfl := Option.some.inj hp
      exact ⟨by rw [State.berth_of_train ht]; rfl, .a, nofun⟩
  crosses pr inward v h := h.openCrossing pr inward v
  starts k pr ht h := h.trainOpened ht k pr
  ends kind ht h := h.trainClosed ht kind
  completes hk h := h.slotCompleted hk
  releases hk hst h := h.releaseSlot hk hst
  restarts h := h.restarted
  reset := reset_slotsOk

/-- Settles O57: each operation on the slots, the open train, the sweep's queue, the captures and the gates keeps their agreement
(`State.tracked_slotsOk`), and every step is made of these. -/
theorem everyStepKeepsTheSlots : Obligations.EveryStepKeepsTheSlots := fun _ _ hs h => State.tracked_slotsOk.step hs h

end Sys2Proof.Machine
end

section
/-! SUPPORT. PairAndHaltTimersExpire: the half crossing that an expired pair timer leaves, and the declaration of a halt (R23, R28,
R29, R140). -/

namespace Sys2Proof.Machine

theorem State.modTrain_open {s : State} {t : OpenTrain} (ht : s.axt.train = some t) (f : OpenTrain → OpenTrain) :
    s.modTrain f = s.withAxt { s.axt with train := some (f t) } :=
  congrArg (fun x => s.withAxt { s.axt with train := x }) (congrArg (Option.map f) ht)

/-- The open train once its halt is declared (R28). -/
def OpenTrain.halted (stand : Nat) (t : OpenTrain) : OpenTrain :=
  { t with motion := .halted, speed := 0, haltTimer := none, standTimer := some stand }

/-- A halt is declared: the train stands, the segmenter is told, the gate time is held (R28, R140). -/
def State.halted (t : OpenTrain) (s : State) : State :=
  ((s.withAxt { s.axt with train := some (t.halted (s.now + 1000000 * s.cfg .tstand)) }).modVsg
    fun g => { g with interrupted := true }).holdGates

/-- A report with HALTED_ON_SITE where axles stand on the site (R29). -/
def Report.haltedAt (onSite : Prop) [Decidable onSite] (r : Report) : Report :=
  r.modFlags fun f => { f with haltedOnSite := if onSite then true else f.haltedOnSite }

theorem State.Fills.halted {s : State} {t : OpenTrain} {r : Report} (h : s.Fills t r) :
    (s.halted t).Fills (t.halted (s.now + 1000000 * s.cfg .tstand)) r := ⟨rfl, h.slot, h.number⟩

theorem State.declareHalt_eq {s : State} {t : OpenTrain} {r : Report} (h : s.Fills t r) :
    s.declareHalt t = (s.halted t).filled t.slot (r.haltedAt (t.x < t.n)) := by
  have hstands : s.modTrain (OpenTrain.halted (s.now + sec (s.cfg .tstand))) =
      s.withAxt { s.axt with train := some (t.halted (s.now + 1000000 * s.cfg .tstand)) } := by
    rw [State.modTrain_open h.train, sec_eq]
  have hdeclared : s.declareHalt t =
      if t.x < t.n then (s.halted t).writeTrain (Report.modFlags fun f => { f with haltedOnSite := true }) else s.halted t :=
    congrArg (fun u : State => if t.x < t.n then
      u.segInterrupt.holdGates.writeTrain (Report.modFlags fun f => { f with haltedOnSite := true })
    else u.segInterrupt.holdGates) hstands
  rw [hdeclared]
  unfold Report.haltedAt
  split
  · exact h.halted.writeTrain _
  · exact h.halted.filled_self.symm

theorem exec_haltTimerExpiry_moving {s : State} {t : OpenTrain} {d : Nat} (ht : s.axt.train = some t) (hd : t.haltTimer = some d)
    (hm : t.motion ≠ .halted) : exec .haltTimerExpiry s = .next ((s.advance d).declareHalt t) := by
  show execHaltTimerExpiry s = _
  unfold execHaltTimerExpiry
  rw [ht]
  dsimp only
  rw [hd]
  dsimp only
  rw [if_pos (by rw [OpenTrain.moving_eq]; exact decide_eq_true hm)]

/-- Settles O39: a running pair timer counts a half crossing, a running halt timer declares the halt (`State.declareHalt_eq`), and a
stopped one does nothing. -/
theorem pairAndHaltTimersExpire : Obligations.PairAndHaltTimersExpire := by
  intro s
  refine ⟨fun pr d hd => ?pairRuns, fun pr hd => ?pairStopped, fun tr ht d hd hmoving h hslot hst hnumber => ?haltRuns,
    fun hstopped => ?haltStopped⟩
  case pairRuns =>
    show execPairTimerExpiry pr s = _
    unfold execPairTimerExpiry
    rw [hd]
    rfl
  case pairStopped =>
    show execPairTimerExpiry pr s = _
    unfold execPairTimerExpiry
    rw [hd]
  case haltRuns =>
    have hfills : (s.advance d).Fills tr h.report := ⟨ht, by rw [← hst]; exact hslot, hnumber⟩
    rw [exec_haltTimerExpiry_moving ht hd hmoving, State.declareHalt_eq hfills]
    intro now header flagged
    have hflagged : flagged = { st := .filling, report := h.report.haltedAt (tr.x < tr.n) } := by
      show HeldSlot.mk h.st _ = _
      rw [hst]
      rfl
    rw [hflagged]
    rfl
  case haltStopped =>
    show execHaltTimerExpiry s = _
    unfold execHaltTimerExpiry
    cases ht : s.axt.train with
    | none => rfl
    | some t =>
      dsimp only
      rw [hstopped t ht]

end Sys2Proof.Machine
end

section
/-! SUPPORT. An accepted crossing of the open train from its edge on, and ReverseExitTakesAnAxleBack (R20, R25, R36, R40). -/

namespace Sys2Proof.Machine

/-! ## The edge (R20, R22, R40) -/

/-- The state in which the crossing that the edge at `t` completes is taken: the pair's machine freed, the clear timer restarted. -/
def State.atCrossing (t : Nat) (pr : Pair) (s : State) : State :=
  s.atEdge t pr ((s.axt.pairs.get pr).completed (max s.now t))

/-- The open train at an edge (R40). -/
def State.trainAt (t : Nat) (tr : OpenTrain) (s : State) : OpenTrain :=
  { tr with clearTimer := some (max s.now t + 1000000 * s.cfg .tclear) }

theorem State.atCrossing_train {s : State} {tr : OpenTrain} (ht : s.axt.train = some tr) (t : Nat) (pr : Pair) :
    (s.atCrossing t pr).axt.train = some (s.trainAt t tr) := by
  show s.axt.train.map _ = _
  rw [ht]
  rfl

/-- An accepted crossing of the open train: what it sets, then the count that it moves (R25). -/
theorem exec_crossing {s : State} {w : WheelSensor} {t : Nat} {pr : Pair} {inward : Bool} {v : Nat} {tr : OpenTrain}
    (hok : s.SiteOk) (ht : s.axt.train = some tr) (hc : s.Crosses w t pr inward v) : exec (.wheelSensorEdge w t) s =
      .next (((s.atCrossing t pr).speeded (s.trainAt t tr) pr inward v).countCrossing (s.trainAt t tr) pr inward v) := by
  have hopen : s.axt.train.isSome := Option.isSome_of_eq_some ht
  have hsite : s.ssq.site ≠ .offline := by
    rw [hok.passage.mpr hopen]
    decide
  have hat : ((s.advance t).modPair pr fun _ => (s.axt.pairs.get pr).completed (max s.now t)).restartClear =
      s.atCrossing t pr := by
    unfold State.restartClear
    rw [sec_eq]
    rfl
  rw [exec_of_crosses hsite hc]
  dsimp only
  rw [if_pos hopen, State.passageCrossing, hat, State.openCrossing_eq (State.atCrossing_train ht t pr)]

theorem relativeTo_travelOf (d0 : Direction) (pr : Pair) (inward : Bool) : relativeTo d0 (travelOf pr inward) =
    if travelDirection pr inward = d0 then .forward else .reverse := by
  rw [travelOf_eq]
  rfl

/-- A reversal interrupts the spacing and leaves the segmenter's other values (R26, R50). -/
theorem State.speeded_vsg (t : OpenTrain) (pr : Pair) (inward : Bool) (v : Nat) (s : State) : (s.speeded t pr inward v).vsg =
    { s.vsg with interrupted := s.vsg.interrupted || decide (relativeTo t.d0 (travelOf pr inward) ≠ t.lastDir) } := by
  rw [State.speeded_eq]
  split
  · rename_i h
    simp [h]
  · rename_i h
    simp [h]

/-! ## A reverse exit (R36) -/

theorem State.countCrossing_reverseExit {t : OpenTrain} {pr : Pair} (h : pr ≠ t.entry) (v : Nat) (s : State) :
    s.countCrossing t pr true v = s.reverseExit := by
  unfold State.countCrossing
  rw [if_neg h, if_pos rfl]

/-- Settles O36: a reverse exit moves X alone, after a motion that moves no crib pointer and, but for a gate pair that a reversal
truncates, no gate pointer. -/
theorem reverseExitTakesAnAxleBack : Obligations.ReverseExitTakesAnAxleBack := by
  intro w t s pr v tr hok ht hc hpr
  refine ⟨_, exec_crossing hok ht hc, ?_⟩
  rw [State.countCrossing_reverseExit (t := s.trainAt t tr) hpr]
  have htrain := congrArg Axt.train (State.speeded_axt (State.atCrossing_train ht t pr) pr true v)
  refine ⟨_, congrArg (Option.map _) htrain, ?_, rfl, rfl, ?_, ?_, fun c => ?_, fun hgates => ?_⟩
  · show tr.x - 1 = _
    split <;> omega
  · simp [State.speeded_vsg, State.atCrossing, State.atEdge]
  · simp [State.speeded_vsg, State.atCrossing, State.atEdge]
  · simp only [State.reverseExit_frame, State.speeded_unit]
    rfl
  · simp only [State.reverseExit_frame, State.speeded_tsu]
    split
    · rfl
    · rename_i hturned
      have hpair : s.tsu.pair = none := hgates.resolve_right fun h => hturned ((relativeTo_travelOf ..).trans h.symm)
      have hnone : ((s.atCrossing t pr).oriented (s.trainAt t tr) pr true v).reverseCaptures.tsu.pair = none := by
        simp only [State.reverseCaptures_frame, State.oriented_frame]
        exact congrArg (Option.map _) hpair
      rw [State.closeGates_pair_none hnone]
      simp only [State.reverseCaptures_frame, State.oriented_frame]
      rfl

end Sys2Proof.Machine
end

section
/-! SUPPORT. What the gates and the segmenter write into the open train's report: nothing outside it, and in it the axle records
or the vehicle records, with the count of dropped requests (R98, R143, R157). -/

namespace Sys2Proof.Machine

/-! ## Writes within one slot -/

/-- From `s` to `u` the store changes in slot `k` alone. -/
structure State.OnlySlot (k : Fin 4) (s u : State) : Prop where
  others  : ∀ j : Fin 4, j ≠ k → u.rps.slots[j] = s.rps.slots[j]
  order   : u.rps.order = s.rps.order
  counter : u.rps.trainCounter = s.rps.trainCounter

/-- From `s` to `u` the store changes in slot `k` alone, and there in what a view of the report leaves out. -/
structure State.Refiles {α : Type} (k : Fin 4) (view : Report → α) (s u : State) : Prop extends State.OnlySlot k s u where
  own : (u.rps.slots[k]).map (fun h => (h.st, view h.report)) = (s.rps.slots[k]).map fun h => (h.st, view h.report)

/-- A view of a report does not see a change. -/
def Hides {α : Type} (view : Report → α) (f : Report → Report) : Prop := ∀ r, view (f r) = view r

theorem State.OnlySlot.of_rps {k : Fin 4} {s u : State} (h : u.rps = s.rps) : State.OnlySlot k s u :=
  ⟨fun _ _ => by rw [h], by rw [h], by rw [h]⟩

theorem State.OnlySlot.trans {k : Fin 4} {s t u : State} (h : State.OnlySlot k s t) (h' : State.OnlySlot k t u) :
    State.OnlySlot k s u :=
  ⟨fun j hj => (h'.others j hj).trans (h.others j hj), h'.order.trans h.order, h'.counter.trans h.counter⟩

theorem State.OnlySlot.write (k : Fin 4) (number : Nat) (f : Report → Report) (s : State) :
    State.OnlySlot k s (s.write k number f) := by
  unfold State.write
  split
  · split
    · refine ⟨fun j hj => ?_, rfl, rfl⟩
      have hne : k.val ≠ j.val := fun he => hj (Fin.ext he.symm)
      exact Vector.getElem_set_ne k.isLt j.isLt hne
    · exact ⟨fun _ _ => rfl, rfl, rfl⟩
  · exact ⟨fun _ _ => rfl, rfl, rfl⟩

theorem State.OnlySlot.writeTrain {k : Fin 4} {s u : State} {t : OpenTrain} (h : State.OnlySlot k s u)
    (ht : u.axt.train = some t) (hk : t.slot = k) (f : Report → Report) : State.OnlySlot k s (u.writeTrain f) := by
  subst hk
  unfold State.writeTrain
  rw [ht]
  exact h.trans (.write ..)

section
variable {α : Type} {k : Fin 4} {view : Report → α} {s t u : State}

theorem State.Refiles.of_rps (h : u.rps = s.rps) : State.Refiles k view s u := ⟨.of_rps h, by rw [h]⟩

theorem State.Refiles.refl (s : State) : State.Refiles k view s s := .of_rps rfl

theorem State.Refiles.trans (h : State.Refiles k view s t) (h' : State.Refiles k view t u) : State.Refiles k view s u :=
  ⟨h.toOnlySlot.trans h'.toOnlySlot, h'.own.trans h.own⟩

theorem State.Refiles.modVsg (h : State.Refiles k view s u) (f : Vsg → Vsg) : State.Refiles k view s (u.modVsg f) :=
  h.trans (.of_rps rfl)

theorem State.Refiles.modTsu (h : State.Refiles k view s u) (f : Tsu → Tsu) : State.Refiles k view s (u.modTsu f) :=
  h.trans (.of_rps rfl)

theorem State.Refiles.markChanged (h : State.Refiles k view s u) (l : Lane) (j : Fin 4) (number target : Nat) :
    State.Refiles k view s (u.markChanged l j number target) := h.trans (.of_rps rfl)

theorem State.Refiles.markRemoved (h : State.Refiles k view s u) (j : Fin 4) (number target : Nat) :
    State.Refiles k view s (u.markRemoved j number target) := h.trans (.of_rps rfl)

/-- A write that the view does not see. -/
theorem State.Refiles.write (h : State.Refiles k view s u) {f : Report → Report} (hf : Hides view f) (number : Nat) :
    State.Refiles k view s (u.write k number f) := by
  refine h.trans ⟨.write .., ?_⟩
  unfold State.write
  split
  · rename_i held hk
    split
    · rw [hk]
      have hset : (u.rps.slots.set k (some { held with report := f held.report }))[k] =
          some { held with report := f held.report } := by simp
      refine (congrArg (Option.map fun h => (h.st, view h.report)) hset).trans ?_
      exact congrArg (fun x => some (held.st, x)) (hf held.report)
    · rfl
  · rfl

theorem State.Refiles.writeTrain (h : State.Refiles k view s u) {t : OpenTrain} (ht : u.axt.train = some t) (hk : t.slot = k)
    {f : Report → Report} (hf : Hides view f) : State.Refiles k view s (u.writeTrain f) := by
  subst hk
  unfold State.writeTrain
  rw [ht]
  exact h.write hf _

/-- A request of the train in the slot, to a view that does not see dropped requests (R98). -/
theorem State.Refiles.request (h : State.Refiles k view s u) (hd : Hides view Report.countDrop) {r : Request} (hr : r.slot = k) :
    State.Refiles k view s (u.request r) := by
  rcases u.request_rps r with he | he
  · exact h.trans (.of_rps he)
  · subst hr
    exact (h.write hd r.number).trans (.of_rps he)

end

/-- The report of a slot after writes that a view does not see. -/
theorem State.Fills.refiled {α : Type} {view : Report → α} {s u : State} {t : OpenTrain} {r : Report} (h : s.Fills t r)
    (hu : State.Refiles t.slot view s u) {t' : OpenTrain} (ht : u.axt.train = some t') (hs : t'.slot = t.slot)
    (hn : t'.number = t.number) (hnumber : ∀ r r', view r' = view r → r'.header.number = r.header.number) :
    ∃ r', u.Fills t' r' ∧ view r' = view r := by
  have hown := hu.own
  rw [h.slot] at hown
  obtain ⟨held, hheld, heq⟩ := Option.map_eq_some_iff.mp hown
  obtain ⟨hst, hview⟩ : held.st = .filling ∧ view held.report = view r := Prod.ext_iff.mp heq
  refine ⟨held.report, ⟨ht, ?_, ?_⟩, hview⟩
  · simp only [hs]
    rw [hheld, ← hst]
  · rw [hnumber _ _ hview, h.number, hn]

/-! ## Gates -/

/-- A report without its axle records and its count of dropped requests: what the gates leave (R98, R143). -/
def Report.sansAxles (r : Report) : Report := { r with axles := [], header := { r.header with dropped := 0 } }

theorem Report.sansAxles_modAxle (i : Nat) (f : AxleRecord → AxleRecord) : Hides Report.sansAxles (Report.modAxle i f) :=
  fun _ => rfl

theorem Report.sansAxles_countDrop : Hides Report.sansAxles Report.countDrop := fun _ => rfl

theorem State.disposeGate_refiles (t : OpenTrain) (p : GatePair) (x : Side) (r : GateRecord) (s : State) :
    State.Refiles t.slot Report.sansAxles s (s.disposeGate t p x r) := by
  unfold State.disposeGate
  split
  · exact .refl s
  · split
    · split
      · exact .refl s
      · exact (State.Refiles.refl s).modTsu _
    · split
      · exact .refl s
      · exact (((State.Refiles.refl s).write (Report.sansAxles_modAxle _ _) t.number).markChanged ..).modTsu _

theorem State.finishPair_refiles (t : OpenTrain) (s : State) : State.Refiles t.slot Report.sansAxles s (s.finishPair t) := by
  unfold State.finishPair
  split
  · split
    · dsimp only
      split
      · split
        · exact ((State.Refiles.refl s).modTsu _).request Report.sansAxles_countDrop rfl
        · exact (State.Refiles.refl s).modTsu _
      · exact (State.Refiles.refl s).modTsu _
    · exact .refl s
  · exact .refl s

theorem State.closeGate_refiles {s : State} {t : OpenTrain} (ht : s.axt.train = some t) (x : Side) (gapped truncated : Bool) :
    State.Refiles t.slot Report.sansAxles s (s.closeGate x gapped truncated) := by
  rcases s.closeGate_cases x gapped truncated with he | ⟨t', p, g, ht', -, he⟩ <;> rw [he]
  · exact .refl s
  · obtain rfl := Option.some.inj (ht.symm.trans ht')
    exact (((State.Refiles.refl s).modTsu _).trans (State.disposeGate_refiles t p x _ _)).trans (State.finishPair_refiles ..)

theorem State.closeGates_refiles {s : State} {t : OpenTrain} (ht : s.axt.train = some t) (truncated : Bool) :
    State.Refiles t.slot Report.sansAxles s (s.closeGates truncated) :=
  (State.closeGate_refiles ht ..).trans (State.closeGate_refiles (by simpa using ht) ..)

/-! ## Segmenter -/

/-- A report without its vehicle records, their overflow and its count of dropped requests: what the segmenter leaves (R46, R54,
R56, R98). -/
def Report.sansVehicles (r : Report) : Report :=
  { r with
    vehicles := []
    header := { r.header with dropped := 0, vehicles := 0, flags := { r.header.flags with vehicleOverflow := false } } }

theorem Report.sansVehicles_modVehicle (i : Nat) (f : VehicleRecord → VehicleRecord) :
    Hides Report.sansVehicles (Report.modVehicle i f) := fun _ => rfl

theorem Report.sansVehicles_countDrop : Hides Report.sansVehicles Report.countDrop := fun _ => rfl

theorem Report.sansVehicles_openVehicle (i first : Nat) : Hides Report.sansVehicles (Report.openVehicle i first) := by
  intro r
  unfold Report.openVehicle
  dsimp only
  split <;> rfl

theorem Report.sansVehicles_removeVehicle (i : Nat) : Hides Report.sansVehicles (Report.removeVehicle i) := by
  intro r
  unfold Report.removeVehicle
  dsimp only
  split <;> rfl

theorem State.segClose_refiles (t : OpenTrain) (upto : Nat) (s : State) :
    State.Refiles t.slot Report.sansVehicles s (s.segClose t upto) := by
  unfold State.segClose
  split
  · exact .refl s
  · dsimp only
    split
    · split
      · exact ((State.Refiles.refl s).write (Report.sansVehicles_modVehicle _ _) _).markChanged ..
      · exact (((State.Refiles.refl s).write (Report.sansVehicles_modVehicle _ _) _).markChanged ..).request
          Report.sansVehicles_countDrop rfl
    · exact .refl s

theorem State.segCount_refiles (t : OpenTrain) (n : Nat) (s : State) :
    State.Refiles t.slot Report.sansVehicles s (s.segCount t n) := by
  unfold State.segCount
  split
  · exact .refl s
  · dsimp only
    split
    · split
      · exact ((State.Refiles.refl s).write (Report.sansVehicles_modVehicle _ _) _).markChanged ..
      · exact (State.Refiles.refl s).write (Report.sansVehicles_modVehicle _ _) _
    · exact .refl s

theorem State.segPush_refiles (t : OpenTrain) (a : Nat) (spacing : Option (Nat × SpacingClass)) (s : State) :
    State.Refiles t.slot Report.sansVehicles s (s.segPush t a spacing) := by
  unfold State.segPush
  split
  · exact .refl s
  · exact (((State.segClose_refiles t a s).modVsg _).modVsg _).write (Report.sansVehicles_openVehicle _ _) _
  · exact (State.Refiles.refl s).modVsg _

theorem State.segForward_refiles (t : OpenTrain) (a v time : Nat) (spacing : Option (Nat × SpacingClass)) (s : State) :
    State.Refiles t.slot Report.sansVehicles s (s.segForward t a v time spacing) :=
  ((State.segPush_refiles ..).trans (State.segCount_refiles ..)).modVsg _

theorem State.segRemove_refiles (t : OpenTrain) (s : State) : State.Refiles t.slot Report.sansVehicles s (s.segRemove t) := by
  have removed (i : Nat) : State.Refiles t.slot Report.sansVehicles s
      ((s.modVsg Vsg.reopen).write t.slot t.number (·.removeVehicle i)) :=
    ((State.Refiles.refl s).modVsg _).write (Report.sansVehicles_removeVehicle i) _
  have marked (i : Nat) : State.Refiles t.slot Report.sansVehicles s
      (if recordedVehicle i then ((s.modVsg Vsg.reopen).write t.slot t.number (·.removeVehicle i)).markRemoved t.slot t.number i
        else (s.modVsg Vsg.reopen).write t.slot t.number (·.removeVehicle i)) := by
    split
    · exact (removed i).markRemoved ..
    · exact removed i
  unfold State.segRemove
  dsimp only
  split
  · exact ((marked _).write (Report.sansVehicles_modVehicle _ _) _).markChanged ..
  · exact marked _

theorem State.segReverse_refiles (t : OpenTrain) (n : Nat) (s : State) :
    State.Refiles t.slot Report.sansVehicles s (s.segReverse t n) := by
  have popped : State.Refiles t.slot Report.sansVehicles s (if n = 0 then s else s.modVsg Vsg.pop) := by
    split
    · exact .refl s
    · exact (State.Refiles.refl s).modVsg _
  unfold State.segReverse
  refine State.Refiles.trans ?_ (State.segCount_refiles ..)
  generalize (if n = 0 then s else s.modVsg Vsg.pop) = u at *
  split
  · exact popped.trans (State.segRemove_refiles t u)
  · exact popped

end Sys2Proof.Machine
end

section
/-! SUPPORT. Gates close alike in two states that agree on what a closing gate reads: the pair up to its clock, the train's place
and direction, the axle records of its report (R142, R143). A crossing moves everything else before its reversal
closes the gates. -/

namespace Sys2Proof.Machine

/-- A gate pair with its remaining time changed. -/
def GatePair.reclock (f : GateClock → GateClock) (p : GatePair) : GatePair := { p with clock := f p.clock }

/-- A scanner unit with the remaining time of its pair changed. -/
def Tsu.reclock (f : GateClock → GateClock) (u : Tsu) : Tsu := { u with pair := u.pair.map (GatePair.reclock f) }

/-- The axle records of a report, with its train's number. -/
def Report.axlesOf (r : Report) : Nat × List AxleRecord := (r.header.number, r.axles)

/-- What a closing gate reads of a slot. -/
def HeldSlot.gated (h : HeldSlot) : SlotState × Nat × List AxleRecord := (h.st, h.report.axlesOf)

/-- Two trains that a closing gate does not tell apart. -/
structure OpenTrain.SamePlace (t t' : OpenTrain) : Prop where
  slot    : t'.slot = t.slot
  number  : t'.number = t.number
  n       : t'.n = t.n
  d0      : t'.d0 = t.d0
  lastDir : t'.lastDir = t.lastDir

/-- Two states that a closing gate does not tell apart. -/
structure State.GateAlike (f : GateClock → GateClock) (k : Fin 4) (s s' : State) : Prop where
  hot  : s'.cfg .thot = s.cfg .thot
  tsu  : s'.tsu = s.tsu.reclock f
  slot : (s'.rps.slots[k]).map HeldSlot.gated = (s.rps.slots[k]).map HeldSlot.gated

section
variable {f : GateClock → GateClock} {k : Fin 4} {s s' : State}

/-- A change of the scanner unit that does not look at the pair's clock. -/
theorem State.GateAlike.modTsu (h : s.GateAlike f k s') {g g' : Tsu → Tsu} (hg : ∀ u : Tsu, g' (u.reclock f) = (g u).reclock f) :
    (s.modTsu g).GateAlike f k (s'.modTsu g') :=
  ⟨h.hot, (congrArg g' h.tsu).trans (hg s.tsu), h.slot⟩

theorem State.GateAlike.refiles (h : s.GateAlike f k s') {u u' : State} (hu : State.Refiles k Report.axlesOf s u)
    (hu' : State.Refiles k Report.axlesOf s' u') (ht : u.tsu = s.tsu) (ht' : u'.tsu = s'.tsu) (hc : u.mpc.active = s.mpc.active)
    (hc' : u'.mpc.active = s'.mpc.active) : u.GateAlike f k u' where
  hot := by rw [State.cfg_congr hc, State.cfg_congr hc', h.hot]
  tsu := by rw [ht, ht', h.tsu]
  slot := hu'.own.trans (h.slot.trans hu.own.symm)

/-- The same write to the axle records of the same slot. -/
theorem State.GateAlike.writeAxle (h : s.GateAlike f k s') (number i : Nat) (g : AxleRecord → AxleRecord) :
    (s.write k number (Report.modAxle i g)).GateAlike f k (s'.write k number (Report.modAxle i g)) := by
  have written (u : State) : ((u.write k number (Report.modAxle i g)).rps.slots[k]).map HeldSlot.gated =
      ((u.rps.slots[k]).map HeldSlot.gated).map fun x =>
        if (x.1 == .filling || x.1 == .closing) && x.2.1 == number then (x.1, x.2.1, x.2.2.modify i g) else x := by
    unfold State.write
    split
    · rename_i held hk
      rw [hk]
      show _ = some (if held.writable && held.report.header.number == number then _ else _)
      split
      · have hset : (u.rps.slots.set k (some { held with report := held.report.modAxle i g }))[k] =
            some { held with report := held.report.modAxle i g } := by simp
        exact congrArg (Option.map HeldSlot.gated) hset
      · exact congrArg (Option.map HeldSlot.gated) hk
    · rename_i hk
      rw [hk]
      exact congrArg (Option.map HeldSlot.gated) hk
  have cfg (u : State) : (u.write k number (Report.modAxle i g)).cfg = u.cfg := State.cfg_congr (by simp)
  refine ⟨?_, ?_, ?_⟩
  · rw [cfg, cfg, h.hot]
  · simpa using h.tsu
  · rw [written, written, h.slot]

theorem State.GateAlike.disposeGate {t t' : OpenTrain} (ht : t.SamePlace t') (h : s.GateAlike f t.slot s') (p : GatePair)
    (x : Side) (r : GateRecord) :
    (s.disposeGate t p x r).GateAlike f t.slot (s'.disposeGate t' (p.reclock f) x r) := by
  unfold State.disposeGate
  show State.GateAlike f t.slot _ (match p.axle with | none => s' | some a => _)
  cases p.axle with
  | none => exact h
  | some a =>
    dsimp only
    rw [ht.d0, ht.lastDir, ht.n]
    show State.GateAlike f t.slot _ (if p.dir ≠ t.d0.along t.lastDir then (if p.undone then s' else _) else _)
    by_cases hturned : p.dir ≠ t.d0.along t.lastDir
    · rw [if_pos hturned, if_pos hturned]
      by_cases hundone : p.undone
      · rw [if_pos hundone, if_pos hundone]
        exact h
      · rw [if_neg hundone, if_neg hundone]
        exact h.modTsu fun u => by cases hp : u.pair <;> simp [Tsu.reclock, GatePair.reclock, hp]
    · rw [if_neg hturned, if_neg hturned]
      by_cases hbeyond : Config.axleTable ≤ a
      · rw [if_pos hbeyond, if_pos hbeyond]
        exact h
      · rw [if_neg hbeyond, if_neg hbeyond]
        unfold State.writeGateRecord
        rw [ht.slot, ht.number]
        have hwritten := h.writeAxle t.number a fun ax => { ax with gates := ax.gates.upd x (fun _ => some r), gateDirty := true }
        have hmarked := hwritten.refiles (.of_rps rfl) (.of_rps rfl) (u := State.markChanged .thermal t.slot t.number a _)
          (u' := State.markChanged .thermal t.slot t.number a _) rfl rfl rfl rfl
        exact hmarked.modTsu fun u => by
          rw [h.hot]
          cases hp : u.pair <;> simp [Tsu.reclock, GatePair.reclock, hp]

theorem Report.axlesOf_countDrop : Hides Report.axlesOf Report.countDrop := fun _ => rfl

theorem State.GateAlike.finishPair {t t' : OpenTrain} (ht : t.SamePlace t') (h : s.GateAlike f t.slot s') :
    (s.finishPair t).GateAlike f t.slot (s'.finishPair t') := by
  have gone : (s.modTsu fun u => { u with pair := none }).GateAlike f t.slot (s'.modTsu fun u => { u with pair := none }) :=
    h.modTsu fun _ => rfl
  unfold State.finishPair
  rw [h.tsu, ht.slot, ht.number]
  show State.GateAlike f t.slot _ (match s.tsu.pair.map (GatePair.reclock f) with | some p => _ | none => s')
  cases s.tsu.pair with
  | none => exact h
  | some p =>
    show State.GateAlike f t.slot _ (if p.gates.a.isNone && p.gates.b.isNone then _ else s')
    dsimp only
    by_cases hlast : (p.gates.a.isNone && p.gates.b.isNone) = true
    · rw [if_pos hlast, if_pos hlast]
      show State.GateAlike f t.slot _ (match p.axle with | some a => (if p.stored then _ else _) | none => _)
      cases p.axle with
      | none => exact gone
      | some a =>
        dsimp only
        by_cases hstored : p.stored = true
        · rw [if_pos hstored, if_pos hstored]
          exact gone.refiles ((State.Refiles.refl _).request Report.axlesOf_countDrop rfl)
            ((State.Refiles.refl _).request Report.axlesOf_countDrop rfl) (by simp) (by simp) (by simp) (by simp)
        · rw [if_neg hstored, if_neg hstored]
          exact gone
    · rw [if_neg hlast, if_neg hlast]
      exact h

/-- A gate closes alike, whatever the pair's clock (R142). -/
theorem State.GateAlike.closeGate {t t' : OpenTrain} (ht : t.SamePlace t') (h : s.GateAlike f t.slot s')
    (hs : s.axt.train = some t) (hs' : s'.axt.train = some t') (x : Side) (gapped truncated : Bool) :
    (s.closeGate x gapped truncated).GateAlike f t.slot (s'.closeGate x gapped truncated) := by
  have hgate : s'.gateOf x = s.gateOf x := by
    unfold State.gateOf
    rw [h.tsu]
    show (s.tsu.pair.map (GatePair.reclock f)).bind _ = _
    cases s.tsu.pair <;> rfl
  cases hg : s.gateOf x with
  | none =>
    rw [State.closeGate_of_none hg, State.closeGate_of_none (hgate.trans hg)]
    exact h
  | some g =>
    obtain ⟨p, hp, hx⟩ := Option.bind_eq_some_iff.mp hg
    have hp' : s'.tsu.pair = some (p.reclock f) := by
      rw [h.tsu]
      exact congrArg (Option.map _) hp
    rw [State.closeGate_open hs hp hx, State.closeGate_open hs' hp' hx]
    have hscanners : s'.tsu.scanners = s.tsu.scanners := by rw [h.tsu]; rfl
    rw [hscanners]
    have hshut : (s.modTsu fun u => { u with pair := some (p.shut x) }).GateAlike f t.slot
        (s'.modTsu fun u => { u with pair := some ((p.reclock f).shut x) }) := h.modTsu fun _ => rfl
    exact (hshut.disposeGate ht p x _).finishPair ht

theorem State.GateAlike.closeGates {t t' : OpenTrain} (ht : t.SamePlace t') (h : s.GateAlike f t.slot s')
    (hs : s.axt.train = some t) (hs' : s'.axt.train = some t') (truncated : Bool) :
    (s.closeGates truncated).GateAlike f t.slot (s'.closeGates truncated) :=
  (h.closeGate ht hs hs' ..).closeGate ht (by simpa using hs) (by simpa using hs') ..

end

end Sys2Proof.Machine
end

section
/-! SUPPORT. The open train's report through a crossing: speed range, direction conflict, reversal, gates, count (R24, R26, R27, R31
to R36, R142). -/

namespace Sys2Proof.Machine

/-! ## Motion -/

/-- The crossing of the other pair that contradicts one of `pr` in the direction `travel` (R27). -/
def OpenTrain.conflicts (pr : Pair) (travel : Direction) (now : Nat) (t : OpenTrain) : Bool :=
  contradicts (t.lastCross.get (Pair.other pr)) travel now

/-- A crossing turns the train about (R26). -/
def OpenTrain.turns (travel : Direction) (t : OpenTrain) : Bool := decide (relativeTo t.d0 travel ≠ t.lastDir)

/-- A report once a crossing has set its speed and its motion (R24, R26, R27). -/
def Report.crossed (v : Nat) (conflict turned : Bool) (r : Report) : Report :=
  r.modHeader fun h => { Header.speedRange v h with
    flags := { h.flags with
      reversed := h.flags.reversed || turned, directionConflict := h.flags.directionConflict || conflict } }

theorem State.Fills.of_rps {s u : State} {t t' : OpenTrain} {r : Report} (h : s.Fills t r) (ht : u.axt.train = some t')
    (hs : t'.slot = t.slot) (hn : t'.number = t.number) (hr : u.rps = s.rps) : u.Fills t' r :=
  ⟨ht, by simp only [hs, hr]; exact h.slot, h.number.trans hn.symm⟩

theorem State.Fills.held {s : State} {t : OpenTrain} {r : Report} (h : s.Fills t r) {k : Fin 4} (hk : t.slot = k) :
    s.rps.slots[k] = some { st := .filling, report := r } := by
  subst hk
  exact h.slot

/-- A write to the open train's report that keeps its number. -/
theorem State.Fills.written {s : State} {t : OpenTrain} {r : Report} (h : s.Fills t r) {f : Report → Report}
    (hf : KeepsNumber f) : (s.writeTrain f).Fills t (f r) :=
  h.writeTrain f ▸ h.filled ((hf r).trans h.number)

theorem State.setSpeed_fills {s : State} {t : OpenTrain} {r : Report} (h : s.Fills t r) (v : Nat) :
    (s.setSpeed v).Fills { t with speed := v, lastSpeed := v } (r.modHeader (Header.speedRange v)) :=
  (h.modTrain (f := fun t => { t with speed := v, lastSpeed := v }) rfl rfl).written (.speedRange v)

/-- Speed, motion and gate time of a crossing, before its header flags (R24, R26, R28, R140). -/
def State.steered (pr : Pair) (inward : Bool) (v : Nat) (s : State) : State :=
  ((s.setSpeed v).modTrain (·.cross pr (travelOf pr inward) (s.setSpeed v).now ((s.setSpeed v).haltTime v))).resumeGates

theorem State.steered_train {s : State} {t : OpenTrain} (ht : s.axt.train = some t) (pr : Pair) (inward : Bool) (v : Nat) :
    (s.steered pr inward v).axt.train = some (t.crossed pr (travelOf pr inward) v s.now (s.haltTime v)) := by
  refine (congrArg (Option.map _) (congrArg Axt.train (State.setSpeed_axt ht v))).trans ?_
  rw [State.setSpeed_haltTime, (State.setSpeed_frame ..).1]
  rfl

theorem State.oriented_eq (t : OpenTrain) (pr : Pair) (inward : Bool) (v : Nat) (s : State) : s.oriented t pr inward v =
    if t.conflicts pr (travelOf pr inward) s.now then
      (s.steered pr inward v).writeTrain (Report.modFlags fun f => { f with directionConflict := true })
    else s.steered pr inward v := by
  rw [← (State.setSpeed_frame v s).1]
  rfl

theorem State.oriented_fills {s : State} {t : OpenTrain} {r : Report} (h : s.Fills t r) (pr : Pair) (inward : Bool) (v : Nat) :
    (s.oriented t pr inward v).Fills (t.crossed pr (travelOf pr inward) v s.now (s.haltTime v))
      (r.crossed v (t.conflicts pr (travelOf pr inward) s.now) false) := by
  have hsteered : (s.steered pr inward v).Fills (t.crossed pr (travelOf pr inward) v s.now (s.haltTime v))
      (r.modHeader (Header.speedRange v)) :=
    (State.setSpeed_fills h v).of_rps (State.steered_train h.train pr inward v) rfl rfl rfl
  rw [State.oriented_eq]
  cases t.conflicts pr (travelOf pr inward) s.now
  · simpa [Report.crossed, Report.modHeader, Header.speedRange] using hsteered
  · simpa [Report.crossed, Report.modFlags, Report.modHeader, Header.speedRange] using
      hsteered.written (.modFlags fun f => { f with directionConflict := true })

theorem State.oriented_refiles {α : Type} {view : Report → α} {s : State} {t : OpenTrain} (ht : s.axt.train = some t)
    (hspeed : ∀ v, Hides view (Report.modHeader (Header.speedRange v)))
    (hconflict : Hides view (Report.modFlags fun f => { f with directionConflict := true })) (pr : Pair) (inward : Bool) (v : Nat) :
    State.Refiles t.slot view s (s.oriented t pr inward v) := by
  have hsteered : State.Refiles t.slot view s (s.steered pr inward v) := by
    have hfirst : (s.modTrain fun t => { t with speed := v, lastSpeed := v }).axt.train =
        some { t with speed := v, lastSpeed := v } := congrArg (Option.map _) ht
    have hmoving : State.Refiles t.slot view s (s.modTrain fun t => { t with speed := v, lastSpeed := v }) := .of_rps rfl
    have hset : State.Refiles t.slot view s (s.setSpeed v) := hmoving.writeTrain hfirst rfl (hspeed v)
    exact hset.trans (.of_rps rfl)
  rw [State.oriented_eq]
  split
  · exact hsteered.writeTrain (State.steered_train ht pr inward v) rfl hconflict
  · exact hsteered

/-! ## Reversal -/

/-- The remaining time of a gate pair runs on from `now` (R140). -/
def GateClock.resumed (now : Nat) : GateClock → GateClock
  | .running e => .running e
  | .held r => .running (now + r)

theorem State.resumeGates_tsu (s : State) : s.resumeGates.tsu = s.tsu.reclock (.resumed s.now) := by
  unfold State.resumeGates Tsu.reclock GatePair.reclock GateClock.resumed
  rfl

/-- The gates that a reversal truncates, closed under the new direction (R142). -/
def State.gatesTurned (turned : Bool) (t : OpenTrain) (s : State) : State :=
  if turned = true then (s.withAxt { s.axt with train := some t }).closeGates true else s

theorem Report.axlesOf_speedRange (v : Nat) : Hides Report.axlesOf (Report.modHeader (Header.speedRange v)) := fun _ => rfl

theorem Report.axlesOf_modFlags (f : HeaderFlags → HeaderFlags) : Hides Report.axlesOf (Report.modFlags f) := fun _ => rfl

theorem OpenTrain.crossed_samePlace (pr : Pair) (inward : Bool) (v now halt clear : Nat) (t : OpenTrain) :
    OpenTrain.SamePlace { t with lastDir := relativeTo t.d0 (travelOf pr inward) }
      (OpenTrain.crossed pr (travelOf pr inward) v now halt { t with clearTimer := some clear }) :=
  ⟨rfl, rfl, rfl, rfl, rfl⟩

/-- The crossing's gates are those of the state before it, but for the clock: a reversal truncates them alike. -/
theorem State.gatesTurned_alike {s : State} {tr : OpenTrain} (ht : s.axt.train = some tr) (t : Nat) (pr : Pair) (inward : Bool)
    (v : Nat) :
    (s.gatesTurned (tr.turns (travelOf pr inward)) { tr with lastDir := relativeTo tr.d0 (travelOf pr inward) }).GateAlike
      (.resumed (max s.now t)) tr.slot ((s.atCrossing t pr).speeded (s.trainAt t tr) pr inward v) := by
  have hat := State.atCrossing_train ht t pr
  have horiented : s.GateAlike (.resumed (max s.now t)) tr.slot ((s.atCrossing t pr).oriented (s.trainAt t tr) pr inward v) :=
    { hot := congrFun (State.cfg_congr (by simp [State.atCrossing, State.atEdge])) _
      tsu := by
        simp only [State.oriented_frame, State.resumeGates_tsu]
        rfl
      slot := (State.oriented_refiles hat Report.axlesOf_speedRange (Report.axlesOf_modFlags _) pr inward v).own }
  have hspeeded : (s.atCrossing t pr).speeded (s.trainAt t tr) pr inward v =
      if relativeTo tr.d0 (travelOf pr inward) = tr.lastDir then (s.atCrossing t pr).oriented (s.trainAt t tr) pr inward v
      else ((s.atCrossing t pr).oriented (s.trainAt t tr) pr inward v).reversal := State.speeded_eq ..
  unfold State.gatesTurned OpenTrain.turns
  rw [hspeeded]
  by_cases hturn : relativeTo tr.d0 (travelOf pr inward) = tr.lastDir
  · rw [if_neg (by simpa using hturn), if_pos hturn]
    exact horiented
  · rw [if_pos (by simpa using hturn), if_neg hturn]
    have hreversed : (s.withAxt { s.axt with train := some { tr with
          lastDir := relativeTo tr.d0 (travelOf pr inward) } }).GateAlike (.resumed (max s.now t)) tr.slot
        ((s.atCrossing t pr).oriented (s.trainAt t tr) pr inward v).reverseCaptures :=
      ⟨horiented.hot, horiented.tsu, horiented.slot⟩
    have hturned : ((s.atCrossing t pr).oriented (s.trainAt t tr) pr inward v).reverseCaptures.axt.train = some
        (OpenTrain.crossed pr (travelOf pr inward) v (max s.now t) ((s.atCrossing t pr).haltTime v) (s.trainAt t tr)) :=
      congrArg Axt.train (State.oriented_axt hat pr inward v)
    have hclosed := hreversed.closeGates (OpenTrain.crossed_samePlace ..) rfl hturned true
    have hinterrupted : (((s.atCrossing t pr).oriented (s.trainAt t tr) pr inward v).reverseCaptures.closeGates
        true).segInterrupt.axt.train = some
        (OpenTrain.crossed pr (travelOf pr inward) v (max s.now t) ((s.atCrossing t pr).haltTime v) (s.trainAt t tr)) := by
      simpa using hturned
    exact hclosed.refiles (.refl _)
      (((State.Refiles.refl _).modVsg _).writeTrain hinterrupted rfl (Report.axlesOf_modFlags _)) rfl
      (by simp) rfl (by simp)

theorem Report.number_of_sansAxles {r r' : Report} (h : r'.sansAxles = r.sansAxles) : r'.header.number = r.header.number := by
  show r'.sansAxles.header.number = r.sansAxles.header.number
  rw [h]

/-- The report after a crossing's reversal: the gates move its axle records and may count dropped requests (R26, R142). -/
theorem State.speeded_fills {s : State} {t : OpenTrain} {r : Report} (h : s.Fills t r) (pr : Pair) (inward : Bool) (v : Nat) :
    ∃ r', (s.speeded t pr inward v).Fills (t.crossed pr (travelOf pr inward) v s.now (s.haltTime v)) r' ∧ r'.sansAxles =
      (r.crossed v (t.conflicts pr (travelOf pr inward) s.now) (t.turns (travelOf pr inward))).sansAxles := by
  have horiented := State.oriented_fills h pr inward v
  rw [State.speeded_eq]
  unfold OpenTrain.turns
  by_cases hturn : relativeTo t.d0 (travelOf pr inward) = t.lastDir
  · refine ⟨_, by rw [if_pos hturn]; exact horiented, ?_⟩
    simp [hturn]
  · rw [if_neg hturn]
    have hreversed : (s.oriented t pr inward v).reverseCaptures.Fills
        (t.crossed pr (travelOf pr inward) v s.now (s.haltTime v)) _ :=
      horiented.of_rps (by simpa using horiented.train) rfl rfl rfl
    obtain ⟨r', hclosed, hview⟩ := hreversed.refiled (State.closeGates_refiles hreversed.train true)
      (t' := t.crossed pr (travelOf pr inward) v s.now (s.haltTime v)) (by simpa using hreversed.train) rfl rfl
      fun _ _ => Report.number_of_sansAxles
    have hinterrupted := hclosed.of_rps (u := ((s.oriented t pr inward v).reverseCaptures.closeGates true).segInterrupt)
      hclosed.train rfl rfl rfl
    refine ⟨_, hinterrupted.written (.modFlags fun f => { f with reversed := true }), ?_⟩
    have hflagged := congrArg (Report.modFlags fun f => { f with reversed := true }) hview
    refine hflagged.trans ?_
    simp [hturn, Report.crossed, Report.sansAxles, Report.modFlags, Report.modHeader]

end Sys2Proof.Machine
end

section
/-! SUPPORT. The report of the open train through the count of a crossing, and ForwardEntryWritesTheAxle (R31 to R36, R46). -/

namespace Sys2Proof.Machine

/-! ## A forward entry (R31, R32) -/

/-- A report with the record of a new axle, or with AXLE_OVERFLOW (R31, R32). -/
def Report.appended (a : Nat) (x : AxleRecord) (r : Report) : Report :=
  if a < Config.axleTable then { r with axles := r.axles ++ [x] } else r.modFlags fun f => { f with axleOverflow := true }

theorem Report.appended_inside {a : Nat} (h : a < 512) (x : AxleRecord) (r : Report) :
    r.appended a x = { r with axles := r.axles ++ [x] } := if_pos h

theorem Report.appended_beyond {a : Nat} (h : 512 ≤ a) (x : AxleRecord) (r : Report) :
    r.appended a x = r.modFlags fun f => { f with axleOverflow := true } := if_neg (Nat.not_lt.mpr h)

/-- A report with the pass count of axle `a` incremented, if the table holds it (R31). -/
def Report.passed (a : Nat) (r : Report) : Report :=
  if a < Config.axleTable then r.modAxle a fun x => { x with pass := min (x.pass + 1) 255 } else r

/-- The report after a forward entry of axle `a` with the record `x` it would have if it is new (R31). -/
def Report.entered (a h : Nat) (x : AxleRecord) (r : Report) : Report :=
  if h < a + 1 then (r.modHeader (Header.countAxles (a + 1))).appended a x else r.passed a

theorem Report.number_of_sansVehicles {r r' : Report} (h : r'.sansVehicles = r.sansVehicles) :
    r'.header.number = r.header.number := by
  show r'.sansVehicles.header.number = r.sansVehicles.header.number
  rw [h]

/-- The segmenter's part of a crossing, with any train as the open one that stands in the slot (R46). -/
theorem State.Fills.segForward {s : State} {t u : OpenTrain} {r : Report} (h : s.Fills u r) (hs : u.slot = t.slot)
    (a v time : Nat) (spacing : Option (Nat × SpacingClass)) :
    ∃ r', (s.segForward t a v time spacing).Fills u r' ∧ r'.sansVehicles = r.sansVehicles :=
  h.refiled (hs ▸ State.segForward_refiles t a v time spacing s) (by simpa using h.train) rfl rfl
    fun _ _ => Report.number_of_sansVehicles

theorem Report.sansVehicles_appended {r r' : Report} (h : r'.sansVehicles = r.sansVehicles) (a : Nat) (x : AxleRecord) :
    (r'.appended a x).sansVehicles = (r.appended a x).sansVehicles := by
  unfold Report.appended
  split
  · exact congrArg (fun r : Report => { r with axles := r.axles ++ [x] }) h
  · exact congrArg (Report.modFlags fun f => { f with axleOverflow := true }) h

theorem Report.sansVehicles_passed {r r' : Report} (h : r'.sansVehicles = r.sansVehicles) (a : Nat) :
    (r'.passed a).sansVehicles = (r.passed a).sansVehicles := by
  unfold Report.passed
  split
  · exact congrArg (Report.modAxle a fun x => { x with pass := min (x.pass + 1) 255 }) h
  · exact h

theorem State.Fills.newAxle {s : State} {u : OpenTrain} {r : Report} (h : s.Fills u r) (a v : Nat)
    (spacing : Option (Nat × SpacingClass)) :
    (s.newAxle a v spacing).Fills u (r.appended a (.start a s.ssq.clock v spacing s.segVehicleIndex)) := by
  unfold State.newAxle Report.appended
  split
  · exact h.written (.appendAxle _)
  · exact h.written (.modFlags _)

theorem State.Fills.rePass {s : State} {u : OpenTrain} {r : Report} (h : s.Fills u r) (a : Nat) :
    (s.rePass a).Fills u (r.passed a) := by
  unfold State.rePass Report.passed
  split
  · exact h.written (.modAxle a _)
  · exact h

theorem State.newAxle_vsg (a v : Nat) (spacing : Option (Nat × SpacingClass)) (s : State) :
    (s.newAxle a v spacing).vsg = s.vsg := by simp

theorem State.segVehicleIndex_congr {s u : State} (h : u.vsg = s.vsg) : u.segVehicleIndex = s.segVehicleIndex := by
  unfold State.segVehicleIndex
  rw [h]

/-- A forward entry below the limit of N writes its axle's record beside what the segmenter writes (R31, R32, R46). -/
theorem State.Fills.forwardEntry {s : State} {t u : OpenTrain} {r : Report} (h : s.Fills u r) (hs : u.slot = t.slot)
    (hlt : t.n < 65535) (v : Nat) :
    ∃ u' r', (s.forwardEntry t v).Fills u' r' ∧ u'.slot = u.slot ∧ u'.number = u.number ∧
      r'.sansVehicles = (r.entered t.n t.h (.start t.n s.ssq.clock v (s.entrySpacing t.n v s.now)
        (s.forwardEntry t v).segVehicleIndex)).sansVehicles := by
  have hcounted : (s.modTrain fun t => { t with n := t.n + 1, h := max t.h (t.n + 1) }).Fills
      { u with n := u.n + 1, h := max u.h (u.n + 1) } r := h.modTrain rfl rfl
  unfold State.forwardEntry Report.entered
  rw [if_neg (by omega)]
  dsimp only
  split
  · obtain ⟨r', hfills, hview⟩ := (hcounted.written (.countAxles (t.n + 1))).segForward hs t.n v s.now (s.entrySpacing t.n v s.now)
    refine ⟨_, _, hfills.newAxle t.n v (s.entrySpacing t.n v s.now), rfl, rfl, ?_⟩
    rw [State.segVehicleIndex_congr (State.newAxle_vsg ..)]
    simp only [State.segForward_frame, State.writeTrain_frame, State.modTrain, State.modAxt_ssq]
    exact Report.sansVehicles_appended hview ..
  · obtain ⟨r', hfills, hview⟩ := hcounted.segForward hs t.n v s.now (s.entrySpacing t.n v s.now)
    exact ⟨_, _, hfills.rePass t.n, rfl, rfl, Report.sansVehicles_passed hview t.n⟩

/-! ## Any count -/

/-- A crossing of the entry pair that finds its count held (R31, R33). -/
def OpenTrain.held (pr : Pair) (inward : Bool) (t : OpenTrain) : Bool :=
  decide (pr = t.entry) && (if inward = true then decide (65535 ≤ t.n) else decide (t.n ≤ t.x))

/-- Header flags but for the overflows of the two tables. -/
def HeaderFlags.sansOverflow (f : HeaderFlags) : HeaderFlags := { f with axleOverflow := false, vehicleOverflow := false }

theorem HeaderFlags.eq_of_sansOverflow {f g : HeaderFlags} (h : f.sansOverflow = g.sansOverflow) :
    f = { g with axleOverflow := f.axleOverflow, vehicleOverflow := f.vehicleOverflow } := by
  cases f
  cases g
  simpa [HeaderFlags.sansOverflow] using h

/-- What every count leaves of a report: the header but for COUNT_CONFLICT, the axle and vehicle counts and the overflows, and the
gate sets of the axle records (R31 to R36). -/
structure Report.CountedFrom (held : Bool) (r r' : Report) : Prop where
  flags    : r'.header.flags.sansOverflow =
    { r.header.flags with countConflict := r.header.flags.countConflict || held }.sansOverflow
  minSpeed : r'.header.minSpeed = r.header.minSpeed
  maxSpeed : r'.header.maxSpeed = r.header.maxSpeed
  gates    : ∀ (i : Nat) (ax : AxleRecord), r.axles[i]? = some ax →
    ∃ ax', r'.axles[i]? = some ax' ∧ ax'.gates = ax.gates ∧ ax'.gateDirty = ax.gateDirty

theorem Report.axles_of_sansVehicles {r r' : Report} (h : r'.sansVehicles = r.sansVehicles) : r'.axles = r.axles := by
  show r'.sansVehicles.axles = r.sansVehicles.axles
  rw [h]

theorem Report.CountedFrom.of_sansVehicles {held : Bool} {r x r' : Report} (h : r.CountedFrom held x)
    (hx : r'.sansVehicles = x.sansVehicles) : r.CountedFrom held r' where
  flags :=
    (congrArg (fun r : Report => r.header.flags.sansOverflow) hx : _ = x.sansVehicles.header.flags.sansOverflow).trans h.flags
  minSpeed := (congrArg (fun r : Report => r.header.minSpeed) hx : _ = x.sansVehicles.header.minSpeed).trans h.minSpeed
  maxSpeed := (congrArg (fun r : Report => r.header.maxSpeed) hx : _ = x.sansVehicles.header.maxSpeed).trans h.maxSpeed
  gates := Report.axles_of_sansVehicles hx ▸ h.gates

theorem Report.CountedFrom.refl (r : Report) : r.CountedFrom false r :=
  ⟨by simp, rfl, rfl, fun _ ax hax => ⟨ax, hax, rfl, rfl⟩⟩

theorem Report.CountedFrom.countConflict (r : Report) :
    r.CountedFrom true (r.modFlags fun f => { f with countConflict := true }) :=
  ⟨by simp [Report.modFlags, Report.modHeader], rfl, rfl, fun _ ax hax => ⟨ax, hax, rfl, rfl⟩⟩

theorem Report.CountedFrom.entered (a h : Nat) (x : AxleRecord) (r : Report) : r.CountedFrom false (r.entered a h x) := by
  unfold Report.entered
  split
  · unfold Report.appended
    split
    · refine ⟨by simp [Report.modHeader, Header.countAxles], rfl, rfl, fun i ax hax => ⟨ax, ?_, rfl, rfl⟩⟩
      exact (List.getElem?_append_left (List.getElem?_eq_some_iff.mp hax).1).trans hax
    · exact ⟨by simp [Report.modFlags, Report.modHeader, Header.countAxles, HeaderFlags.sansOverflow], rfl, rfl,
        fun _ ax hax => ⟨ax, hax, rfl, rfl⟩⟩
  · unfold Report.passed
    split
    · refine ⟨by simp [Report.modAxle], rfl, rfl, fun i ax hax => ?_⟩
      refine ⟨if a = i then { ax with pass := min (ax.pass + 1) 255 } else ax, ?_, ?_, ?_⟩
      · show (r.axles.modify a _)[i]? = _
        rw [List.getElem?_modify, hax]
        split <;> rfl
      · split <;> rfl
      · split <;> rfl
    · exact .refl r

/-- A crossing's count in the report of the open train (R31 to R36). -/
theorem State.Fills.countCrossing {s : State} {t u : OpenTrain} {r : Report} (h : s.Fills u r) (hs : u.slot = t.slot) (pr : Pair)
    (inward : Bool) (v : Nat) :
    ∃ u' r', (s.countCrossing t pr inward v).Fills u' r' ∧ u'.slot = u.slot ∧ r.CountedFrom (t.held pr inward) r' := by
  unfold State.countCrossing OpenTrain.held
  by_cases hpr : pr = t.entry
  · rw [if_pos hpr, decide_eq_true hpr, Bool.true_and]
    cases inward
    · rw [if_neg Bool.false_ne_true, if_neg Bool.false_ne_true]
      unfold State.reverseEntry
      by_cases hheld : t.n ≤ t.x
      · rw [if_pos hheld, decide_eq_true hheld]
        have hflagged := h.written (.modFlags fun f => { f with countConflict := true })
        exact ⟨u, _, hflagged.of_rps (by simpa [State.flagCountConflict] using h.train) rfl rfl
          (by simp only [State.post_frame, State.flagCountConflict]), rfl, .countConflict r⟩
      · rw [if_neg hheld, decide_eq_false hheld]
        have hcounted : (s.modTrain fun t => { t with n := t.n - 1 }).Fills { u with n := u.n - 1 } r := h.modTrain rfl rfl
        obtain ⟨r', hfills, hview⟩ := hcounted.refiled (t' := { u with n := u.n - 1 })
          (hs ▸ State.segReverse_refiles t (t.n - 1) _) (by simpa using hcounted.train) rfl rfl
          fun _ _ => Report.number_of_sansVehicles
        exact ⟨_, r', hfills.of_rps (by simpa using hfills.train) rfl rfl (by simp), rfl,
          (Report.CountedFrom.refl r).of_sansVehicles hview⟩
    · rw [if_pos rfl, if_pos rfl]
      by_cases hheld : 65535 ≤ t.n
      · rw [decide_eq_true hheld, State.forwardEntry, if_pos hheld]
        exact ⟨u, _, h.written (.modFlags fun f => { f with countConflict := true }), rfl, .countConflict r⟩
      · rw [decide_eq_false hheld]
        obtain ⟨u', r', hfills, hslot, -, hview⟩ := h.forwardEntry hs (Nat.not_le.mp hheld) v
        exact ⟨u', r', hfills, hslot, (Report.CountedFrom.entered ..).of_sansVehicles hview⟩
  · rw [if_neg hpr, decide_eq_false hpr, Bool.false_and]
    cases inward
    · rw [if_neg Bool.false_ne_true]
      unfold State.forwardExit
      split
      · exact ⟨_, r, h.modTrain rfl rfl, rfl, .refl r⟩
      · exact ⟨u, r, ⟨h.train, h.slot, h.number⟩, rfl, .refl r⟩
    · exact ⟨_, r, h.modTrain (f := fun t => { t with x := t.x - 1 }) rfl rfl, rfl, .refl r⟩

end Sys2Proof.Machine
end

section
/-! SUPPORT. ForwardEntryWritesTheAxle: a forward entry of the open train read off its report (R24, R31, R32, R47, R142). -/

namespace Sys2Proof.Machine

@[simp] theorem State.speeded_frame (t : OpenTrain) (pr : Pair) (inward : Bool) (v : Nat) (s : State) :
    (s.speeded t pr inward v).now = s.now ∧
      (s.speeded t pr inward v).ssq = s.ssq ∧
      (s.speeded t pr inward v).nodes = s.nodes ∧
      (s.speeded t pr inward v).channels = s.channels ∧
      (s.speeded t pr inward v).atq = s.atq ∧
      (s.speeded t pr inward v).mpc = s.mpc := by
  simp [State.speeded]

/-! ## The report before the crossing -/

theorem State.gatesTurned_refiles {s : State} {t : OpenTrain} (turned : Bool) :
    State.Refiles t.slot Report.sansAxles s (s.gatesTurned turned t) := by
  unfold State.gatesTurned
  split
  · have hopen : State.Refiles t.slot Report.sansAxles s (s.withAxt { s.axt with train := some t }) := .of_rps rfl
    exact hopen.trans (State.closeGates_refiles rfl true)
  · exact .refl s

/-- The slot that holds the train's report after the truncation of its gates holds it before, with the same header. -/
theorem State.fills_of_gatesTurned {s : State} {tr t : OpenTrain} {h : HeldSlot} {turned : Bool} (ht : s.axt.train = some tr)
    (hs : t.slot = tr.slot) (hslot : (s.gatesTurned turned t).rps.slots[tr.slot] = some h) (hst : h.st = .filling)
    (hn : h.report.header.number = tr.number) : ∃ r, s.Fills tr r ∧ h.report.sansAxles = r.sansAxles := by
  have hown := (hs ▸ State.gatesTurned_refiles (s := s) (t := t) turned :
    State.Refiles tr.slot Report.sansAxles s (s.gatesTurned turned t)).own
  rw [hslot] at hown
  obtain ⟨held, hheld, heq⟩ := Option.map_eq_some_iff.mp hown.symm
  obtain ⟨hst', hview⟩ : held.st = h.st ∧ held.report.sansAxles = h.report.sansAxles := Prod.ext_iff.mp heq
  refine ⟨held.report, ⟨ht, ?_, (Report.number_of_sansAxles hview).trans hn⟩, hview.symm⟩
  rw [hheld, ← hst, ← hst']

/-- The report of the open train after a crossing's motion: its axle records are those that the truncated gates leave. -/
theorem State.atCrossing_fills {s : State} {tr : OpenTrain} {r : Report} (h : s.Fills tr r) (t : Nat) (pr : Pair) (inward : Bool)
    (v : Nat) :
    ∃ u r', ((s.atCrossing t pr).speeded (s.trainAt t tr) pr inward v).Fills u r' ∧ u.slot = tr.slot ∧ u.number = tr.number ∧
      r'.sansAxles = (r.crossed v (tr.conflicts pr (travelOf pr inward) (max s.now t)) (tr.turns (travelOf pr inward))).sansAxles ∧
      ∀ hc, (s.gatesTurned (tr.turns (travelOf pr inward)) { tr with
        lastDir := relativeTo tr.d0 (travelOf pr inward) }).rps.slots[tr.slot] = some hc → r'.axles = hc.report.axles := by
  have hat : (s.atCrossing t pr).Fills (s.trainAt t tr) r := h.of_rps (State.atCrossing_train h.train t pr) rfl rfl rfl
  obtain ⟨r', hfills, hview⟩ := State.speeded_fills hat pr inward v
  refine ⟨_, r', hfills, rfl, rfl, hview, fun hc hslot => ?_⟩
  have halike := (State.gatesTurned_alike h.train t pr inward v).slot
  have hheld : ((s.atCrossing t pr).speeded (s.trainAt t tr) pr inward v).rps.slots[tr.slot] =
      some { st := .filling, report := r' } := hfills.slot
  rw [hslot, hheld] at halike
  exact congrArg (fun x : SlotState × Nat × List AxleRecord => x.2.2) (Option.some.inj halike)

/-! ## The segmenter at a forward entry -/

theorem State.forwardEntry_reference {t : OpenTrain} (hlt : t.n < 65535) (v : Nat) (s : State) :
    (s.forwardEntry t v).vsg.reference = some (v, s.now) ∧ (s.forwardEntry t v).vsg.interrupted = false := by
  unfold State.forwardEntry
  rw [if_neg (by omega)]
  dsimp only
  split
  · simp only [State.newAxle_frame]
    exact ⟨rfl, rfl⟩
  · simp only [State.rePass_frame]
    exact ⟨rfl, rfl⟩

theorem State.entrySpacing_congr {s u : State} (hv : u.vsg = s.vsg) (hc : u.cfg = s.cfg) (a v time : Nat) :
    u.entrySpacing a v time = s.entrySpacing a v time := by
  unfold State.entrySpacing State.classify
  rw [hv, hc]

theorem State.segVehicleIndex_eq (s : State) : s.segVehicleIndex =
    if s.vsg.vehicles.length = 0 ∨ 256 < s.vsg.vehicles.length then none else some (s.vsg.vehicles.length - 1) := by
  unfold State.segVehicleIndex Vsg.openIndex recordedVehicle Config.vehicleTable
  cases s.vsg.vehicles with
  | nil => rfl
  | cons v vs =>
    have hlength : 256 < vs.length + 1 ↔ ¬ vs.length < 256 := by omega
    by_cases hin : vs.length < 256 <;> simp [hlength, hin, Option.filter_some]

theorem State.countCrossing_forwardEntry {t : OpenTrain} {pr : Pair} (h : pr = t.entry) (v : Nat) (s : State) :
    s.countCrossing t pr true v = s.forwardEntry t v := by
  unfold State.countCrossing
  rw [if_pos h, if_pos rfl]

/-! ## The report after a forward entry -/

theorem Report.entered_new {a h : Nat} (hnew : h ≤ a) (x : AxleRecord) (r : Report) :
    r.entered a h x = (r.modHeader (Header.countAxles (a + 1))).appended a x := if_pos (Nat.lt_succ_of_le hnew)

theorem Report.entered_again {a h : Nat} (hold : a < h) (x : AxleRecord) (r : Report) : r.entered a h x = r.passed a :=
  if_neg (by omega)

/-- The report `r''` after a forward entry of axle `a` with the record `x`, from the report `r` before the crossing's motion, whose
truncated gates leave the axle records `axles`: the header's speed range, then the table (R24, R31, R32). -/
structure Report.EntryOf (a h v : Nat) (x : AxleRecord) (axles : List AxleRecord) (r r'' : Report) : Prop where
  minSpeed : r''.header.minSpeed = some (min (r.header.minSpeed.getD v) v)
  maxSpeed : r''.header.maxSpeed = some (max (r.header.maxSpeed.getD v) v)
  appended : h ≤ a → a < 512 → r''.axles = axles ++ [x]
  overflow : h ≤ a → 512 ≤ a → r''.axles = axles ∧ r''.header.flags.axleOverflow = true
  counts   : h ≤ a → r''.header.h = a + 1 ∧ r''.header.recorded = min (a + 1) 512
  passed   : a < h → r''.header.h = r.header.h ∧
    r''.axles = if a < 512 then axles.modify a (fun x => { x with pass := min (x.pass + 1) 255 }) else axles

theorem Report.EntryOf.of_views {a h v : Nat} {x : AxleRecord} {axles : List AxleRecord} {r r₁ r' r'' : Report}
    {conflict turned : Bool} (hr : r.sansAxles = r₁.sansAxles) (hcrossed : r'.sansAxles = (r₁.crossed v conflict turned).sansAxles)
    (haxles : r'.axles = axles) (hentered : r''.sansVehicles = (r'.entered a h x).sansVehicles) :
    Report.EntryOf a h v x axles r r'' := by
  have hrest := (Report.CountedFrom.entered a h x r').of_sansVehicles hentered
  have hheader := congrArg Report.header hcrossed
  have hbefore := congrArg Report.header hr
  have hafter := congrArg Report.header hentered
  have haxles'' := Report.axles_of_sansVehicles hentered
  have hmin : r.header.minSpeed = r₁.header.minSpeed := (congrArg Header.minSpeed hbefore :)
  have hmax : r.header.maxSpeed = r₁.header.maxSpeed := (congrArg Header.maxSpeed hbefore :)
  have hh : r'.header.h = r.header.h := (congrArg Header.h hheader).trans (congrArg Header.h hbefore).symm
  refine ⟨?_, ?_, fun hnew hin => ?_, fun hnew hout => ?_, fun hnew => ?_, fun hold => ?_⟩
  · rw [hrest.minSpeed, hmin]
    exact congrArg Header.minSpeed hheader
  · rw [hrest.maxSpeed, hmax]
    exact congrArg Header.maxSpeed hheader
  · rw [haxles'', Report.entered_new hnew, Report.appended_inside hin, ← haxles]
    rfl
  · rw [Report.entered_new hnew, Report.appended_beyond hout] at haxles'' hafter
    exact ⟨haxles''.trans haxles, congrArg (fun h : Header => h.flags.axleOverflow) hafter⟩
  · have hcounted : (r'.entered a h x).header.h = a + 1 ∧ (r'.entered a h x).header.recorded = min (a + 1) 512 := by
      rw [Report.entered_new hnew, Report.appended]
      split <;> exact ⟨rfl, rfl⟩
    exact ⟨(congrArg Header.h hafter).trans hcounted.1, (congrArg Header.recorded hafter).trans hcounted.2⟩
  · have hpassed : (r'.entered a h x).header.h = r'.header.h := by
      rw [Report.entered_again hold, Report.passed]
      split <;> rfl
    refine ⟨((congrArg Header.h hafter).trans hpassed).trans hh, ?_⟩
    rw [haxles'', Report.entered_again hold, Report.passed, ← haxles]
    show (if a < 512 then _ else _ : Report).axles = _
    split <;> rfl

/-- Settles O35: the report goes through the motion (`State.atCrossing_fills`), then through the entry
(`State.Fills.forwardEntry`). -/
theorem forwardEntryWritesTheAxle : Obligations.ForwardEntryWritesTheAxle := by
  intro w t s v tr h hok ht hc hd0 hlt now reversal closed measured hslot hst hnumber
  have hforward : relativeTo tr.d0 (travelOf tr.entry true) = .forward := by
    rw [relativeTo_travelOf]
    exact if_pos hd0.symm
  have hturns : tr.turns (travelOf tr.entry true) = reversal := by
    unfold OpenTrain.turns
    rw [hforward]
    show _ = decide (tr.lastDir = .reverse)
    cases tr.lastDir <;> rfl
  have hclosed : s.gatesTurned (tr.turns (travelOf tr.entry true)) { tr with
      lastDir := relativeTo tr.d0 (travelOf tr.entry true) } = closed := by
    rw [hturns, hforward]
    rfl
  rw [← hclosed] at hslot
  obtain ⟨r, hfills, hr⟩ := State.fills_of_gatesTurned (t := { tr with
    lastDir := relativeTo tr.d0 (travelOf tr.entry true) }) ht rfl hslot hst hnumber
  obtain ⟨u, r', hfills', hs, hn, hview, haxles⟩ := State.atCrossing_fills hfills t tr.entry true v
  obtain ⟨e, he⟩ : ∃ e, e = (s.atCrossing t tr.entry).speeded (s.trainAt t tr) tr.entry true v := ⟨_, rfl⟩
  have henow : e.now = now := by simp only [he, State.speeded_frame]; rfl
  have heclock : e.ssq.clock = s.ssq.clock := by simp only [he, State.speeded_frame]; rfl
  have hespacing : e.entrySpacing tr.n v e.now = measured.entrySpacing tr.n v now := by
    rw [henow]
    refine State.entrySpacing_congr ?_ (State.cfg_congr ?_) ..
    · rw [he, State.speeded_vsg]
      show _ = { s.vsg with interrupted := s.vsg.interrupted || reversal }
      rw [← hturns]
      rfl
    · simp only [he, State.speeded_frame]
      rfl
  rw [← he] at hfills'
  obtain ⟨u', r'', hentered, hs', hn', hview'⟩ := State.Fills.forwardEntry (t := s.trainAt t tr) hfills' hs hlt v
  have hreport := Report.EntryOf.of_views hr hview (haxles h hslot) hview'
  obtain ⟨href, hint⟩ := State.forwardEntry_reference (t := s.trainAt t tr) hlt v e
  have hexec := exec_crossing hok ht hc
  rw [← he, State.countCrossing_forwardEntry (t := s.trainAt t tr) (pr := tr.entry) rfl] at hexec
  have hheld : (e.forwardEntry (s.trainAt t tr) v).rps.slots[tr.slot] = some { st := .filling, report := r'' } :=
    hentered.held (hs'.trans hs)
  refine ⟨_, hexec, by rw [href, henow], hint, _, hheld, rfl, hentered.number.trans (hn'.trans hn), hreport.minSpeed,
    hreport.maxSpeed, fun hnew hin => ⟨_, hreport.appended hnew hin, ?_⟩, hreport.overflow, hreport.counts, hreport.passed⟩
  rw [← hespacing, ← heclock, ← State.segVehicleIndex_eq]
  exact AxleRecord.start_isNew ..

end Sys2Proof.Machine
end

section
/-! SUPPORT. CrossingMovesTheOpenTrain: counts, tracker, pointers and alerts of a crossing of the open train (R24 to R36). -/

namespace Sys2Proof.Machine

/-! ## Counts -/

/-- N after a crossing, by its kind (R31, R33). -/
def OpenTrain.nAfter (pr : Pair) (inward : Bool) (t : OpenTrain) : Nat :=
  if pr = t.entry ∧ inward = true then (if t.n < 65535 then t.n + 1 else t.n)
  else if pr = t.entry then (if t.x < t.n then t.n - 1 else t.n) else t.n

/-- X after a crossing, by its kind (R35, R36). -/
def OpenTrain.xAfter (pr : Pair) (inward : Bool) (t : OpenTrain) : Nat :=
  if pr = t.entry then t.x else if inward = true then t.x - 1 else if t.x < t.n then t.x + 1 else t.x

theorem OpenTrain.counting_eq {t u : OpenTrain} (hc : t.SameCounts u) (pr : Pair) (inward : Bool) : t.counting pr inward u =
    { u with
      n := t.nAfter pr inward, h := if t.n < t.nAfter pr inward then max t.h (t.nAfter pr inward) else t.h
      x := t.xAfter pr inward } := by
  obtain ⟨-, -, hn, hh, hx⟩ := hc
  unfold OpenTrain.counting OpenTrain.nAfter OpenTrain.xAfter
  rw [← hn, ← hh, ← hx]
  by_cases hpr : pr = t.entry
  · cases inward
    · by_cases hheld : u.n ≤ u.x
      · simp [hpr, hheld, Nat.not_lt.mpr hheld]
      · simp [hpr, hheld, Nat.not_le.mp hheld]
    · by_cases hheld : 65535 ≤ u.n
      · simp [hpr, hheld, Nat.not_lt.mpr hheld]
      · simp [hpr, hheld, Nat.not_le.mp hheld]
  · cases inward
    · by_cases hin : u.x < u.n <;> simp [hpr, hin]
    · simp [hpr]

theorem OpenTrain.BacksOut.nAfter {t : OpenTrain} {pr : Pair} {inward : Bool} (h : t.BacksOut pr inward) :
    t.nAfter pr inward = t.n - 1 ∧ t.nAfter pr inward < t.n := by
  obtain ⟨hpr, rfl, hlt⟩ := h
  have hn : t.nAfter pr false = t.n - 1 := by simp [OpenTrain.nAfter, hpr, hlt]
  exact ⟨hn, by omega⟩

theorem OpenTrain.nAfter_of_not_backsOut {t : OpenTrain} {pr : Pair} {inward : Bool} (h : ¬ t.BacksOut pr inward) :
    t.n ≤ t.nAfter pr inward := by
  unfold OpenTrain.BacksOut at h
  unfold OpenTrain.nAfter
  split
  · split <;> omega
  · rename_i hin
    split
    · rename_i hpr
      rw [if_neg fun hlt => h ⟨hpr, by simpa [hpr] using hin, hlt⟩]
    · exact le_rfl

/-! ## Tracker and alerts -/

theorem State.countCrossing_tracker (t : OpenTrain) (pr : Pair) (inward : Bool) (v : Nat) (s : State) :
    (s.countCrossing t pr inward v).axt.pairs = s.axt.pairs ∧
      (s.countCrossing t pr inward v).axt.continuation = s.axt.continuation ∧
      (s.countCrossing t pr inward v).axt.stray = s.axt.stray ∧
      (s.countCrossing t pr inward v).axt.unenteredExit = (if pr ≠ t.entry ∧ inward = false ∧ t.n ≤ t.x
        then min (s.axt.unenteredExit + 1) 65535 else s.axt.unenteredExit) := by
  unfold State.countCrossing
  by_cases hpr : pr = t.entry
  · have hentry : ¬ (pr ≠ t.entry ∧ inward = false ∧ t.n ≤ t.x) := fun h => h.1 hpr
    rw [if_pos hpr, if_neg hentry]
    cases inward
    · rw [if_neg Bool.false_ne_true]
      unfold State.reverseEntry
      split
      · simp
      · simp [State.clampPointers, State.modTrain]
    · rw [if_pos rfl]
      unfold State.forwardEntry
      dsimp only
      split
      · simp
      · split <;> simp [State.modTrain]
  · rw [if_neg hpr]
    cases inward
    · rw [if_neg Bool.false_ne_true]
      unfold State.forwardExit
      by_cases hin : t.x < t.n
      · rw [if_pos hin, if_neg fun h => absurd hin (Nat.not_lt.mpr h.2.2)]
        exact ⟨rfl, rfl, rfl, rfl⟩
      · rw [if_neg hin, if_pos ⟨hpr, rfl, Nat.not_lt.mp hin⟩]
        exact ⟨rfl, rfl, rfl, rfl⟩
    · rw [if_pos rfl, if_neg fun h => absurd h.2.1 (by decide)]
      exact ⟨rfl, rfl, rfl, rfl⟩

/-- A held reverse entry posts COUNT_CONFLICT (R33). -/
theorem State.countCrossing_posts {t : OpenTrain} {pr : Pair} (hpr : pr = t.entry) (hheld : t.n ≤ t.x) (v : Nat) (s : State) :
    (s.countCrossing t pr false v).atq = s.atq.filed s.ssq.clock (countConflictAlert t) := by
  unfold State.countCrossing State.reverseEntry
  rw [if_pos hpr, if_neg Bool.false_ne_true, if_pos hheld, State.post_atq]
  simp

/-- No other crossing posts an alert. -/
theorem State.countCrossing_silent {t : OpenTrain} {pr : Pair} {inward : Bool}
    (h : pr ≠ t.entry ∨ inward = true ∨ t.x < t.n) (v : Nat) (s : State) : (s.countCrossing t pr inward v).atq = s.atq := by
  unfold State.countCrossing
  by_cases hpr : pr = t.entry
  · rw [if_pos hpr]
    cases inward
    · have hlt : t.x < t.n := (h.resolve_left fun hne => hne hpr).resolve_left Bool.false_ne_true
      rw [if_neg Bool.false_ne_true, State.reverseEntry, if_neg (Nat.not_le.mpr hlt)]
      simp
    · simp
  · rw [if_neg hpr]
    cases inward <;> simp

theorem Atq.filed_newest (time : Clock) (q : Atq) (d : AlertDraft) : ((q.filed time d).queues.get d.level).getLast? =
    some { number := nextNumber q.number, draft := d, time := time } := by
  unfold Atq.filed
  dsimp only
  rw [PerLevel.get_upd_self, List.getLast?_concat, nextNumber_eq]

/-! ## Store -/

theorem State.speeded_onlySlot {s : State} {t : OpenTrain} (ht : s.axt.train = some t) (pr : Pair) (inward : Bool) (v : Nat) :
    State.OnlySlot t.slot s (s.speeded t pr inward v) := by
  have horiented := (State.oriented_refiles ht Report.axlesOf_speedRange (Report.axlesOf_modFlags _) pr inward v).toOnlySlot
  rw [State.speeded_eq]
  split
  · exact horiented
  · have htrain : (s.oriented t pr inward v).reverseCaptures.axt.train =
        some (t.crossed pr (travelOf pr inward) v s.now (s.haltTime v)) := congrArg Axt.train (State.oriented_axt ht pr inward v)
    have hreversed : State.OnlySlot t.slot s (s.oriented t pr inward v).reverseCaptures := horiented.trans (.of_rps rfl)
    have hclosed : State.OnlySlot t.slot s ((s.oriented t pr inward v).reverseCaptures.closeGates true) :=
      hreversed.trans (State.closeGates_refiles htrain true).toOnlySlot
    have hinterrupted : State.OnlySlot t.slot s ((s.oriented t pr inward v).reverseCaptures.closeGates true).segInterrupt :=
      hclosed.trans (.of_rps rfl)
    exact hinterrupted.writeTrain (t := t.crossed pr (travelOf pr inward) v s.now (s.haltTime v)) (by simpa using htrain) rfl _

theorem State.segForward_axt (t : OpenTrain) (a v time : Nat) (spacing : Option (Nat × SpacingClass)) (s : State) :
    (s.segForward t a v time spacing).axt = s.axt := by simp

theorem State.writeTrain_axt (f : Report → Report) (s : State) : (s.writeTrain f).axt = s.axt := by simp

theorem State.countCrossing_onlySlot {s : State} {t u : OpenTrain} (hu : s.axt.train = some u) (hs : u.slot = t.slot) (pr : Pair)
    (inward : Bool) (v : Nat) : State.OnlySlot t.slot s (s.countCrossing t pr inward v) := by
  have same : State.OnlySlot t.slot s s := .of_rps rfl
  have moved (f : OpenTrain → OpenTrain) : State.OnlySlot t.slot s (s.modTrain f) := .of_rps rfl
  unfold State.countCrossing
  split
  · cases inward
    · rw [if_neg Bool.false_ne_true]
      unfold State.reverseEntry State.flagCountConflict
      split
      · have hflagged := same.writeTrain hu hs (Report.modFlags fun f => { f with countConflict := true })
        exact hflagged.trans (.of_rps (by simp))
      · have hseg := (moved fun t => { t with n := t.n - 1 }).trans (State.segReverse_refiles t (t.n - 1) _).toOnlySlot
        exact hseg.trans (.of_rps (by simp))
    · rw [if_pos rfl]
      unfold State.forwardEntry State.flagCountConflict State.newAxle State.rePass
      dsimp only
      have hmoved : (s.modTrain fun t => { t with n := t.n + 1, h := max t.h (t.n + 1) }).axt.train =
          some { u with n := u.n + 1, h := max u.h (u.n + 1) } := congrArg (Option.map _) hu
      split
      · exact same.writeTrain hu hs _
      · split
        · have hseg := ((moved fun t => { t with n := t.n + 1, h := max t.h (t.n + 1) }).writeTrain hmoved hs
              (Report.modHeader (Header.countAxles (t.n + 1)))).trans
            (State.segForward_refiles t t.n v s.now (s.entrySpacing t.n v s.now) _).toOnlySlot
          have htrain := congrArg Axt.train (State.segForward_axt t t.n v s.now (s.entrySpacing t.n v s.now)
            ((s.modTrain fun t => { t with n := t.n + 1, h := max t.h (t.n + 1) }).writeTrain
              (Report.modHeader (Header.countAxles (t.n + 1)))))
          rw [State.writeTrain_axt, hmoved] at htrain
          split <;> exact hseg.writeTrain htrain hs _
        · have hseg := (moved fun t => { t with n := t.n + 1, h := max t.h (t.n + 1) }).trans
            (State.segForward_refiles t t.n v s.now (s.entrySpacing t.n v s.now) _).toOnlySlot
          have htrain := (congrArg Axt.train (State.segForward_axt t t.n v s.now (s.entrySpacing t.n v s.now) _)).trans hmoved
          split
          · exact hseg.writeTrain htrain hs _
          · exact hseg
  · cases inward
    · rw [if_neg Bool.false_ne_true]
      unfold State.forwardExit
      split <;> exact .of_rps rfl
    · exact .of_rps rfl

/-! ## Pointers -/

theorem State.speeded_units (t : OpenTrain) (pr : Pair) (inward : Bool) (v : Nat) (s : State) :
    (s.speeded t pr inward v).units = vmap (fun u => { u with
      capture := u.capture.map fun c =>
        if relativeTo t.d0 (travelOf pr inward) = t.lastDir then c else { c with reversed := true } }) s.units := by
  refine Vector.ext fun i hi => (State.speeded_unit t pr inward v s ⟨i, hi⟩).trans (Eq.symm ?_)
  show (vmap _ s.units)[(⟨i, hi⟩ : Fin 16)] = _
  rw [vmap_get]

/-- The crib pointers above `n` are counted from the pointers alone. -/
theorem State.speeded_pointersAbove (t : OpenTrain) (pr : Pair) (inward : Bool) (v n : Nat) (s : State) :
    (s.speeded t pr inward v).pointersAbove n = s.units.toList.countP (fun u => decide (n < u.pointer)) +
      (if n < (s.speeded t pr inward v).tsu.pointer then 1 else 0) := by
  unfold State.pointersAbove
  rw [State.speeded_units, vmap_eq_map, Vector.toList_map, List.countP_map]
  rfl

end Sys2Proof.Machine
end

section
/-! SUPPORT. CrossingMovesTheOpenTrain: a crossing as a whole, then its report, its captures and its gates. -/

namespace Sys2Proof.Machine

/-! ## The crossing as a whole -/

/-- The state after a crossing of the open train that the edge at `t` completes (R20 to R36, R40). -/
def State.crossedAt (t : Nat) (tr : OpenTrain) (pr : Pair) (inward : Bool) (v : Nat) (s : State) : State :=
  ((s.atCrossing t pr).speeded (s.trainAt t tr) pr inward v).countCrossing (s.trainAt t tr) pr inward v

theorem relativeTo_motion (d0 travel : Direction) :
    (relativeTo d0 travel).motion = if travel = d0 then .movingFwd else .movingRev := by
  unfold relativeTo
  split <;> rfl

section
variable {s : State} {tr : OpenTrain} (ht : s.axt.train = some tr) (t : Nat) (pr : Pair) (inward : Bool) (v : Nat)
include ht

theorem State.crossedAt_train : (s.crossedAt t tr pr inward v).axt.train = some { tr with
    motion := if travelDirection pr inward = tr.d0 then .movingFwd else .movingRev
    lastDir := if travelDirection pr inward = tr.d0 then .forward else .reverse
    speed := v, lastSpeed := v, n := tr.nAfter pr inward
    h := if tr.n < tr.nAfter pr inward then max tr.h (tr.nAfter pr inward) else tr.h, x := tr.xAfter pr inward
    haltTimer := some (max s.now t + s.haltAfter v), clearTimer := some (max s.now t + 1000000 * s.cfg .tclear)
    standTimer := none, lastCross := tr.lastCross.upd pr (fun _ => some (max s.now t, travelDirection pr inward)) } := by
  have hhalt : (s.atCrossing t pr).haltTime v = s.haltAfter v := State.haltTime_eq s v
  unfold State.crossedAt
  rw [State.countCrossing_train, State.speeded_axt (State.atCrossing_train ht t pr), Option.map_some,
    OpenTrain.counting_eq (OpenTrain.crossed_sameCounts ..), hhalt, travelOf_eq]
  unfold OpenTrain.crossed OpenTrain.cross
  rw [relativeTo_motion]
  rfl

theorem State.crossedAt_tracker : (s.crossedAt t tr pr inward v).axt.pairs =
      s.axt.pairs.upd pr (fun _ => (s.axt.pairs.get pr).completed (max s.now t)) ∧
    (s.crossedAt t tr pr inward v).axt.continuation = s.axt.continuation ∧
    (s.crossedAt t tr pr inward v).axt.stray = s.axt.stray ∧
    (s.crossedAt t tr pr inward v).axt.unenteredExit = (if pr ≠ tr.entry ∧ inward = false ∧ tr.n ≤ tr.x
      then min (s.axt.unenteredExit + 1) 65535 else s.axt.unenteredExit) := by
  unfold State.crossedAt
  obtain ⟨hpairs, hcontinuation, hstray, hexit⟩ := State.countCrossing_tracker (s.trainAt t tr) pr inward v
    ((s.atCrossing t pr).speeded (s.trainAt t tr) pr inward v)
  rw [hpairs, hcontinuation, hstray, hexit, State.speeded_axt (State.atCrossing_train ht t pr)]
  exact ⟨rfl, rfl, rfl, rfl⟩

theorem State.crossedAt_onlySlot : State.OnlySlot tr.slot s (s.crossedAt t tr pr inward v) := by
  have hat := State.atCrossing_train ht t pr
  have hstarted : State.OnlySlot tr.slot s (s.atCrossing t pr) := .of_rps rfl
  have hmoved : State.OnlySlot tr.slot s ((s.atCrossing t pr).speeded (s.trainAt t tr) pr inward v) :=
    hstarted.trans (State.speeded_onlySlot (t := s.trainAt t tr) hat pr inward v)
  have htrain := congrArg Axt.train (State.speeded_axt hat pr inward v)
  exact hmoved.trans (State.countCrossing_onlySlot (t := s.trainAt t tr) htrain rfl pr inward v)

theorem State.crossedAt_clamp (h : ¬ tr.BacksOut pr inward) :
    (s.crossedAt t tr pr inward v).axt.pointerClamp = s.axt.pointerClamp := by
  unfold State.crossedAt
  obtain ⟨-, -, hclamp⟩ := State.countCrossing_still (t := s.trainAt t tr) h v
    ((s.atCrossing t pr).speeded (s.trainAt t tr) pr inward v)
  rw [hclamp, State.speeded_axt (State.atCrossing_train ht t pr)]
  rfl

theorem State.crossedAt_clamped (h : tr.BacksOut pr inward) : (s.crossedAt t tr pr inward v).axt.pointerClamp =
    min (s.axt.pointerClamp + (s.units.toList.countP (fun u => decide (tr.n - 1 < u.pointer)) +
      (if tr.n - 1 < ((s.atCrossing t pr).speeded (s.trainAt t tr) pr inward v).tsu.pointer then 1 else 0))) 65535 := by
  unfold State.crossedAt
  obtain ⟨-, -, hclamp⟩ := State.countCrossing_backsOut (t := s.trainAt t tr) h v
    ((s.atCrossing t pr).speeded (s.trainAt t tr) pr inward v)
  rw [hclamp, State.speeded_axt (State.atCrossing_train ht t pr),
    State.speeded_pointersAbove]
  rfl

end

section
variable (t : Nat) (tr : OpenTrain) (pr : Pair) (inward : Bool) (v : Nat) (s : State)

@[simp] theorem State.crossedAt_frame :
    (s.crossedAt t tr pr inward v).ssq = s.ssq ∧
      (s.crossedAt t tr pr inward v).nodes = s.nodes ∧
      (s.crossedAt t tr pr inward v).channels = s.channels ∧
      (s.crossedAt t tr pr inward v).mpc.active = s.mpc.active ∧
      (s.crossedAt t tr pr inward v).mpc.pendingCfg = s.mpc.pendingCfg ∧
      (s.crossedAt t tr pr inward v).tsu.scanners = s.tsu.scanners := by
  unfold State.crossedAt
  simp only [State.countCrossing_frame, State.speeded_frame, State.countCrossing_scanners]
  refine ⟨rfl, rfl, rfl, rfl, rfl, ?_⟩
  unfold State.speeded
  simp [State.atCrossing, State.atEdge]

/-- Every capture unit after a crossing: its pointer clamped where an axle backs out, its capture REVERSED by a reversal (R34,
R86). -/
theorem State.crossedAt_unit (c : Fin 16) : (s.crossedAt t tr pr inward v).units[c] = { s.units[c] with
    pointer := if tr.nAfter pr inward < tr.n then min (s.units[c]).pointer (tr.nAfter pr inward) else (s.units[c]).pointer
    capture := (s.units[c]).capture.map fun x =>
      if tr.turns (travelOf pr inward) = true then { x with reversed := true } else x } := by
  have hmoved : ((s.atCrossing t pr).speeded (s.trainAt t tr) pr inward v).units[c] = { s.units[c] with
      capture := (s.units[c]).capture.map fun x =>
        if tr.turns (travelOf pr inward) = true then { x with reversed := true } else x } := by
    rw [State.speeded_unit]
    unfold OpenTrain.turns
    simp only [decide_eq_true_eq, ne_eq, ite_not]
    rfl
  unfold State.crossedAt
  by_cases hb : tr.BacksOut pr inward
  · obtain ⟨hn, hlt⟩ := hb.nAfter
    rw [(State.countCrossing_backsOut (t := s.trainAt t tr) hb ..).1, vmap_get, hmoved, if_pos hlt, hn]
    rfl
  · rw [(State.countCrossing_still (t := s.trainAt t tr) hb ..).1, hmoved,
      if_neg (Nat.not_lt.mpr (OpenTrain.nAfter_of_not_backsOut hb))]

theorem State.crossedAt_posts (hpr : pr = tr.entry) (hheld : tr.n ≤ tr.x) :
    s.PostedAfter (s.crossedAt t tr pr false v) 0 (noticeAlert .countConflict (some (tr.number, tr.slot)) none tr.n) := by
  unfold State.PostedAfter State.crossedAt
  rw [State.countCrossing_posts (t := s.trainAt t tr) hpr hheld]
  simp only [State.speeded_frame]
  exact Atq.filed_newest s.ssq.clock s.atq (countConflictAlert (s.trainAt t tr))

theorem State.crossedAt_silent (h : pr ≠ tr.entry ∨ inward = true ∨ tr.x < tr.n) :
    (s.crossedAt t tr pr inward v).atq = s.atq := by
  unfold State.crossedAt
  rw [State.countCrossing_silent (t := s.trainAt t tr) h]
  simp only [State.speeded_frame]
  rfl

end

/-- The scanner unit after a crossing: the gates of its reversal closed, the gate time resumed, the pointer clamped where an axle
backs out (R34, R140, R142). -/
theorem State.crossedAt_tsu {s : State} {tr : OpenTrain} (ht : s.axt.train = some tr) (t : Nat) (pr : Pair) (inward : Bool)
    (v : Nat) :
    let closed := s.gatesTurned (tr.turns (travelOf pr inward)) { tr with lastDir := relativeTo tr.d0 (travelOf pr inward) }
    (s.crossedAt t tr pr inward v).tsu = { closed.tsu.reclock (.resumed (max s.now t)) with
      pointer := if tr.nAfter pr inward < tr.n then min closed.tsu.pointer (tr.nAfter pr inward) else closed.tsu.pointer } := by
  intro closed
  have hmoved := (State.gatesTurned_alike ht t pr inward v).tsu
  unfold State.crossedAt
  by_cases hb : tr.BacksOut pr inward
  · obtain ⟨hn, hlt⟩ := hb.nAfter
    rw [(State.countCrossing_backsOut (t := s.trainAt t tr) hb ..).2.1, hmoved, if_pos hlt, hn]
    rfl
  · rw [(State.countCrossing_still (t := s.trainAt t tr) hb ..).2.1, hmoved,
      if_neg (Nat.not_lt.mpr (OpenTrain.nAfter_of_not_backsOut hb))]
    rfl

/-- The clamped pointers, crib and gate, are counted where an axle backs out (R34). -/
theorem State.crossedAt_pointerClamp {s : State} {tr : OpenTrain} (ht : s.axt.train = some tr) (t : Nat) (pr : Pair) (inward : Bool)
    (v : Nat) :
    let closed := s.gatesTurned (tr.turns (travelOf pr inward)) { tr with lastDir := relativeTo tr.d0 (travelOf pr inward) }
    let n := if pr = tr.entry ∧ inward = false ∧ tr.x < tr.n then tr.n - 1 else tr.n
    (s.crossedAt t tr pr inward v).axt.pointerClamp = if n < tr.n then
      min (s.axt.pointerClamp + (s.units.toList.countP fun x => n < x.pointer) + (if n < closed.tsu.pointer then 1 else 0)) 65535
    else s.axt.pointerClamp := by
  intro closed n
  by_cases hb : tr.BacksOut pr inward
  · have hn : n = tr.n - 1 := if_pos hb
    have hpointer : ((s.atCrossing t pr).speeded (s.trainAt t tr) pr inward v).tsu.pointer = closed.tsu.pointer := by
      rw [(State.gatesTurned_alike ht t pr inward v).tsu]
      rfl
    have hlt : tr.n - 1 < tr.n := hb.nAfter.1 ▸ hb.nAfter.2
    rw [State.crossedAt_clamped ht t pr inward v hb, hpointer, hn, if_pos hlt, Nat.add_assoc]
  · have hn : n = tr.n := if_neg hb
    rw [State.crossedAt_clamp ht t pr inward v hb, hn, if_neg (lt_irrefl _)]

/-! ## The report -/

/-- The report of the open train after a crossing (R24, R26, R27, R31, R33). -/
theorem State.crossedAt_report {s : State} {tr : OpenTrain} {r : Report} (h : s.Fills tr r) (t : Nat) (pr : Pair) (inward : Bool)
    (v : Nat) :
    ∃ r₁ r' : Report, (s.crossedAt t tr pr inward v).rps.slots[tr.slot] = some { st := .filling, report := r' } ∧
      r₁.sansAxles = (r.crossed v (tr.conflicts pr (travelOf pr inward) (max s.now t)) (tr.turns (travelOf pr inward))).sansAxles ∧
      (∀ hc, (s.gatesTurned (tr.turns (travelOf pr inward)) { tr with
        lastDir := relativeTo tr.d0 (travelOf pr inward) }).rps.slots[tr.slot] = some hc → r₁.axles = hc.report.axles) ∧
      r₁.CountedFrom (tr.held pr inward) r' := by
  obtain ⟨u, r₁, hfills, hs, -, hview, haxles⟩ := State.atCrossing_fills h t pr inward v
  obtain ⟨u', r', hcounted, hs', hfrom⟩ := hfills.countCrossing (t := s.trainAt t tr) hs pr inward v
  exact ⟨r₁, r', hcounted.held (hs'.trans hs), hview, haxles, hfrom⟩

theorem State.SlotsOk.fills {s : State} (h : s.SlotsOk) {tr : OpenTrain} (ht : s.axt.train = some tr) {held : HeldSlot}
    (hslot : s.rps.slots[tr.slot] = some held) : s.Fills tr held.report := by
  have hst : held.st = .filling := by
    have hany := (h.filling tr.slot).mpr ⟨tr, ht, rfl⟩
    rw [hslot] at hany
    simpa using hany
  exact ⟨ht, by rw [hslot, ← hst], h.number tr held ht hslot⟩

/-- The clamp of R34 moves a pointer only where N falls. -/
theorem OpenTrain.clamp_eq (t : OpenTrain) (pr : Pair) (inward : Bool) (p : Nat) :
    (if t.nAfter pr inward < t.n then min p (t.nAfter pr inward) else p) =
      let n := if pr = t.entry ∧ inward = false ∧ t.x < t.n then t.n - 1 else t.n
      if n < t.n then min p n else p := by
  by_cases hb : t.BacksOut pr inward
  · obtain ⟨hn, hlt⟩ := hb.nAfter
    rw [if_pos hlt, if_pos (show pr = t.entry ∧ inward = false ∧ t.x < t.n from hb), ← hn]
    exact (if_pos hlt).symm
  · rw [if_neg (Nat.not_lt.mpr (OpenTrain.nAfter_of_not_backsOut hb)),
      if_neg (show ¬ (pr = t.entry ∧ inward = false ∧ t.x < t.n) from hb)]
    exact (if_neg (lt_irrefl _)).symm

/-- Settles O34: the state after the crossing is `State.crossedAt`, read field by field. -/
theorem crossingMovesTheOpenTrain : Obligations.CrossingMovesTheOpenTrain := by
  refine ⟨fun w t s pr inward v tr hok ht hc => ?moves, fun w t s pr inward v tr h hok hslots ht hc hslot => ?reports⟩
  case moves =>
    intro now travel forward n x
    obtain ⟨hpairs, hcontinuation, hstray, hexit⟩ := State.crossedAt_tracker ht t pr inward v
    obtain ⟨hssq, hnodes, hchannels, hactive, hpending, hscanners⟩ := State.crossedAt_frame t tr pr inward v s
    obtain ⟨hothers, horder, hcounter⟩ := State.crossedAt_onlySlot ht t pr inward v
    refine ⟨s.crossedAt t tr pr inward v, exec_crossing hok ht hc, State.crossedAt_train ht t pr inward v, hpairs, hcontinuation,
      hstray, hexit, fun c => congrArg CaptureUnit.pointer (State.crossedAt_unit t tr pr inward v s c), fun hn => ?_, ?_,
      State.crossedAt_silent t tr pr inward v s, hssq, hnodes, hchannels, hscanners, hactive, hpending, horder, hcounter, hothers⟩
    · exact State.crossedAt_clamp ht t pr inward v fun hb => absurd hb.nAfter.2 (Nat.not_lt.mpr hn)
    · rintro hpr rfl hheld
      exact State.crossedAt_posts t tr pr v s hpr hheld
  case reports =>
    intro now travel dir reversal n held conflict closed
    have hdir : relativeTo tr.d0 (travelOf pr inward) = dir := relativeTo_travelOf ..
    have hturns : tr.turns (travelOf pr inward) = reversal := by
      unfold OpenTrain.turns
      rw [hdir]
    have hconflict : tr.conflicts pr (travelOf pr inward) now = conflict := by
      rw [travelOf_eq]
      cases pr <;> rfl
    have hclosed : s.gatesTurned (tr.turns (travelOf pr inward)) { tr with
        lastDir := relativeTo tr.d0 (travelOf pr inward) } = closed := by
      rw [hturns, hdir]
      rfl
    have hclamp (p : Nat) : (if tr.nAfter pr inward < tr.n then min p (tr.nAfter pr inward) else p) =
        if n < tr.n then min p n else p := tr.clamp_eq pr inward p
    have htsu := State.crossedAt_tsu ht t pr inward v
    obtain ⟨r₁, r', hheld, hview, haxles, hfrom⟩ := State.crossedAt_report (hslots.fills ht hslot) t pr inward v
    rw [hclosed] at haxles
    dsimp only at htsu
    rw [hclosed, hclamp] at htsu
    rw [hturns, hconflict] at hview
    have hheader := congrArg Report.header hview
    refine ⟨s.crossedAt t tr pr inward v, exec_crossing hok ht hc, fun c => ?_, htsu, ?_, _, hheld, ?_, ?_, ?_, fun hc hslot' => ?_⟩
    · rw [State.crossedAt_unit, hclamp, hturns]
    · rw [← hclosed]
      exact State.crossedAt_pointerClamp ht t pr inward v
    · have hflags : r₁.header.flags = { h.report.header.flags with
          reversed := h.report.header.flags.reversed || reversal
          directionConflict := h.report.header.flags.directionConflict || conflict } := (congrArg Header.flags hheader :)
      have hcounted := HeaderFlags.eq_of_sansOverflow hfrom.flags
      rw [hflags] at hcounted
      exact hcounted
    · have hmin : r₁.header.minSpeed = some (min (h.report.header.minSpeed.getD v) v) := (congrArg Header.minSpeed hheader :)
      rw [hfrom.minSpeed, hmin]
      cases h.report.header.minSpeed with
      | none => exact congrArg some (min_self v)
      | some old => rfl
    · have hmax : r₁.header.maxSpeed = some (max (h.report.header.maxSpeed.getD v) v) := (congrArg Header.maxSpeed hheader :)
      rw [hfrom.maxSpeed, hmax]
      cases h.report.header.maxSpeed with
      | none => exact congrArg some (max_self v)
      | some old => rfl
    · rw [← haxles hc hslot']
      exact hfrom.gates

end Sys2Proof.Machine
end

section
/-! SUPPORT. The message ports keep to their capacities: every operation on one port, and every service of a request (R172, R173, R175,
R178). -/

namespace Sys2Proof.Machine

/-! ## Output queue -/

theorem sat16_le (n : Nat) : sat16 n ≤ 65535 := min_le_right ..

/-- What a break asks of a port on which none stands (R178). -/
theorem PortMachine.cut_of_unbroken {pm : PortMachine} (hb : pm.broken = false) :
    pm.broken = true → pm.requests = [] ∧ pm.leaving = none ∧ pm.waiting = [] ∧ pm.stream = none :=
  fun hc => absurd (hb.symm.trans hc) Bool.false_ne_true

/-- A frame that is no notice, or that finds room for one, is taken by a port on which no break stands (R173). -/
theorem PortMachine.Bounded.push {pm : PortMachine} (h : pm.Bounded) (hb : pm.broken = false) (f : OutFrame)
    (hf : f.cls = .notice → pm.waitingNotices < Config.noticeDepth) : (pm.push f).Bounded := by
  unfold PortMachine.push
  split
  · exact { h with orderly := nofun, cut := PortMachine.cut_of_unbroken hb }
  · next g hl =>
    have hcount : ({ pm with waiting := pm.waiting ++ [f] } : PortMachine).waitingNotices
        = pm.waitingNotices + if f.cls = .notice then 1 else 0 := by
      simp [PortMachine.waitingNotices, List.countP_append, List.countP_singleton]
    refine { h with notices := ?_, orderly := fun hn => absurd (hl.symm.trans hn) nofun, cut := PortMachine.cut_of_unbroken hb }
    rw [hcount]
    split
    · next hn => exact hf hn
    · exact h.notices

theorem PortMachine.push_broken (f : OutFrame) (pm : PortMachine) : (pm.push f).broken = pm.broken := by
  unfold PortMachine.push
  split <;> rfl

theorem PortMachine.push_requests (f : OutFrame) (pm : PortMachine) : (pm.push f).requests = pm.requests := by
  unfold PortMachine.push
  split <;> rfl

/-- A notice joins the output queue, or is lost and counted (R173, R178). -/
theorem PortMachine.Bounded.notice {pm : PortMachine} (h : pm.Bounded) (kind : Byte) (payload : List Byte) :
    (pm.notice kind payload).Bounded := by
  unfold PortMachine.notice
  split
  · exact { h with losses := sat16_le _ }
  · next hc =>
    simp only [Bool.or_eq_true, decide_eq_true_eq, not_or, Bool.not_eq_true, not_le] at hc
    exact h.push hc.1 _ fun _ => hc.2

theorem PortMachine.notice_broken (kind : Byte) (payload : List Byte) (pm : PortMachine) :
    (pm.notice kind payload).broken = pm.broken := by
  unfold PortMachine.notice
  split
  · rfl
  · exact PortMachine.push_broken ..

theorem PortMachine.notice_requests (kind : Byte) (payload : List Byte) (pm : PortMachine) :
    (pm.notice kind payload).requests = pm.requests := by
  unfold PortMachine.notice
  split
  · rfl
  · exact PortMachine.push_requests ..

/-- A stream that ends leaves the port its STREAM END notice (R175). -/
theorem PortMachine.Bounded.endStream {pm : PortMachine} (h : pm.Bounded) (ending : Nat) : (pm.endStream ending).Bounded := by
  unfold PortMachine.endStream
  split
  · exact h
  · have hs : ({ pm with stream := none } : PortMachine).Bounded :=
      { h with cut := fun hb => ⟨(h.cut hb).1, (h.cut hb).2.1, (h.cut hb).2.2.1, rfl⟩ }
    exact hs.notice ..

theorem PortMachine.endStream_broken (ending : Nat) (pm : PortMachine) : (pm.endStream ending).broken = pm.broken := by
  unfold PortMachine.endStream
  split
  · rfl
  · exact PortMachine.notice_broken ..

theorem PortMachine.endStream_head (ending : Nat) (pm : PortMachine) : (pm.endStream ending).head = pm.head := by
  unfold PortMachine.endStream PortMachine.head
  split
  · rfl
  · rw [PortMachine.notice_requests]

theorem PortMachine.Bounded.slotTaken {pm : PortMachine} (h : pm.Bounded) (k : Fin 4) : (pm.slotTaken k).Bounded := by
  unfold PortMachine.slotTaken
  split
  · exact h.endStream 2
  · exact h

/-! ## Replies -/

theorem markFirstServed_length (rs : List QueuedRequest) : (markFirstServed rs).length = rs.length := by
  induction rs with
  | nil => rfl
  | cons r rs ih =>
    unfold markFirstServed
    split
    · rw [List.length_cons, ih, List.length_cons]
    · rfl

/-- A port with an unserved request has no break on its line (R178). -/
theorem PortMachine.Bounded.unbroken {pm : PortMachine} (h : pm.Bounded) {r : QueuedRequest} (hr : pm.head = some r) :
    pm.broken = false := by
  refine Bool.eq_false_iff.mpr fun hb => ?_
  unfold PortMachine.head at hr
  rw [(h.cut hb).1] at hr
  cases hr

theorem PortMachine.foldl_push_broken (fs : List OutFrame) (pm : PortMachine) :
    (fs.foldl (fun m f => m.push f) pm).broken = pm.broken :=
  List.foldlRecOn (motive := fun m : PortMachine => m.broken = pm.broken) fs _ rfl
    fun _ hm f _ => (PortMachine.push_broken f _).trans hm

theorem PortMachine.reply_broken (fs : List OutFrame) (pm : PortMachine) : (pm.reply fs).broken = pm.broken :=
  PortMachine.foldl_push_broken ..

/-- The frames of a reply are none of them notices, and find any room (R173). -/
theorem PortMachine.Bounded.reply {pm : PortMachine} (h : pm.Bounded) (hb : pm.broken = false) {fs : List OutFrame}
    (hf : ∀ f ∈ fs, f.cls ≠ .notice) : (pm.reply fs).Bounded := by
  have hmarked : ({ pm with requests := markFirstServed pm.requests } : PortMachine).Bounded :=
    { h with
      requests := (markFirstServed_length _).trans_le h.requests
      cut := PortMachine.cut_of_unbroken hb }
  have hboth := List.foldlRecOn (motive := fun m : PortMachine => m.Bounded ∧ m.broken = false) fs (fun m f => m.push f)
    ⟨hmarked, hb⟩ fun m hm f hmem => ⟨hm.1.push hm.2 f fun hn => absurd hn (hf f hmem), (PortMachine.push_broken f m).trans hm.2⟩
  exact hboth.1

theorem replyFrames_not_notice (kind tag : Byte) (o : ReplyOutcome) (bodies : List (List Byte)) :
    ∀ f ∈ replyFrames kind tag o bodies, f.cls ≠ .notice := by
  induction bodies with
  | nil => nofun
  | cons b bs ih =>
    cases bs with
    | nil => simp [replyFrames]
    | cons b' bs =>
      intro f hf
      rcases List.mem_cons.mp hf with rfl | hf
      · nofun
      · exact ih f hf

/-! ## Receiver, line and stream -/

theorem PortMachine.Bounded.goodFrame {pm : PortMachine} (h : pm.Bounded ∧ pm.broken = false) (f : List Byte) :
    (pm.goodFrame f).Bounded ∧ (pm.goodFrame f).broken = false := by
  unfold PortMachine.goodFrame
  split
  · have hb := (PortMachine.endStream_broken 1 pm).trans h.2
    have hs := h.1.endStream 1
    unfold PortMachine.enqueue
    split
    · next hroom =>
      exact ⟨{ hs with
        requests := by simpa using hroom
        cut := PortMachine.cut_of_unbroken hb }, hb⟩
    · exact ⟨{ hs with overflow := sat16_le _ }, hb⟩
  · exact h

theorem PortMachine.Bounded.receive {pm : PortMachine} (h : pm.Bounded) (bytes : List Byte) : (pm.receive bytes).Bounded := by
  unfold PortMachine.receive
  split
  · exact h
  · next hb =>
    have hboth := List.foldlRecOn (motive := fun m : PortMachine => m.Bounded ∧ m.broken = false)
      (pm.receiver.feed bytes).frames PortMachine.goodFrame
      (b := { pm with receiver := (pm.receiver.feed bytes).receiver, bad := sat16 (pm.bad + (pm.receiver.feed bytes).bad) })
      ⟨{ h with bad := sat16_le _ }, Bool.eq_false_iff.mpr hb⟩ fun _ hm f _ => PortMachine.Bounded.goodFrame hm f
    exact hboth.1

theorem PortMachine.Bounded.frameSent {pm : PortMachine} (h : pm.Bounded) {f : OutFrame} (hf : pm.leaving = some f) :
    (pm.frameSent f).Bounded := by
  have hb : pm.broken = false := Bool.eq_false_iff.mpr fun hb => nomatch hf.symm.trans (h.cut hb).2.1
  have hrequests : (pm.frameSent f).requests.length ≤ pm.requests.length := by
    unfold PortMachine.frameSent
    dsimp only
    split
    · rw [List.length_drop]; omega
    · exact le_rfl
  exact { h with
    requests := hrequests.trans h.requests
    notices := ((List.drop_sublist 1 pm.waiting).countP_le).trans h.notices
    orderly := fun hn => by rw [PortMachine.frameSent, List.head?_eq_none_iff.mp hn, List.drop_nil]
    cut := PortMachine.cut_of_unbroken hb }

theorem PortMachine.Bounded.makePage {pm : PortMachine} (h : pm.Bounded) (hb : pm.broken = false) (st : StreamState) (r : Report) :
    (pm.makePage st r).Bounded := by
  have hstream : ({ pm with stream := some { st with nextPage := st.nextPage + 1 } } : PortMachine).Bounded :=
    { h with cut := PortMachine.cut_of_unbroken hb }
  have hpage := hstream.push hb (pageFrame st r) nofun
  unfold PortMachine.makePage
  dsimp only
  split
  · exact hpage.endStream 0
  · exact hpage

theorem PortMachine.Bounded.break {pm : PortMachine} (h : pm.Bounded) : pm.break.Bounded :=
  { h with
    requests := Nat.zero_le _
    notices := Nat.zero_le _
    orderly := fun _ => rfl
    cut := fun _ => ⟨rfl, rfl, rfl, rfl⟩
    breaks := sat16_le _ }

theorem PortMachine.Bounded.breakEnd {pm : PortMachine} (h : pm.Bounded) : ({ pm with broken := false } : PortMachine).Bounded :=
  { h with cut := nofun }

end Sys2Proof.Machine
end

section
/-! SUPPORT. The engine keeps its lanes to their depth, its LRG order to the four lanes, and its evaluations in flight apart and with
the snapshots their grants made (R98 to R104). -/

namespace Sys2Proof.Machine

/-- The snapshot of an evaluation is of its lane's kind, and only a vehicle's evaluation has been removed (R103, R104). -/
def Evaluation.Fits (ev : Evaluation) : Prop :=
  match ev.req.lane, ev.snapshot with
  | .a, .rail _ => ev.removed = false
  | .b, .rail _ => ev.removed = false
  | .thermal, .thermal _ => ev.removed = false
  | .vehicle, .vehicle _ => True
  | _, _ => False

/-- The evaluations in flight fit their lanes (R103). -/
def Evu.Fit (v : Evu) : Prop := ∀ (e : Fin 2) (ev : Evaluation), v.evals[e] = some ev → ev.Fits

/-- The evaluations in flight cover no common axle (R99). -/
def Evu.Apart (v : Evu) : Prop :=
  ∀ e f, v.evals[(0 : Fin 2)] = some e → v.evals[(1 : Fin 2)] = some f → e.coverage.overlaps f.coverage = false

theorem State.evalsOk_iff (s : State) : s.EvalsOk ↔ s.evu.Fit := Iff.rfl

theorem State.coveragesDisjoint_iff (s : State) : s.CoveragesDisjoint ↔ s.evu.Apart := Iff.rfl

/-- What holds of the engine `v`, of the four conditions on its lanes, its order and its evaluations, holds of `w`. -/
structure Evu.Keeps (v w : Evu) : Prop where
  lanes : ∀ l, (v.lanes.get l).length ≤ Config.laneDepth → (w.lanes.get l).length ≤ Config.laneDepth
  lrg   : v.lrg.Perm [.a, .b, .thermal, .vehicle] → w.lrg.Perm [.a, .b, .thermal, .vehicle]
  apart : v.Apart → w.Apart
  fit   : v.Fit → w.Fit

theorem Evu.Keeps.refl (v : Evu) : v.Keeps v := ⟨fun _ => id, id, id, id⟩

theorem Evu.Keeps.trans {v w x : Evu} (h : v.Keeps w) (h' : w.Keeps x) : v.Keeps x :=
  ⟨fun l hl => h'.lanes l (h.lanes l hl), fun hl => h'.lrg (h.lrg hl), fun ha => h'.apart (h.apart ha), fun hf => h'.fit (h.fit hf)⟩

/-- A change of the lanes that keeps their depth, with the order and the evaluations as they were. -/
theorem Evu.Keeps.of_lanes {v w : Evu}
    (hl : ∀ l, (v.lanes.get l).length ≤ Config.laneDepth → (w.lanes.get l).length ≤ Config.laneDepth)
    (ho : w.lrg = v.lrg) (he : w.evals = v.evals) : v.Keeps w :=
  ⟨hl, fun h => ho ▸ h, fun h => by unfold Evu.Apart; rwa [he], fun h => by unfold Evu.Fit; rwa [he]⟩

/-- A change of what is beside the lanes, the order and the evaluations: the sweep, the counts, the urgent mark. -/
theorem Evu.Keeps.of_eq {v w : Evu} (hl : w.lanes = v.lanes) (ho : w.lrg = v.lrg) (he : w.evals = v.evals) : v.Keeps w :=
  .of_lanes (fun l h => by rwa [hl]) ho he

/-- A change of one lane that keeps its depth. -/
theorem Evu.Keeps.lane {v w : Evu} {l : Lane} {f : List Request → List Request} (hl : w.lanes = v.lanes.upd l f)
    (hf : (v.lanes.get l).length ≤ Config.laneDepth → (f (v.lanes.get l)).length ≤ Config.laneDepth)
    (ho : w.lrg = v.lrg) (he : w.evals = v.evals) : v.Keeps w := by
  refine .of_lanes (fun j hj => ?_) ho he
  rw [hl, PerLane.get_upd]
  split
  · next h => subst h; exact hf hj
  · exact hj

/-! ## Evaluations in flight -/

/-- Evaluations changed one by one without their coverage, lane or snapshot, none of another lane than VEHICLE removed. -/
theorem Evu.Keeps.mapEvals {v w : Evu} {f : Evaluation → Evaluation} (hl : w.lanes = v.lanes) (ho : w.lrg = v.lrg)
    (he : w.evals = vmap (fun e => e.map f) v.evals) (hc : ∀ ev, (f ev).coverage = ev.coverage)
    (hf : ∀ ev : Evaluation, ev.Fits → (f ev).Fits) : v.Keeps w := by
  have hget (e : Fin 2) {x : Evaluation} (hx : w.evals[e] = some x) : ∃ ev, v.evals[e] = some ev ∧ f ev = x := by
    rw [he, vmap_get] at hx
    exact Option.map_eq_some_iff.mp hx
  refine ⟨fun l h => by rwa [hl], fun h => by rwa [ho], fun h e g h0 h1 => ?_, fun h e x hx => ?_⟩
  · obtain ⟨e', he', rfl⟩ := hget 0 h0
    obtain ⟨g', hg', rfl⟩ := hget 1 h1
    rw [hc, hc]
    exact h e' g' he' hg'
  · obtain ⟨ev, hev, rfl⟩ := hget e hx
    exact hf ev (h e ev hev)

theorem evals_set (evals : Vector (Option Evaluation) 2) (e g : Fin 2) (x : Option Evaluation) :
    (evals.set e x)[g] = if g = e then x else evals[g] := by
  have h := vupd_get evals e g (fun _ => x)
  split
  · next hg => rwa [if_pos hg] at h
  · next hg => rwa [if_neg hg] at h

theorem Evu.Keeps.release (e : Fin 2) (v : Evu) : v.Keeps { v with evals := v.evals.set e none } := by
  have hget {g : Fin 2} {x : Evaluation} (hx : (v.evals.set e none)[g] = some x) : v.evals[g] = some x := by
    rw [evals_set] at hx
    split at hx
    · cases hx
    · exact hx
  exact ⟨fun _ => id, id, fun h x y hx hy => h x y (hget hx) (hget hy), fun h g x hx => h g x (hget hx)⟩

/-- Sharing an axle record does not depend on the order of the two (R101). -/
theorem Coverage.overlaps_comm (c d : Coverage) : c.overlaps d = d.overlaps c := by
  unfold Coverage.overlaps
  rw [Nat.max_comm c.first, Nat.min_comm (c.first + c.count), Bool.beq_comm]

theorem State.coverageFree_iff (s : State) (c : Coverage) : s.coverageFree c = true ↔
    ∀ (e : Fin 2) (ev : Evaluation), s.evu.evals[e] = some ev → c.overlaps ev.coverage = false := by
  unfold State.coverageFree
  rw [List.all_eq_true]
  constructor
  · intro h e ev hev
    have hmem : some ev ∈ s.evu.evals.toList := hev ▸ Vector.mem_toList_iff.mpr (Vector.getElem_mem e.isLt)
    simpa using h _ hmem
  · intro h x hx
    obtain ⟨i, hi, rfl⟩ := Vector.getElem_of_mem (Vector.mem_toList_iff.mp hx)
    cases hx : s.evu.evals[i] with
    | none => rfl
    | some ev => simpa using h ⟨i, hi⟩ ev hx

/-- The snapshot that a grant makes is of its lane's kind (R103). -/
theorem State.evaluationFor_fits (r : Request) (s : State) : (s.evaluationFor r).Fits := by
  unfold State.evaluationFor Evaluation.Fits Report.snapshot Snapshot.empty
  cases hr : r.lane <;> cases s.rps.slots[r.slot] <;> simp only

/-- A new evaluation that covers no axle of one in flight (R99, R101). -/
theorem State.grant_apart {s : State} {r : Request} (hr : s.coverageFree (s.coverageOf r) = true) (e : Fin 2) (l : Lane) :
    (s.grant e l r).evu.Apart := by
  have hfree := (s.coverageFree_iff _).mp hr
  intro x y hx hy
  change (s.evu.evals.set e (some (s.evaluationFor r)))[(0 : Fin 2)] = some x at hx
  change (s.evu.evals.set e (some (s.evaluationFor r)))[(1 : Fin 2)] = some y at hy
  rw [evals_set] at hx hy
  match e with
  | 0 =>
    obtain rfl := Option.some.inj hx
    exact hfree 1 y hy
  | 1 =>
    obtain rfl := Option.some.inj hy
    rw [Coverage.overlaps_comm]
    exact hfree 0 x hx

/-- The granted lane moves to the last place of the order (R102). -/
theorem lrgAfter_perm {order : List Lane} (h : order.Perm [.a, .b, .thermal, .vehicle]) (l : Lane) :
    (lrgAfter order l).Perm [.a, .b, .thermal, .vehicle] := by
  have hmoved : (lrgAfter order l).Perm (lrgAfter [.a, .b, .thermal, .vehicle] l) := (h.filter _).append_right [l]
  refine hmoved.trans ?_
  cases l <;> decide

theorem State.grant_keeps {s : State} {r : Request} (hr : s.coverageFree (s.coverageOf r) = true) (e : Fin 2) (l : Lane) :
    s.evu.Keeps (s.grant e l r).evu where
  lanes := fun j hj => by
    change ((s.evu.lanes.upd l fun q => q.drop 1).get j).length ≤ _
    rw [PerLane.get_upd]
    split
    · exact (List.length_drop ▸ Nat.sub_le ..).trans hj
    · exact hj
  lrg := fun h => lrgAfter_perm h l
  apart := fun _ => State.grant_apart hr e l
  fit := fun h g x hx => by
    change (s.evu.evals.set e (some (s.evaluationFor r)))[g] = some x at hx
    rw [evals_set] at hx
    split at hx
    · exact Option.some.inj hx ▸ s.evaluationFor_fits r
    · exact h g x hx

/-! ## Arbitration (R100 to R102) -/

theorem State.purgeLane_keeps (l : Lane) (s : State) : s.evu.Keeps (s.purgeLane l).evu :=
  .lane (l := l) (f := fun _ => (s.evu.lanes.get l).dropWhile s.staleRequest) rfl
    ((List.length_dropWhile_le ..).trans ·) rfl rfl

theorem State.purge_keeps (s : State) : s.evu.Keeps s.purge.evu :=
  (((State.purgeLane_keeps .a s).trans (State.purgeLane_keeps .b _)).trans (State.purgeLane_keeps .thermal _)).trans
    (State.purgeLane_keeps .vehicle _)

/-- The lane that is granted has a permitted head (R102). -/
theorem State.permittedHead_of_pickLane {s : State} {l : Lane} (h : s.pickLane = some l) : (s.permittedHead l).isSome := by
  unfold State.pickLane at h
  split at h
  · next hu =>
    obtain rfl := Option.some.inj h
    unfold State.urgentGrant at hu
    rw [Bool.and_eq_true] at hu
    cases hp : s.permittedHead .thermal with
    | none => rw [hp] at hu; cases hu.2
    | some _ => rfl
  · simpa using List.find?_some h

theorem State.coverageFree_of_permittedHead {s : State} {l : Lane} {r : Request} (h : (s.permittedHead l).isSome)
    (hr : (s.evu.lanes.get l).head? = some r) : s.coverageFree (s.coverageOf r) = true := by
  unfold State.permittedHead at h
  rw [hr] at h
  dsimp only at h
  split at h
  · assumption
  · cases h

theorem State.arbitrateOnce_keeps (s : State) : s.evu.Keeps s.arbitrateOnce.evu := by
  refine s.purge_keeps.trans ?_
  unfold State.arbitrateOnce
  generalize s.purge = u
  dsimp only
  split
  · next hl =>
    split
    · next hr => exact State.grant_keeps (State.coverageFree_of_permittedHead (State.permittedHead_of_pickLane hl) hr) ..
    · exact .refl _
  · exact .refl _

theorem State.arbitrate_keeps (s : State) : s.evu.Keeps s.arbitrate.evu :=
  (s.arbitrateOnce_keeps.trans (State.arbitrateOnce_keeps _)).trans (State.purge_keeps _)

/-! ## Requests (R97, R98) -/

theorem Evu.Keeps.noteDrop (k : Fin 4) (v : Evu) : v.Keeps (v.noteDrop k) := by
  unfold Evu.noteDrop
  split
  · split <;> exact .of_eq rfl rfl rfl
  · exact .refl v

theorem State.lodge_keeps (r : Request) (s : State) : s.evu.Keeps (s.lodge r).evu := by
  unfold State.lodge
  dsimp only
  split
  · exact .lane (l := r.lane) (f := mergeRequest r) rfl (fun h => by rwa [mergeRequest, List.length_map]) rfl rfl
  · split
    · next hroom => exact .lane (l := r.lane) (f := (· ++ [r])) rfl (fun _ => by simpa using hroom) rfl rfl
    · unfold State.dropRequest
      rw [(State.write_frame ..).2.2.2.2.2.2.2.1]
      exact Evu.Keeps.trans (w := { s.evu with dropped := s.evu.dropped.upd r.lane fun n => sat16 (n + 1) }) (.of_eq rfl rfl rfl)
        (.noteDrop ..)

theorem State.file_keeps (r : Request) (s : State) : s.evu.Keeps (s.file r).evu := by
  unfold State.file
  split
  · exact s.lodge_keeps r
  · exact .refl _

theorem State.submit_keeps (r : Request) (s : State) : s.evu.Keeps (s.submit r).evu := by
  unfold State.submit
  split
  · exact (s.lodge_keeps r).trans (State.arbitrate_keeps _)
  · exact .refl _

theorem State.sweepVisit_keeps (k : Fin 4) (r : Report) (pos : SweepPos) (s : State) : s.evu.Keeps (s.sweepVisit k r pos).evu := by
  unfold State.sweepVisit
  dsimp only
  split
  · exact .of_eq rfl rfl rfl
  · split
    · exact (s.submit_keeps _).trans (.of_eq rfl rfl rfl)
    · exact .of_eq rfl rfl rfl

theorem State.serveLanes_keeps (s : State) : s.evu.Keeps s.serveLanes.evu := by
  rcases s.serveLanes_cases with he | ⟨-, -, he⟩ <;> rw [he]
  · exact s.arbitrate_keeps
  · refine s.arbitrate_keeps.trans ?_
    unfold State.retrySweep
    split
    · exact .refl _
    · split
      · exact .refl _
      · exact State.sweepVisit_keeps ..

theorem State.request_keeps (r : Request) (s : State) : s.evu.Keeps (s.request r).evu := by
  unfold State.request
  split
  · exact (s.lodge_keeps r).trans (State.serveLanes_keeps _)
  · exact .refl _

/-! ## Marks and the sweep's queue -/

theorem State.markChanged_keeps (l : Lane) (k : Fin 4) (number target : Nat) (s : State) :
    s.evu.Keeps (s.markChanged l k number target).evu :=
  .mapEvals (f := fun e => if e.isOf l k number target then { e with changed := true } else e) rfl rfl rfl
    (fun ev => by split <;> rfl) (fun ev h => by split <;> exact h)

/-- A removed mark is set on evaluations of vehicles alone (R104). -/
theorem State.markRemoved_keeps (k : Fin 4) (number target : Nat) (s : State) : s.evu.Keeps (s.markRemoved k number target).evu := by
  refine .mapEvals (f := fun e => if e.isOf .vehicle k number target then { e with removed := true } else e) rfl rfl rfl
    (fun ev => by split <;> rfl) (fun ev h => ?_)
  split
  · next hof =>
    have hlane : ev.req.lane = .vehicle := by
      simp only [Evaluation.isOf, Bool.and_eq_true, beq_iff_eq] at hof
      exact hof.1.1.1
    unfold Evaluation.Fits at h ⊢
    rw [hlane] at h ⊢
    split at h <;> simp_all
  · exact h

theorem Evu.Keeps.leaveSweep (k : Fin 4) (v : Evu) : v.Keeps (v.leaveSweep k) := by
  unfold Evu.leaveSweep
  split <;> exact .of_eq rfl rfl rfl

theorem Evu.Keeps.joinSweep (k : Fin 4) (v : Evu) : v.Keeps (v.joinSweep k) := by
  unfold Evu.joinSweep
  split <;> exact .of_eq rfl rfl rfl

end Sys2Proof.Machine
end

section
/-! SUPPORT. What the conditions on the queues read of a state, and the operations on the open train, its records and the site that
keep them: the ports, the engine, the alert levels and the spacing history (R49, R98, R165, R172, R173). -/

namespace Sys2Proof.Machine

/-- What holds of the ports, the engine, the alert levels and the spacing history of `s`, of the conditions on the queues, holds of
those of `t`. -/
structure State.KeepsQueues (s t : State) : Prop where
  port    : ∀ p, (s.mpc.ports.get p).Bounded → (t.mpc.ports.get p).Bounded
  engine  : s.evu.Keeps t.evu
  alerts  : ∀ l, (s.atq.queues.get l).length ≤ Config.alertDepth → (t.atq.queues.get l).length ≤ Config.alertDepth
  history : s.vsg.history.length ≤ Config.historyDepth → t.vsg.history.length ≤ Config.historyDepth

theorem State.KeepsQueues.bounded {s t : State} (h : s.KeepsQueues t) (hs : s.Bounded) : t.Bounded :=
  ⟨h.port .s hs.portS, h.port .m hs.portM, fun l => h.engine.lanes l (hs.lanes l), h.engine.lrg hs.lrg,
    fun l => h.alerts l (hs.alerts l), h.history hs.history⟩

theorem State.KeepsQueues.refl (s : State) : s.KeepsQueues s := ⟨fun _ => id, .refl _, fun _ => id, id⟩

theorem State.KeepsQueues.trans {s t u : State} (h : s.KeepsQueues t) (h' : t.KeepsQueues u) : s.KeepsQueues u :=
  ⟨fun p hp => h'.port p (h.port p hp), h.engine.trans h'.engine, fun l hl => h'.alerts l (h.alerts l hl),
    fun hl => h'.history (h.history hl)⟩

/-- An operation on the engine alone, of the blocks that hold a queue. -/
theorem State.KeepsQueues.of_engine {s t : State} (he : s.evu.Keeps t.evu) (hp : t.mpc = s.mpc) (ha : t.atq = s.atq)
    (hv : t.vsg = s.vsg) : s.KeepsQueues t :=
  ⟨fun p h => by rwa [hp], he, fun l h => by rwa [ha], fun h => by rwa [hv]⟩

/-- An operation that leaves every block that holds a queue. -/
theorem State.KeepsQueues.of_blocks {s t : State} (hp : t.mpc.ports = s.mpc.ports) (he : t.evu = s.evu) (ha : t.atq = s.atq)
    (hv : t.vsg = s.vsg) : s.KeepsQueues t :=
  ⟨fun p h => by rwa [hp], he ▸ .refl _, fun l h => by rwa [ha], fun h => by rwa [hv]⟩

/-! ## Single updates -/

theorem State.KeepsQueues.advance (d : Nat) (s : State) : s.KeepsQueues (s.advance d) := .of_blocks rfl rfl rfl rfl

theorem State.KeepsQueues.modSsq (f : Ssq → Ssq) (s : State) : s.KeepsQueues (s.modSsq f) := .of_blocks rfl rfl rfl rfl

theorem State.KeepsQueues.modAxt (f : Axt → Axt) (s : State) : s.KeepsQueues (s.modAxt f) := .of_blocks rfl rfl rfl rfl

theorem State.KeepsQueues.modTrain (f : OpenTrain → OpenTrain) (s : State) : s.KeepsQueues (s.modTrain f) :=
  .of_blocks rfl rfl rfl rfl

theorem State.KeepsQueues.modTsu (f : Tsu → Tsu) (s : State) : s.KeepsQueues (s.modTsu f) := .of_blocks rfl rfl rfl rfl

theorem State.KeepsQueues.modScanner (x : Side) (f : Scanner → Scanner) (s : State) : s.KeepsQueues (s.modScanner x f) :=
  .of_blocks rfl rfl rfl rfl

theorem State.KeepsQueues.modNode (g : Fin 4) (f : GaugeNode → GaugeNode) (s : State) : s.KeepsQueues (s.modNode g f) :=
  .of_blocks rfl rfl rfl rfl

theorem State.KeepsQueues.modChannel (k : Fin 16) (f : Channel → Channel) (s : State) : s.KeepsQueues (s.modChannel k f) :=
  .of_blocks rfl rfl rfl rfl

theorem State.KeepsQueues.modUnit (k : Fin 16) (f : CaptureUnit → CaptureUnit) (s : State) : s.KeepsQueues (s.modUnit k f) :=
  .of_blocks rfl rfl rfl rfl

theorem State.KeepsQueues.modRps (f : Rps → Rps) (s : State) : s.KeepsQueues (s.modRps f) := .of_blocks rfl rfl rfl rfl

theorem State.KeepsQueues.modEvu {s : State} {f : Evu → Evu} (hf : s.evu.Keeps (f s.evu)) : s.KeepsQueues (s.modEvu f) :=
  .of_engine hf rfl rfl rfl

theorem State.KeepsQueues.modVsg {s : State} {f : Vsg → Vsg}
    (hf : s.vsg.history.length ≤ Config.historyDepth → (f s.vsg).history.length ≤ Config.historyDepth) : s.KeepsQueues (s.modVsg f) :=
  ⟨fun _ => id, .refl _, fun _ => id, hf⟩

theorem State.KeepsQueues.modPort {s : State} {p : Port} {f : PortMachine → PortMachine}
    (hf : (s.mpc.ports.get p).Bounded → (f (s.mpc.ports.get p)).Bounded) : s.KeepsQueues (s.modPort p f) := by
  refine ⟨fun q hq => ?_, .refl _, fun _ => id, id⟩
  change ((s.mpc.ports.upd p f).get q).Bounded
  rw [PerPort.get_upd]
  split
  · next h => subst h; exact hf hq
  · exact hq

theorem State.KeepsQueues.write (k : Fin 4) (number : Nat) (f : Report → Report) (s : State) : s.KeepsQueues (s.write k number f) :=
  .of_blocks (by simp) (by simp) (by simp) (by simp)

theorem State.KeepsQueues.writeTrain (f : Report → Report) (s : State) : s.KeepsQueues (s.writeTrain f) :=
  .of_blocks (by simp) (by simp) (by simp) (by simp)

theorem State.KeepsQueues.markChanged (l : Lane) (k : Fin 4) (number target : Nat) (s : State) :
    s.KeepsQueues (s.markChanged l k number target) := .of_engine (s.markChanged_keeps ..) rfl rfl rfl

theorem State.KeepsQueues.markRemoved (k : Fin 4) (number target : Nat) (s : State) :
    s.KeepsQueues (s.markRemoved k number target) := .of_engine (s.markRemoved_keeps ..) rfl rfl rfl

theorem State.KeepsQueues.request (r : Request) (s : State) : s.KeepsQueues (s.request r) :=
  .of_engine (s.request_keeps r) (by simp) (by simp) (by simp)

theorem State.KeepsQueues.file (r : Request) (s : State) : s.KeepsQueues (s.file r) :=
  .of_engine (s.file_keeps r) (by simp) (by simp) (by simp)

theorem State.KeepsQueues.serveLanes (s : State) : s.KeepsQueues s.serveLanes :=
  .of_engine s.serveLanes_keeps (by simp) (by simp) (by simp)

theorem State.KeepsQueues.sweepVisit (k : Fin 4) (r : Report) (pos : SweepPos) (s : State) : s.KeepsQueues (s.sweepVisit k r pos) :=
  .of_engine (s.sweepVisit_keeps k r pos) (by simp) (by simp) (by simp)

/-! ## Notices and alerts -/

theorem State.KeepsQueues.noticeTo (p : Port) (kind : Byte) (payload : List Byte) (s : State) :
    s.KeepsQueues (s.noticeTo p kind payload) := .modPort fun h => h.notice ..

theorem State.KeepsQueues.noticeBoth (kind : Byte) (payload : List Byte) (s : State) : s.KeepsQueues (s.noticeBoth kind payload) :=
  (noticeTo .s kind payload s).trans (noticeTo .m kind payload _)

theorem State.KeepsQueues.noticeComplete (k : Fin 4) (s : State) : s.KeepsQueues (s.noticeComplete k) := by
  unfold State.noticeComplete
  split
  · exact noticeBoth ..
  · exact refl s

theorem enqueueAlert_length (e : AlertEntry) {q : List AlertEntry} (lost : Nat) (h : q.length ≤ Config.alertDepth) :
    (enqueueAlert e q lost).1.length ≤ Config.alertDepth := by
  unfold enqueueAlert
  split
  · next hroom => simpa using hroom
  · have hdepth : Config.alertDepth = 32 := rfl
    simp only [List.length_append, List.length_drop, List.length_singleton]
    omega

theorem State.KeepsQueues.pendingNoticeIfMasked (p : Port) (l : AlertLevel) (s : State) :
    s.KeepsQueues (s.pendingNoticeIfMasked p l) := by
  unfold State.pendingNoticeIfMasked
  split
  · exact noticeTo ..
  · exact refl s

theorem State.KeepsQueues.post (d : AlertDraft) (s : State) : s.KeepsQueues (s.post d) := by
  have filed : s.KeepsQueues (s.modAtq (·.post d s.ssq.clock)) := by
    refine ⟨fun _ => id, .refl _, fun l hl => ?_, id⟩
    change ((s.atq.queues.upd d.level _).get l).length ≤ _
    rw [PerLevel.get_upd]
    split
    · next h => subst h; exact enqueueAlert_length _ _ hl
    · exact hl
  unfold State.post
  dsimp only
  split
  · exact (filed.trans (pendingNoticeIfMasked ..)).trans (pendingNoticeIfMasked ..)
  · exact filed

theorem State.KeepsQueues.postAll (ds : List AlertDraft) (s : State) : s.KeepsQueues (s.postAll ds) :=
  List.foldlRecOn (motive := s.KeepsQueues) ds _ (refl s) fun _ h d _ => h.trans (post d _)

/-! ## Gates (R139, R142, R143) -/

theorem State.KeepsQueues.disposeGate (t : OpenTrain) (p : GatePair) (x : Side) (r : GateRecord) (s : State) :
    s.KeepsQueues (s.disposeGate t p x r) := by
  unfold State.disposeGate
  split
  · exact refl s
  · split
    · split
      · exact refl s
      · exact modTsu ..
    · split
      · exact refl s
      · exact ((write ..).trans (markChanged ..)).trans (modTsu ..)

theorem State.KeepsQueues.finishPair (t : OpenTrain) (s : State) : s.KeepsQueues (s.finishPair t) := by
  unfold State.finishPair
  split
  · split
    · dsimp only
      split
      · split
        · exact (modTsu _ s).trans (request ..)
        · exact modTsu ..
      · exact modTsu ..
    · exact refl s
  · exact refl s

theorem State.KeepsQueues.closeGate (x : Side) (gapped truncated : Bool) (s : State) :
    s.KeepsQueues (s.closeGate x gapped truncated) := by
  rcases s.closeGate_cases x gapped truncated with he | ⟨t, p, g, -, -, he⟩ <;> rw [he]
  · exact refl s
  · exact ((modTsu _ s).trans (disposeGate ..)).trans (finishPair ..)

theorem State.KeepsQueues.closeGates (truncated : Bool) (s : State) : s.KeepsQueues (s.closeGates truncated) :=
  (closeGate .a false truncated s).trans (closeGate .b false truncated _)

theorem State.KeepsQueues.gateEdge (t : OpenTrain) (s : State) : s.KeepsQueues (s.gateEdge t) :=
  (closeGates true s).trans (of_blocks rfl rfl rfl rfl)

/-! ## Captures (R80 to R93) -/

theorem State.KeepsQueues.disposeCapture (t : OpenTrain) (k : Fin 16) (kind : CloseKind) (c : Capture) (s : State) :
    s.KeepsQueues (s.disposeCapture t k kind c) := by
  unfold State.disposeCapture
  split
  · exact refl s
  · dsimp only
    split
    · exact modUnit ..
    · split
      · exact modUnit ..
      · split
        · exact modUnit ..
        · unfold State.writeCribRecord
          dsimp only
          split
          · exact ((write ..).trans (markChanged ..)).trans (request ..)
          · exact (write ..).trans (markChanged ..)

theorem State.KeepsQueues.closeCapture (t : OpenTrain) (k : Fin 16) (kind : CloseKind) (c : Capture) (s : State) :
    s.KeepsQueues (s.closeCapture t k kind c) :=
  ((modUnit k _ s).trans (modChannel k _ _)).trans (disposeCapture ..)

theorem State.KeepsQueues.captureSample (k : Fin 16) (y : Nat) (ovr : Bool) (s : State) : s.KeepsQueues (s.captureSample k y ovr) := by
  unfold State.captureSample
  split
  · exact refl s
  · split
    · exact refl s
    · split
      · split
        · exact modUnit ..
        · exact refl s
      · split
        · unfold State.followCapture
          dsimp only
          split
          · exact closeCapture ..
          · split
            · split
              · exact (closeCapture ..).trans (modUnit ..)
              · exact closeCapture ..
            · exact modUnit ..
        · exact modUnit ..

theorem State.KeepsQueues.channelSample (k : Fin 16) (x : Int) (ovr : Bool) (s : State) : s.KeepsQueues (s.channelSample k x ovr) := by
  unfold State.channelSample State.trackBaseline
  split
  · exact (captureSample ..).trans (modChannel ..)
  · exact captureSample ..

theorem State.KeepsQueues.closeIfOpen (k : Fin 16) (kind : Capture → CloseKind) (s : State) : s.KeepsQueues (s.closeIfOpen k kind) := by
  unfold State.closeIfOpen
  split
  · exact closeCapture ..
  · exact refl s

theorem State.KeepsQueues.closeAllCaptures (s : State) : s.KeepsQueues s.closeAllCaptures :=
  List.foldlRecOn (motive := s.KeepsQueues) allChannels _ (refl s) fun _ h _ _ => h.trans (closeIfOpen ..)

theorem State.KeepsQueues.deliver (g : Fin 4) (f : GaugeFrame) (s : State) : s.KeepsQueues (s.deliver g f) :=
  List.foldlRecOn (motive := s.KeepsQueues) (nodeChannels g) _ (refl s) fun _ h _ _ => h.trans (channelSample ..)

theorem State.KeepsQueues.gaugeGap (g : Fin 4) (missing : Nat) (s : State) : s.KeepsQueues (s.gaugeGap g missing) :=
  List.foldlRecOn (motive := s.KeepsQueues) (nodeChannels g) _ (refl s) fun _ h _ _ => h.trans (modUnit ..)

/-! ## Segmenter (R49 to R57) -/

theorem State.KeepsQueues.segClose (t : OpenTrain) (upto : Nat) (s : State) : s.KeepsQueues (s.segClose t upto) := by
  unfold State.segClose
  split
  · exact refl s
  · dsimp only
    split
    · split
      · exact (write ..).trans (markChanged ..)
      · exact ((write ..).trans (markChanged ..)).trans (request ..)
    · exact refl s

theorem State.KeepsQueues.segCount (t : OpenTrain) (n : Nat) (s : State) : s.KeepsQueues (s.segCount t n) := by
  unfold State.segCount
  split
  · exact refl s
  · dsimp only
    split
    · split
      · exact (write ..).trans (markChanged ..)
      · exact write ..
    · exact refl s

/-- A push discards the oldest class of a full history (R49). -/
theorem State.KeepsQueues.pushClass (c : SpacingClass) (s : State) : s.KeepsQueues (s.modVsg (·.push c)) :=
  .modVsg fun _ => List.length_take_le ..

theorem Vsg.markOpen_history (g : Vsg) : g.markOpen.history = g.history := by
  unfold Vsg.markOpen
  split
  · rfl
  · split <;> rfl

theorem Vsg.pop_history (g : Vsg) : g.pop.history = g.history.tail := by
  unfold Vsg.pop
  split
  · next h => rw [h]; rfl
  · next h => rw [Vsg.markOpen_history, h]; rfl

theorem Vsg.reopen_history (g : Vsg) : g.reopen.history = g.history := by
  unfold Vsg.reopen
  split <;> rfl

theorem State.KeepsQueues.segPush (t : OpenTrain) (a : Nat) (spacing : Option (Nat × SpacingClass)) (s : State) :
    s.KeepsQueues (s.segPush t a spacing) := by
  unfold State.segPush
  split
  · exact refl s
  · exact ((segClose t a s).trans (pushClass .mid _)).trans ((modVsg id).trans (write ..))
  · exact pushClass ..

theorem State.KeepsQueues.segForward (t : OpenTrain) (a v time : Nat) (spacing : Option (Nat × SpacingClass)) (s : State) :
    s.KeepsQueues (s.segForward t a v time spacing) :=
  ((segPush ..).trans (segCount ..)).trans (modVsg id)

theorem State.KeepsQueues.segRemove (t : OpenTrain) (s : State) : s.KeepsQueues (s.segRemove t) := by
  have removed (i : Nat) : s.KeepsQueues ((s.modVsg Vsg.reopen).write t.slot t.number (·.removeVehicle i)) :=
    (modVsg fun h => by rwa [Vsg.reopen_history]).trans (write ..)
  have marked (i : Nat) : s.KeepsQueues (if recordedVehicle i then
      ((s.modVsg Vsg.reopen).write t.slot t.number (·.removeVehicle i)).markRemoved t.slot t.number i
      else (s.modVsg Vsg.reopen).write t.slot t.number (·.removeVehicle i)) := by
    split
    · exact (removed i).trans (markRemoved ..)
    · exact removed i
  unfold State.segRemove
  dsimp only
  split
  · exact ((marked _).trans (write ..)).trans (markChanged ..)
  · exact marked _

theorem State.KeepsQueues.segReverse (t : OpenTrain) (n : Nat) (s : State) : s.KeepsQueues (s.segReverse t n) := by
  have popped : s.KeepsQueues (if n = 0 then s else s.modVsg Vsg.pop) := by
    split
    · exact refl s
    · exact modVsg fun h => by rw [Vsg.pop_history]; exact (List.length_tail ▸ Nat.sub_le ..).trans h
  unfold State.segReverse
  refine trans ?_ (segCount ..)
  generalize (if n = 0 then s else s.modVsg Vsg.pop) = u at *
  split
  · exact popped.trans (segRemove t u)
  · exact popped

/-! ## Tracker (R24 to R36) -/

theorem State.KeepsQueues.setMotion (t : OpenTrain) (pr : Pair) (travel : Direction) (v : Nat) (s : State) :
    s.KeepsQueues (s.setMotion t pr travel v) := by
  have reversal (u : State) : u.KeepsQueues u.reversal :=
    (((of_blocks rfl rfl rfl rfl : u.KeepsQueues u.reverseCaptures).trans (closeGates true _)).trans (modVsg id)).trans (writeTrain ..)
  have timed : s.KeepsQueues (s.modTrain (·.cross pr travel s.now (s.haltTime v))).resumeGates := of_blocks rfl rfl rfl rfl
  unfold State.setMotion
  dsimp only
  split
  · split
    · exact timed.trans (writeTrain ..)
    · exact timed
  · split
    · exact (timed.trans (writeTrain ..)).trans (reversal _)
    · exact timed.trans (reversal _)

theorem State.KeepsQueues.newAxle (a v : Nat) (spacing : Option (Nat × SpacingClass)) (s : State) :
    s.KeepsQueues (s.newAxle a v spacing) := by
  unfold State.newAxle
  split <;> exact writeTrain ..

theorem State.KeepsQueues.rePass (a : Nat) (s : State) : s.KeepsQueues (s.rePass a) := by
  unfold State.rePass
  split
  · exact writeTrain ..
  · exact refl s

theorem State.KeepsQueues.forwardEntry (t : OpenTrain) (v : Nat) (s : State) : s.KeepsQueues (s.forwardEntry t v) := by
  unfold State.forwardEntry
  dsimp only
  split
  · exact writeTrain ..
  · split
    · exact (((modTrain _ s).trans (writeTrain ..)).trans (segForward ..)).trans (newAxle ..)
    · exact ((modTrain _ s).trans (segForward ..)).trans (rePass ..)

theorem State.KeepsQueues.countCrossing (t : OpenTrain) (pr : Pair) (inward : Bool) (v : Nat) (s : State) :
    s.KeepsQueues (s.countCrossing t pr inward v) := by
  unfold State.countCrossing
  split
  · split
    · exact forwardEntry ..
    · unfold State.reverseEntry
      split
      · exact (writeTrain ..).trans (post ..)
      · exact ((modTrain _ s).trans (segReverse ..)).trans (of_blocks rfl rfl rfl rfl)
  · split
    · exact modTrain ..
    · unfold State.forwardExit
      split
      · exact modTrain ..
      · exact modAxt ..

theorem State.KeepsQueues.openCrossing (pr : Pair) (inward : Bool) (v : Nat) (s : State) :
    s.KeepsQueues (s.openCrossing pr inward v) := by
  unfold State.openCrossing
  split
  · exact (((modTrain _ s).trans (writeTrain ..)).trans (setMotion ..)).trans (countCrossing ..)
  · exact refl s

/-! ## Completions (R105, R106) -/

theorem State.KeepsQueues.settleDirty (ev : Evaluation) (s : State) : s.KeepsQueues (s.settleDirty ev) := by
  unfold State.settleDirty
  dsimp only
  split
  · exact refl s
  · split
    · exact write ..
    · split
      · split
        · exact file ..
        · exact refl s
      · exact file ..

theorem State.KeepsQueues.followOn (ev : Evaluation) (before : Report) (s : State) : s.KeepsQueues (s.followOn ev before) := by
  unfold State.followOn State.markCovering
  split
  · split
    · dsimp only
      split
      · exact (write ..).trans (markChanged ..)
      · exact ((write ..).trans (markChanged ..)).trans (file ..)
    · exact refl s
  · exact refl s

/-- The end of an evaluation before the completion test (R105, steps 1 to 3 and the release). -/
theorem State.KeepsQueues.evaluated (e : Fin 2) (ev : Evaluation) (s : State) : s.KeepsQueues
    ((match s.liveReport ev.req.slot ev.req.number with
      | some r => s.completeLive ev r
      | none => s.completeGone ev).release e) := by
  have released (u : State) : u.KeepsQueues (u.release e) := modEvu (.release e u.evu)
  refine trans ?_ (released _)
  split
  · unfold State.completeLive
    dsimp only
    refine trans ?_ (followOn ..)
    refine trans ?_ (settleDirty ..)
    refine trans ?_ (postAll ..)
    split
    · exact write ..
    · exact refl s
  · unfold State.completeGone
    split
    · exact write ..
    · exact refl s

end Sys2Proof.Machine
end

section
/-! SUPPORT. The operations that make notices and replies keep the queues: the moves of the site, the nodes and scanners, trains and
reports, the requests that a port serves (R172 to R178). -/

namespace Sys2Proof.Machine

/-! ## The moves of the site -/

theorem State.movedTo_queues (new : SiteState) (s : State) : s.KeepsQueues (s.movedTo new) :=
  .of_blocks (by simp [State.movedTo]) (by simp [State.movedTo]) (by simp [State.movedTo]) (by simp [State.movedTo])

theorem State.KeepsQueues.changeSite (new : SiteState) (cause : Cause) (s : State) : s.KeepsQueues (s.changeSite new cause) := by
  rw [State.changeSite_eq]
  exact (s.movedTo_queues new).trans (noticeBoth ..)

theorem State.KeepsQueues.arm (s : State) : s.KeepsQueues s.arm := (modSsq _ s).trans (changeSite ..)

theorem State.KeepsQueues.levelCarry (s : State) : s.KeepsQueues s.levelCarry := by
  rcases s.levelCarry_cases with ⟨he, -⟩ | ⟨he, -⟩ <;> rw [he]
  · exact arm s
  · exact refl s

theorem State.KeepsQueues.applyPending (s : State) : s.KeepsQueues s.applyPending := of_blocks rfl rfl rfl rfl

theorem State.KeepsQueues.settleIfBegun (b : Bool) (s : State) : s.KeepsQueues (s.settleIfBegun b) := by
  unfold State.settleIfBegun
  split
  · exact applyPending s
  · exact refl s

theorem State.KeepsQueues.enter (new : SiteState) (cause : Cause) (s : State) : s.KeepsQueues (s.enter new cause) :=
  ((changeSite new cause s).trans (settleIfBegun ..)).trans (levelCarry _)

theorem State.KeepsQueues.siteClosure (s : State) : s.KeepsQueues s.siteClosure := by
  unfold State.siteClosure
  split
  · exact (modSsq _ s).trans (enter ..)
  · refine (enter s.restState .trainClosure s).trans ?_
    generalize s.enter s.restState .trainClosure = u
    have carry : u.KeepsQueues (if u.levelMode then u.modSsq fun q => { q with latch := false } else u.arm) := by
      split
      · exact modSsq ..
      · exact arm u
    dsimp only
    split
    · split
      · exact carry
      · exact carry
      · exact refl u
    · exact refl u

theorem State.KeepsQueues.reportEdge (s : State) : s.KeepsQueues s.reportEdge := by
  unfold State.reportEdge
  split
  · exact enter ..
  · exact enter ..
  · split
    · exact modSsq ..
    · exact refl s
  · exact refl s

theorem State.KeepsQueues.falseApproach (cause : Cause) (s : State) : s.KeepsQueues (s.falseApproach cause) :=
  (modSsq _ s).trans (enter ..)

theorem State.KeepsQueues.enableSite (s : State) : s.KeepsQueues s.enableSite := by
  unfold State.enableSite
  split
  · exact enter ..
  · exact modSsq ..
  · exact refl s

theorem State.KeepsQueues.disableSite (s : State) : s.KeepsQueues s.disableSite := by
  unfold State.disableSite
  split
  · exact refl s
  · exact modSsq ..
  · exact enter ..

theorem State.KeepsQueues.dormancyOnSite (s : State) : s.KeepsQueues s.dormancyOnSite := by
  unfold State.dormancyOnSite
  refine (modSsq (fun q => { q with dormancy := true }) s).trans ?_
  dsimp only
  split
  · exact enter ..
  · exact refl _

theorem State.KeepsQueues.dormancyOffSite (s : State) : s.KeepsQueues s.dormancyOffSite := by
  unfold State.dormancyOffSite
  refine (modSsq (fun q => { q with dormancy := false, restTimer := none }) s).trans ?_
  dsimp only
  split
  · exact enter ..
  · exact enter ..
  · exact refl _

/-! ## Trains and reports (R37, R42, R109, R151) -/

theorem State.KeepsQueues.allocate (k : Fin 4) (d0 : Direction) (entry : Pair) (flags : HeaderFlags) (s : State) :
    s.KeepsQueues (s.allocate k d0 entry flags) := by
  have taken (p : Port) (u : State) : u.KeepsQueues (u.modPort p (·.slotTaken k)) := modPort fun h => h.slotTaken k
  unfold State.allocate State.endStreamsOf
  dsimp only
  refine trans ?_ (noticeBoth ..)
  refine trans ?_ (modRps ..)
  refine trans ?_ (postAll ..)
  refine trans ?_ (modRps ..)
  exact ((taken .s s).trans (taken .m _)).trans (modEvu (.leaveSweep k _))

theorem State.KeepsQueues.trainOpened (k : Fin 4) (pr : Pair) (s : State) : s.KeepsQueues (s.trainOpened k pr) := by
  have opened (u : State) : u.KeepsQueues u.segStart := (modVsg fun _ => Nat.zero_le _).trans (writeTrain ..)
  have pointers (u : State) : u.KeepsQueues u.resetCapturePointers := of_blocks rfl rfl rfl rfl
  unfold State.trainOpened
  dsimp only
  refine trans ?_ (opened _)
  refine trans ?_ (modTsu ..)
  refine trans ?_ (pointers _)
  exact (allocate ..).trans (modAxt ..)

theorem State.KeepsQueues.trainStart (pr : Pair) (v : Nat) (s : State) : s.KeepsQueues (s.trainStart pr v) := by
  unfold State.trainStart
  split
  · rename_i k _
    refine trans ?_ (openCrossing ..)
    have entered := (trainOpened k pr s).trans (enter .passage .trainStart _)
    rw [State.startTrainIn_eq]
    split
    · exact entered.trans (writeTrain ..)
    · exact entered
  · exact refl s

theorem State.KeepsQueues.pairEdge (pr : Pair) (outer : Bool) (s : State) : s.KeepsQueues (s.pairEdge pr outer) := by
  obtain ⟨m, c, ⟨-, he⟩ | ⟨-, he⟩⟩ := s.pairEdge_cases pr outer <;> rw [he]
  · refine trans (t := s.modPair pr fun _ => m) (of_blocks rfl rfl rfl rfl) ?_
    unfold State.passageCrossing
    split
    · exact (modTrain ..).trans (openCrossing ..)
    · exact modTrain ..
  · refine trans (t := s.modPair pr fun _ => m) (of_blocks rfl rfl rfl rfl) ?_
    unfold State.idleCrossing
    split
    · exact trainStart ..
    · exact (modAxt ..).trans (reportEdge _)
    · exact reportEdge _

theorem State.KeepsQueues.declareHalt (t : OpenTrain) (s : State) : s.KeepsQueues (s.declareHalt t) := by
  have halted {f : OpenTrain → OpenTrain} : s.KeepsQueues (s.modTrain f).segInterrupt.holdGates :=
    ((modTrain _ s).trans (modVsg id)).trans (modTsu ..)
  unfold State.declareHalt
  dsimp only
  split
  · exact halted.trans (writeTrain ..)
  · exact halted

theorem State.KeepsQueues.closeTrain (t : OpenTrain) (kind : ClosureKind) (s : State) : s.KeepsQueues (s.closeTrain t kind) := by
  have ending : s.KeepsQueues (s.trainEnding t kind) :=
    ((((writeTrain _ s).trans (closeAllCaptures _)).trans (closeGates true _)).trans ((writeTrain ..).trans (postAll ..))).trans
      (segClose ..)
  rw [State.closeTrain_eq]
  exact (((ending.trans (modRps ..)).trans (modEvu (.joinSweep t.slot _))).trans (modAxt ..)).trans (siteClosure _)

theorem State.KeepsQueues.clearTest (t : OpenTrain) (s : State) : s.KeepsQueues (s.clearTest t) := by
  unfold State.clearTest
  split
  · exact closeTrain ..
  · split
    · exact closeTrain ..
    · exact modTrain ..

theorem State.KeepsQueues.completionTest (k : Fin 4) (s : State) : s.KeepsQueues (s.completionTest k) := by
  unfold State.completionTest
  split
  · rw [State.completeSlot_eq]
    have completed : s.KeepsQueues (s.slotCompleted k) :=
      ((modRps _ s).trans (noticeComplete k _)).trans (modEvu (.leaveSweep k _))
    exact completed.trans ((settleIfBegun ..).trans (levelCarry _))
  · exact refl s

theorem State.KeepsQueues.endPass (k : Fin 4) (s : State) : s.KeepsQueues (s.endPass k) := by
  unfold State.endPass
  split
  · exact modEvu (.of_eq rfl rfl rfl)
  · exact (modEvu (f := fun v => { v with sweepResting := true }) (.of_eq rfl rfl rfl)).trans (completionTest k _)

theorem State.KeepsQueues.sweepStep {s u : State} (he : execSweepStep s = .next u) : s.KeepsQueues u := by
  obtain rfl := Host.Outcome.next.inj he
  split
  · exact refl s
  rename_i k _
  split
  · exact refl s
  split
  · exact refl s
  rename_i r _
  dsimp only
  split
  · exact (modEvu (.of_eq rfl rfl rfl)).trans (endPass k _)
  · have visited := sweepVisit k r.report (s.evu.sweepPos.norm r.report) s
    unfold State.sweepAt
    dsimp only
    split
    · exact visited.trans (endPass k _)
    · exact visited

/-- RESTART empties the lanes, the evaluations and the history, and makes the notices of the reports it completes (R19, R161). -/
theorem State.KeepsQueues.restartSite (s : State) : s.KeepsQueues s.restartSite := by
  have quiet : s.KeepsQueues s.quietSite := of_blocks (by simp) (by simp) (by simp) (by simp)
  have aborted (u : State) : u.KeepsQueues u.abortSlots :=
    List.foldlRecOn (motive := u.KeepsQueues) _ _ (refl u) fun _ h k _ => (h.trans (modRps ..)).trans (noticeComplete k _)
  have cleared (u : State) : u.KeepsQueues u.clearMeasuring := by
    refine ⟨fun _ => id, ⟨fun l _ => ?_, fun _ => .refl _, fun _ e f he => ?_, fun _ e ev he => ?_⟩, fun _ => id,
      fun _ => Nat.zero_le _⟩
    · cases l <;> exact Nat.zero_le _
    · exact absurd he (reset_not_in_flight 0 e)
    · exact absurd he (reset_not_in_flight e ev)
  exact ((((quiet.trans (aborted _)).trans (cleared _)).trans (changeSite ..)).trans (applyPending _)).trans (levelCarry _)

/-! ## Nodes and scanners -/

theorem State.KeepsQueues.gaugeFrame {g : Fin 4} {t : Nat} {a : GaugeArrival} {s u : State}
    (he : execGaugeFrame g t a s = .next u) : s.KeepsQueues u := by
  obtain rfl := Host.Outcome.next.inj he
  refine (advance t s).trans ?_
  generalize s.advance t = v
  split
  · exact refl v
  · exact modNode ..
  · unfold State.settlingFrame
    split <;> exact of_blocks rfl rfl rfl rfl
  · unfold State.presentFrame
    split
    · exact modNode ..
    · exact (modNode ..).trans (deliver ..)
    · exact ((modNode ..).trans (modNode ..)).trans ((gaugeGap ..).trans (deliver ..))
  · unfold State.resyncFrame
    dsimp only
    split
    · exact of_blocks rfl rfl rfl rfl
    · exact ((modNode ..).trans (modNode ..)).trans (deliver ..)

theorem State.KeepsQueues.loseGauge (g : Fin 4) (s : State) : s.KeepsQueues (s.loseGauge g) := by
  have lost (u : State) : u.KeepsQueues ((nodeChannels g).foldl (fun u j => u.captureNodeLost j.2) u) :=
    List.foldlRecOn (motive := u.KeepsQueues) (nodeChannels g) _ (refl u) fun _ h _ _ => h.trans (closeIfOpen ..)
  exact (((modNode g _ s).trans (lost _)).trans (modNode ..)).trans (post ..)

theorem State.KeepsQueues.failCalibration (x : Side) (s : State) : s.KeepsQueues (s.failCalibration x) :=
  (modScanner x _ s).trans (post ..)

theorem State.KeepsQueues.acceptScannerFrame (x : Side) (f : ScannerFrame) (s : State) : s.KeepsQueues (s.acceptScannerFrame x f) := by
  have calibrated (u : State) : u.KeepsQueues (u.calibrationFrame x f) := by
    unfold State.calibrationFrame
    split
    · exact refl u
    · exact refl u
    · exact modScanner ..
    · exact modScanner ..
    · exact failCalibration x u
  have gated (t : Option Int) (u : State) : u.KeepsQueues (u.gateFrame x f t) := by
    unfold State.gateFrame
    split
    · exact modTsu ..
    · exact refl u
  have filtered (t : Option Int) (u : State) : u.KeepsQueues (u.ambientFrame x f t) := by
    unfold State.ambientFrame
    split
    · split
      · exact modScanner ..
      · exact refl u
    · exact refl u
  exact (((modScanner x _ s).trans (calibrated _)).trans (gated _ _)).trans (filtered _ _)

theorem State.KeepsQueues.scannerFrame {x : Side} {t : Nat} {a : ScannerArrival} {s u : State}
    (he : execScannerFrame x t a s = .next u) : s.KeepsQueues u := by
  obtain rfl := Host.Outcome.next.inj he
  refine (advance t s).trans ?_
  generalize s.advance t = v
  split
  · exact refl v
  · split
    · unfold State.presentScannerFrame
      split
      · exact acceptScannerFrame ..
      · exact modScanner ..
      · exact ((modScanner ..).trans (modTsu ..)).trans (acceptScannerFrame ..)
    · exact modScanner ..
  · split
    · exact (modScanner ..).trans (acceptScannerFrame ..)
    · exact modScanner ..

theorem State.KeepsQueues.loseScanner (x : Side) (s : State) : s.KeepsQueues (s.loseScanner x) := by
  refine trans ?_ (post ..)
  refine trans ?_ (modScanner ..)
  have closed := (modScanner x (fun y => { y with status := .lost, lossTimer := none }) s).trans (closeGate x true false _)
  split
  · exact closed.trans (failCalibration ..)
  · exact closed

/-! ## Service (R172) -/

/-- A row that serves a request leaves a state that keeps the queues of the one in which the port holds it unserved. -/
theorem State.KeepsQueues.serve {s : State} {p : Port} {serves : QueuedRequest → Bool} {effect : QueuedRequest → State → State}
    (he : ∀ r, (s.mpc.ports.get p).head = some r → s.KeepsQueues (effect r s)) : s.KeepsQueues (s.serve p serves effect) := by
  unfold State.serve
  split
  · next r hr =>
    split
    · exact he r hr
    · exact refl s
  · exact refl s

theorem State.KeepsQueues.reply {s : State} {p : Port} {r : QueuedRequest} (hr : (s.mpc.ports.get p).head = some r)
    {fs : List OutFrame} (hf : ∀ f ∈ fs, f.cls ≠ .notice) : s.KeepsQueues (s.modPort p (·.reply fs)) :=
  modPort fun h => h.reply (h.unbroken hr) hf

theorem State.KeepsQueues.answer {s : State} {p : Port} {q : QueuedRequest} (hr : (s.mpc.ports.get p).head = some q)
    (r : QueuedRequest) (a : Reply) : s.KeepsQueues (s.answer p r a) :=
  reply hr (replyFrames_not_notice _ _ _ _)

theorem State.KeepsQueues.serveRead (p : Port) (kind : Nat) (f : State → List Byte → Reply) (s : State) :
    s.KeepsQueues (s.serveRead p kind f) := serve fun _ hr => answer hr ..

theorem State.KeepsQueues.serveAction {s : State} {p : Port} {q : QueuedRequest} (hr : (s.mpc.ports.get p).head = some q)
    {outcome : State → ReplyOutcome} {effect : State → State} (he : ∀ u : State, u.KeepsQueues (effect u)) (r : QueuedRequest) :
    s.KeepsQueues (s.serveAction p outcome effect r) :=
  (answer hr ..).trans (he _)

theorem State.KeepsQueues.serveControl {s : State} {p : Port} {action : Nat} {act : QueuedRequest → State → State}
    (ha : ∀ r, (s.mpc.ports.get p).head = some r → s.KeepsQueues (act r s)) : s.KeepsQueues (s.serveControl p action act) := by
  refine serve fun r hr => ?_
  split
  · exact answer hr ..
  · exact ha r hr

theorem State.KeepsQueues.interruptStream (p : Port) (s : State) : s.KeepsQueues (s.interruptStream p) := modPort fun h => h.endStream 1

/-- The interruption of a stream leaves the requests that wait (R175). -/
theorem State.interruptStream_head (p : Port) (s : State) :
    ((s.interruptStream p).mpc.ports.get p).head = (s.mpc.ports.get p).head := by
  unfold State.interruptStream
  rw [State.modPort_port, PortMachine.endStream_head]

theorem State.modPort_modPort (p : Port) (f g : PortMachine → PortMachine) (s : State) :
    (s.modPort p f).modPort p g = s.modPort p fun pm => g (f pm) := by
  cases p <;> rfl

theorem State.KeepsQueues.startStream {s : State} {p : Port} {q : QueuedRequest} (hr : (s.mpc.ports.get p).head = some q) (k : Fin 4)
    (r : QueuedRequest) : s.KeepsQueues (s.startStream p k r) := by
  unfold State.startStream
  split
  · exact answer hr ..
  · split
    · unfold State.answer
      rw [State.modPort_modPort]
      refine modPort fun h => ?_
      have hb := h.unbroken hr
      exact { h.reply hb (replyFrames_not_notice _ _ _ _) with
        cut := PortMachine.cut_of_unbroken ((PortMachine.reply_broken ..).trans hb) }
    · exact answer hr ..

theorem State.KeepsQueues.serveStream {s : State} {p : Port} {q : QueuedRequest} (hr : (s.mpc.ports.get p).head = some q)
    (r : QueuedRequest) : s.KeepsQueues (s.serveStream p r) := by
  unfold State.serveStream
  split
  · split
    · exact answer hr ..
    · exact (interruptStream p s).trans (startStream ((s.interruptStream_head p).trans hr) ..)
  · exact answer hr ..

theorem State.KeepsQueues.serveRelease {s : State} {p : Port} {q : QueuedRequest} (hr : (s.mpc.ports.get p).head = some q)
    (r : QueuedRequest) : s.KeepsQueues (s.serveRelease p r) := by
  unfold State.serveRelease
  split
  · split
    · exact answer hr ..
    · split
      · split
        · exact (answer hr ..).trans (modRps ..)
        · exact answer hr ..
      · exact answer hr ..
  · exact answer hr ..

/-- A take shortens the queue it takes from (R166). -/
theorem State.KeepsQueues.takeAlert (l : AlertLevel) (s : State) : s.KeepsQueues (s.modAtq (·.take l)) := by
  refine ⟨fun _ => id, .refl _, fun j hj => ?_, id⟩
  change ((s.atq.queues.upd l fun q => q.drop 1).get j).length ≤ _
  rw [PerLevel.get_upd]
  split
  · exact (List.length_drop ▸ Nat.sub_le ..).trans hj
  · exact hj

theorem State.KeepsQueues.serveTake {s : State} {p : Port} {q : QueuedRequest} (hr : (s.mpc.ports.get p).head = some q)
    (r : QueuedRequest) : s.KeepsQueues (s.serveTake p r) := by
  unfold State.serveTake
  split
  · split
    · exact answer hr ..
    · split
      · exact answer hr ..
      · exact (answer hr ..).trans (takeAlert ..)
  · exact answer hr ..

theorem State.KeepsQueues.applyCal (k : Fin 16) (c : CalRecord) (o : ReplyOutcome) (s : State) : s.KeepsQueues (s.applyCal k c o) := by
  unfold State.applyCal
  split
  · exact modChannel ..
  · exact modChannel ..
  · exact refl s

theorem State.KeepsQueues.serveCalSet {s : State} {p : Port} {q : QueuedRequest} (hr : (s.mpc.ports.get p).head = some q)
    (r : QueuedRequest) : s.KeepsQueues (s.serveCalSet p r) := by
  unfold State.serveCalSet
  split
  · exact answer hr ..
  · exact (answer hr ..).trans (applyCal ..)

theorem State.KeepsQueues.applyConfig (it : Item) (v : Nat) (o : ReplyOutcome) (s : State) : s.KeepsQueues (s.applyConfig it v o) := by
  have added (p : Port) (old : Nat) (u : State) : u.KeepsQueues (u.maskNotices p old) := by
    refine List.foldlRecOn (motive := u.KeepsQueues) _ (State.addedLevel p old) (refl u) fun w h l _ => h.trans ?_
    unfold State.addedLevel
    split
    · exact noticeTo ..
    · exact refl w
  unfold State.applyConfig
  split
  · refine trans (t := s.setActive it v) (of_blocks rfl rfl rfl rfl) ?_
    unfold State.afterActive
    split
    · exact added ..
    · split
      · exact levelCarry _
      · exact refl _
  · exact of_blocks rfl rfl rfl rfl
  · exact refl s

theorem State.KeepsQueues.serveConfigSet {s : State} {p : Port} {q : QueuedRequest} (hr : (s.mpc.ports.get p).head = some q)
    (r : QueuedRequest) : s.KeepsQueues (s.serveConfigSet p r) := by
  unfold State.serveConfigSet
  split
  · exact answer hr ..
  · dsimp only
    split
    · exact answer hr ..
    · exact (answer hr ..).trans (applyConfig ..)

end Sys2Proof.Machine
end

section
/-! SUPPORT. Every step keeps the queues: the commands of each kind, and the theorem for EveryStepKeepsTheQueues. -/

namespace Sys2Proof.Machine

/-- The commands that move no site keep the queues. -/
theorem exec_keepsQueues_of_movesNoSite {c : Instr} (hc : movesNoSite c = true) {s u : State} (h : exec c s = .next u) :
    s.KeepsQueues u := by
  have at_ {d : Nat} {v : State} (hv : (s.advance d).KeepsQueues v) : s.KeepsQueues v := (State.KeepsQueues.advance d s).trans hv
  cases c <;> simp only [movesNoSite, reduceCtorEq] at hc
  case gaugeFrame g t a => exact .gaugeFrame h
  case scannerFrame x t a => exact .scannerFrame h
  all_goals obtain rfl := Host.Outcome.next.inj h
  case portFramingReady p =>
    split
    · exact .refl s
    · exact (State.KeepsQueues.modPort (f := fun pm => { pm with ready := true }) fun hp => { hp with }).trans (.noticeTo ..)
  case frameReceived p t bytes => exact at_ (.modPort fun hp => hp.receive bytes)
  case badKind p => exact .serve fun _ hr => .reply hr (replyFrames_not_notice _ _ _ _)
  case calibrationSet p => exact .serve fun r hr => .serveCalSet hr r
  case trainStream p => exact .serve fun r hr => .serveStream hr r
  case trainRelease p => exact .serve fun r hr => .serveRelease hr r
  case alertTake p => exact .serve fun r hr => .serveTake hr r
  case outputFrameSent p =>
    split
    · next hl => exact .modPort fun hp => hp.frameSent hl
    · exact .refl s
  case streamPage p =>
    split
    · split
      · exact .refl s
      · next hfree =>
        split
        · rw [Bool.or_eq_true, not_or, Bool.not_eq_true] at hfree
          exact .modPort fun hp => hp.makePage (Bool.eq_false_iff.mpr hfree.2) ..
        · exact .refl s
    · exact .refl s
  case lineBreak p =>
    split
    · exact .refl s
    · exact .modPort fun hp => hp.break
  case lineBreakEnd p => exact .modPort fun hp => hp.breakEnd
  case pairTimerExpiry pr => split <;> exact .of_blocks rfl rfl rfl rfl
  case haltTimerExpiry =>
    split
    · split
      · split
        · exact at_ (.declareHalt ..)
        · exact .refl s
      · exact .refl s
    · exact .refl s
  case gaugeLossTimerExpiry g =>
    split
    · split
      · exact at_ (.loseGauge g _)
      · exact .refl s
    · exact .refl s
  case quietTimerExpiry k => split <;> exact .of_blocks rfl rfl rfl rfl
  case scannerLossTimerExpiry x =>
    split
    · split
      · exact at_ (.loseScanner x _)
      · exact .refl s
    · exact .refl s
  case shutterTimerExpiry x =>
    split
    · split
      · exact at_ (.failCalibration x _)
      · exact .refl s
    · exact .refl s
  case gateTimeExpiry =>
    split
    · split
      · exact at_ (.closeGates false _)
      · exact .refl s
    · exact .refl s
  all_goals exact .serveRead ..

/-- After POWER_ON every queue is empty (R2). -/
theorem State.KeepsQueues.powerOn {s u : State} (h : execPowerOn s = .next u) : s.KeepsQueues u := by
  obtain rfl := Host.Outcome.next.inj h
  refine ⟨fun p _ => ?_, ⟨fun l _ => reset_bounded.lanes l, fun _ => reset_bounded.lrg, fun _ e f he => ?_, fun _ e ev he => ?_⟩,
    fun l _ => reset_bounded.alerts l, fun _ => reset_bounded.history⟩
  · cases p <;> exact PortMachine.reset_bounded
  · exact absurd he (reset_not_in_flight 0 e)
  · exact absurd he (reset_not_in_flight e ev)

/-- Every command keeps the queues. -/
theorem exec_keepsQueues {c : Instr} {s u : State} (h : exec c s = .next u) : s.KeepsQueues u := by
  have at_ {d : Nat} {v : State} (hv : (s.advance d).KeepsQueues v) : s.KeepsQueues v := (State.KeepsQueues.advance d s).trans hv
  cases hc : movesNoSite c
  case true => exact exec_keepsQueues_of_movesNoSite hc h
  cases c <;> simp only [movesNoSite, reduceCtorEq] at hc
  case powerOn => exact .powerOn h
  case sweepStep => exact .sweepStep h
  all_goals obtain rfl := Host.Outcome.next.inj h
  case clockSet p =>
    refine .serve fun r hr => ?_
    split
    · exact (State.KeepsQueues.answer hr ..).trans (.modSsq ..)
    · exact .answer hr ..
  case enable p => exact .serveControl fun r hr => .serveAction hr .enableSite r
  case disable p => exact .serveControl fun r hr => .serveAction hr .disableSite r
  case dormancyOn p => exact .serveControl fun r hr => .serveAction hr .dormancyOnSite r
  case dormancyOff p => exact .serveControl fun r hr => .serveAction hr .dormancyOffSite r
  case restart p =>
    refine .serveControl fun r hr => (State.KeepsQueues.interruptStream p s).trans ?_
    exact .serveAction ((s.interruptStream_head p).trans hr) .restartSite r
  case configSet p => exact .serve fun r hr => .serveConfigSet hr r
  case approachRisingEdge t =>
    refine State.KeepsQueues.trans (t := (s.advance t).modSsq fun q => { q with approachInput := true }) (.of_blocks rfl rfl rfl rfl) ?_
    split
    · exact .refl _
    · exact .arm _
    · exact .arm _
    · exact .arm _
    · split
      · exact .refl _
      · exact .modSsq ..
    · exact .modSsq ..
  case approachFallingEdge t =>
    refine State.KeepsQueues.trans (t := (s.advance t).modSsq fun q => { q with approachInput := false }) (.of_blocks rfl rfl rfl rfl) ?_
    split
    · exact .falseApproach ..
    · exact .refl _
  case armingTimerExpiry =>
    split
    · split
      · exact at_ (.falseApproach ..)
      · exact .refl s
    · exact .refl s
  case sweepTimerExpiry =>
    split
    · split
      · exact at_ (.enter ..)
      · exact .refl s
    · exact .refl s
  case sweepDurationExpiry =>
    split
    · split
      · exact at_ (.enter ..)
      · exact .refl s
    · exact .refl s
  case restTimerExpiry =>
    split
    · split
      · exact at_ (.enter ..)
      · exact .refl s
    · exact .refl s
  case siteClockTick => exact .of_blocks rfl rfl rfl rfl
  case wheelSensorEdge w t =>
    refine (State.KeepsQueues.advance t s).trans ?_
    split
    · exact .refl _
    · exact .pairEdge ..
  case gateSensorEdge t =>
    refine (State.KeepsQueues.advance t s).trans ?_
    split
    · exact ((State.KeepsQueues.modTrain ..).trans (.modTrain ..)).trans (.gateEdge ..)
    · split
      · exact .refl _
      · exact .reportEdge _
  case clearTimerExpiry =>
    split
    · split
      · exact at_ (.clearTest ..)
      · exact .refl s
    · exact .refl s
  case standTimerExpiry =>
    split
    · split
      · exact at_ (.closeTrain ..)
      · exact .refl s
    · exact .refl s
  case evaluationCompletion e =>
    split
    · exact .refl s
    · next ev _ => exact ((State.KeepsQueues.evaluated e ev s).trans (.completionTest ..)).trans (.serveLanes _)

/-- Every step keeps the queues: it idles, or runs the command at the front of its queue. -/
theorem step_keepsQueues {s t : State} (h : step s = .next t) : s.KeepsQueues t :=
  step_of (motive := s.KeepsQueues) (fun _ hv => hv.trans (.of_blocks rfl rfl rfl rfl))
    (fun _ _ hv => hv.trans (.of_blocks rfl rfl rfl rfl)) (fun _ _ _ hv he => hv.trans (exec_keepsQueues he)) (.refl s) h

/-- Settles O59: every operation on a port, an alert level, the history, a lane or the evaluations in flight keeps the condition on
it; a grant covers no axle of the other evaluation (`State.grant_keeps`), and a removed mark is a vehicle's
(`State.markRemoved_keeps`). -/
theorem everyStepKeepsTheQueues : Obligations.EveryStepKeepsTheQueues :=
  ⟨fun _ _ hs h => (step_keepsQueues h).bounded hs,
    fun s t hs h => t.coveragesDisjoint_iff.mpr ((step_keepsQueues h).engine.apart (s.coveragesDisjoint_iff.mp hs)),
    fun s t hs h => t.evalsOk_iff.mpr ((step_keepsQueues h).engine.fit (s.evalsOk_iff.mp hs))⟩

end Sys2Proof.Machine
end

section
/-! SUPPORT. SpacingsAndForms: the class of a spacing, and the form of a closing vehicle by the classes after the newest MID (R47, R48,
R52). -/

namespace Sys2Proof.Machine

/-! ## Spacing (R47, R48) -/

theorem speedMismatch_iff (tolerance vRef v : Nat) :
    speedMismatch tolerance vRef v = true ↔ tolerance * max vRef v < 100 * (max vRef v - min vRef v) := by
  rw [speedMismatch, decide_eq_true_eq, Nat.mul_comm 100]

/-- A spacing measured over an interruption, or between speeds too far apart, is UNKNOWN (R48). -/
theorem State.classify_unknown {s : State} {vRef v : Nat} (spacing : Nat)
    (h : s.vsg.interrupted = true ∨ s.cfg .speedTol * max vRef v < 100 * (max vRef v - min vRef v)) :
    s.classify vRef v spacing = .unknown :=
  if_pos (by rwa [Bool.or_eq_true, speedMismatch_iff])

/-- Any other spacing is classed by its length (R48). -/
theorem State.classify_measured {s : State} {vRef v : Nat} (spacing : Nat) (hi : s.vsg.interrupted = false)
    (hs : 100 * (max vRef v - min vRef v) ≤ s.cfg .speedTol * max vRef v) : s.classify vRef v spacing =
      if spacing ≤ s.cfg .shortMax then .short else if spacing ≤ s.cfg .midMax then .mid else .long := by
  refine if_neg ?_
  rw [hi, Bool.false_or, speedMismatch_iff]
  exact Nat.not_lt.mpr hs

/-! ## Forms (R52) -/

section Forms

variable {since older : List SpacingClass}

/-- The classes above the newest MID are those that were pushed since (R52). -/
theorem sinceMid_append (hs : ∀ c ∈ since, c ≠ .mid) (ho : older = [] ∨ older.head? = some .mid) :
    sinceMid (since.reverse ++ older) = since := by
  have hnone : older.takeWhile (· ≠ .mid) = [] := by
    rcases ho with rfl | ho
    · rfl
    · obtain ⟨rest, rfl⟩ := List.head?_eq_some_iff.mp ho
      exact List.takeWhile_cons_of_neg (by decide)
  unfold sinceMid
  rw [List.takeWhile_append_of_pos (by simpa using hs), hnone, List.append_nil, List.reverse_reverse]

/-- The history holds a MID exactly where it goes back to one. -/
theorem contains_mid_append (hs : ∀ c ∈ since, c ≠ .mid) (ho : older = [] ∨ older.head? = some .mid) :
    (since.reverse ++ older).contains .mid = !decide (older = []) := by
  have hsince : SpacingClass.mid ∉ since := fun h => hs _ h rfl
  rcases ho with rfl | ho
  · simpa using hsince
  · obtain ⟨rest, rfl⟩ := List.head?_eq_some_iff.mp ho
    simp

/-- A marked vehicle, a full history without MID and an UNKNOWN since leave no form; else the classes since give it (R52). -/
theorem vehicleForm_append (marked : Bool) (hs : ∀ c ∈ since, c ≠ .mid) (ho : older = [] ∨ older.head? = some .mid) :
    vehicleForm marked (since.reverse ++ older) =
      if marked = true ∨ (older = [] ∧ since.length = 6) ∨ .unknown ∈ since then .unclassified
      else if since = [.long] then .two
      else if since = [.short, .long, .short] then .four
      else if since = [.short, .short, .long, .short, .short] then .six
      else .unclassified := by
  have hfull : (!(since.reverse ++ older).contains .mid
      && decide ((since.reverse ++ older).length = Config.historyDepth)) = true ↔ older = [] ∧ since.length = 6 := by
    rw [contains_mid_append hs ho, Bool.not_not, Bool.and_eq_true, decide_eq_true_eq, decide_eq_true_eq]
    refine and_congr_right fun h => ?_
    rw [h, List.append_nil, List.length_reverse]
    rfl
  unfold vehicleForm
  rw [sinceMid_append hs ho]
  by_cases hm : marked = true
  · rw [if_pos hm, if_pos (.inl hm)]
  by_cases hf : older = [] ∧ since.length = 6
  · rw [if_neg hm, if_pos (hfull.mpr hf), if_pos (.inr (.inl hf))]
  by_cases hu : SpacingClass.unknown ∈ since
  · rw [if_neg hm, if_neg (mt hfull.mp hf), if_pos (List.contains_iff_mem.mpr hu), if_pos (.inr (.inr hu))]
  · rw [if_neg hm, if_neg (mt hfull.mp hf), if_neg (mt List.contains_iff_mem.mp hu), if_neg (not_or.mpr ⟨hm, not_or.mpr ⟨hf, hu⟩⟩)]

end Forms

/-- Settles O37: a spacing by `State.classify_unknown` and `State.classify_measured`, a form by `vehicleForm_append`. -/
theorem spacingsAndForms : Obligations.SpacingsAndForms := by
  refine ⟨fun s a v time vRef tRef href _ => ⟨fun ha => if_pos ha, fun ha => ?_⟩, fun marked _ _ hs ho _ =>
    vehicleForm_append marked hs ho⟩
  have hspacing : s.entrySpacing a v time = some (spacingOf vRef tRef v time, s.classify vRef v (spacingOf vRef tRef v time)) := by
    rw [State.entrySpacing, if_neg (by omega), href]
    rfl
  exact ⟨_, hspacing, State.classify_unknown _, State.classify_measured _⟩

end Sys2Proof.Machine
end

section
/-! SUPPORT. Refutation of VehiclesFollowTheAxles, as of TrainClosure: a MID closes the open vehicle and requests it, and no
hypothesis keeps a request of another lane out of the vehicle lane. The request is merged into such a one (R98), and the grant of
that one is an evaluation of the other lane. -/

namespace Sys2Proof.Machine

/-! ## A vehicle that closes beside a mislaid request -/

/-- The passage of `mislaidPassage`, axle 0 entered at 0; the outer sensor of the entry pair has had its edge at 295 ms. -/
def mislaidEntry : State := { mislaidPassage with
  axt := { mislaidPassage.axt with
    pairs := mislaidPassage.axt.pairs.upd .west fun m => { m with st := .outerFirst 295000, timer := some 2295000 } }
  vsg := { mislaidPassage.vsg with reference := some (10000, 0) } }

theorem mislaidEntry_siteOk : mislaidEntry.SiteOk := by
  obtain ⟨passage, arm, sweep, duration, rest, latch, offLatch, disabling, streaming, level⟩ := mislaidPassage_siteOk
  exact ⟨passage, arm, sweep, duration, rest, latch, offLatch, disabling, streaming, level⟩

theorem mislaidEntry_slotsOk : mislaidEntry.SlotsOk := by
  obtain ⟨filling, number, queue, once, captures, gates, gate⟩ := mislaidPassage_slotsOk
  exact ⟨filling, number, queue, once, captures, gates, gate⟩

/-- The edge of the inner sensor 25 ms later completes an inward crossing at 10 m/s. -/
theorem mislaidEntry_crosses : mislaidEntry.Crosses .wi 320000 .west true 10000 where
  pair := rfl
  cross := ⟨25000, by decide, by decide, by decide⟩
  low := by decide
  high := by decide

/-- The spacing to axle 0 is that of two vehicles. -/
theorem mislaidEntry_spacing :
    (mislaidEntry.entrySpacing leavingTrain.n 10000 320000).map Prod.snd = some SpacingClass.mid := by
  decide

/-- The crossing leaves the vehicle lane empty, and an evaluation of lane A. -/
theorem mislaidEntry_crossing : (match exec (.wheelSensorEdge .wi 320000) mislaidEntry with
    | .next u => u.evu.lanes.vehicle.isEmpty && u.evu.evals.toList.all fun e => e.all fun ev => ev.req.lane != .vehicle
    | _ => false) = true := by
  decide +kernel

/-- Refutes O60: the request of the vehicle that the MID closes is merged into the mislaid one, whose grant is an evaluation of
lane A. -/
theorem not_vehiclesFollowTheAxles : ¬ Obligations.VehiclesFollowTheAxles := by
  intro h
  obtain ⟨u, hu, _, -, hentry, -⟩ := h .wi 320000 mislaidEntry .west true 10000 leavingTrain leavingFilling
    { first := 0, deficitMark := false } [] mislaidEntry_siteOk mislaidEntry_slotsOk rfl mislaidEntry_crosses rfl rfl
  obtain ⟨-, -, -, hmid⟩ := hentry rfl rfl (by decide)
  obtain ⟨-, -, -, -, hvehicle⟩ := hmid mislaidEntry_spacing
  obtain ⟨-, hrequested⟩ := hvehicle (by decide)
  have hlast := mislaidEntry_crossing
  rw [hu] at hlast
  obtain ⟨hlane, hevals⟩ := Bool.and_eq_true_iff.mp hlast
  exact State.not_requested (u := u) (l := .vehicle) (List.isEmpty_iff.mp hlane) hevals (hrequested (by decide) (by decide))

end Sys2Proof.Machine
end

section
/-! SUPPORT. ConversionSumsTheSegments: the four segments of a conversion, in integers (R73, R74). -/

namespace Sys2Proof.Machine

/-- The load of `d` counts above the baseline, in integers: the four segments summed, divided by 4096, at most 6000 (R73). -/
theorem CalRecord.load_cast {c : CalRecord} (h : c.Admitted) (d : Nat) :
    (c.load d : Int) = min 6000 (((c.m0 : Int) * min (d : Int) c.b1
      + c.m1 * min (max ((d : Int) - c.b1) 0) (c.b2 - c.b1) + c.m2 * min (max ((d : Int) - c.b2) 0) (c.b3 - c.b2)
      + c.m3 * max ((d : Int) - c.b3) 0) / 4096) := by
  have hsub (a b : Nat) : ((a - b : Nat) : Int) = max ((a : Int) - b) 0 := by omega
  have hspan {a b : Nat} (hab : a < b) : max ((b : Int) - a) 0 = b - a := by omega
  simp only [CalRecord.load, Config.loadMax, Nat.cast_min, Nat.cast_ofNat, Nat.cast_add, Nat.cast_mul, Int.natCast_ediv, hsub,
    hspan h.first, hspan h.second]

/-- Settles O45: a load is a sum of products of natural numbers, so it is never below 0 and only the upper limit of the last clamp bites. -/
theorem conversionSumsTheSegments : Obligations.ConversionSumsTheSegments := by
  intro c x hcal clamp
  refine ⟨rfl, fun hz => by simp [Channel.convert, hz], fun z hz => ?_⟩
  intro d sum
  have hconvert : c.convert x false = if d ≤ 0 then 0 else c.cal.load d.toNat := by simp [Channel.convert, hz, d]
  rw [hconvert]
  refine ⟨fun hd => if_pos hd, fun hd => ?_⟩
  have hclamp (v hi : Int) (hhi : 0 ≤ hi) : clamp v 0 hi = min (max v 0) hi := by
    simp only [clamp]
    omega
  have hfirst := hcal.first
  have hsecond := hcal.second
  have hload := CalRecord.load_cast hcal d.toNat
  rw [Int.toNat_of_nonneg hd.le, ← hclamp _ _ (show (0 : Int) ≤ c.cal.b2 - c.cal.b1 by omega),
    ← hclamp _ _ (show (0 : Int) ≤ c.cal.b3 - c.cal.b2 by omega)] at hload
  change _ = min 6000 (sum / 4096) at hload
  rw [if_neg (by omega), hclamp _ _ (by omega)]
  omega

end Sys2Proof.Machine
end

section
/-! SUPPORT. ReadsReturnWhatStands: a served read, the frames of its reply, and the fields of the axle summary entry (11.3, 11.7,
R162, R172, R177). -/

namespace Sys2Proof.Machine

theorem channelOf_byte (k : Fin 16) : channelOf (BitVec.ofNat 8 k.val) = some k := by decide +revert

/-! ## A served read -/

theorem slotOf_byte (k : Fin 4) : slotOf (BitVec.ofNat 8 k.val) = some k := by decide +revert

/-- A read served: its port answers with the frames of the reply, and nothing else changes (R172). -/
theorem State.Asks.serveRead {s : State} {p : Port} {r : QueuedRequest} {kind : Byte} {payload : List Byte}
    (h : s.Asks p r kind payload) {n : Nat} (hn : kind.toNat = n) (reply : State → List Byte → Reply) :
    s.serveRead p n reply = s.withPort p ((s.mpc.ports.get p).answered
      (replyFrames (r.kind + 0x80) r.tag (reply s payload).outcome (reply s payload).bodies)) := by
  rw [State.serveRead_eq h hn, State.answer_eq h.orderly]

/-- A read answered by one frame (R172). -/
theorem State.Asks.serveRead_one {s : State} {p : Port} {r : QueuedRequest} {kind : Byte} {payload : List Byte}
    (h : s.Asks p r kind payload) {n : Nat} (hn : kind.toNat = n) {reply : State → List Byte → Reply} {o : ReplyOutcome}
    {body : List Byte} (hreply : reply s payload = .one o body) :
    s.serveRead p n reply = s.withPort p ((s.mpc.ports.get p).answered [replyFrame r (BitVec.ofNat 8 o.code) body]) := by
  rw [h.serveRead hn, hreply]
  rfl

/-- A frame of a reply that is not its last: bit 7 of the outcome DONE is set (R172). -/
def moreFrame (r : QueuedRequest) (body : List Byte) : OutFrame :=
  { kind := r.kind + 0x80, tag := r.tag, payload := 131 :: body, cls := .reply false }

/-- The frames of a DONE reply: every one but the last is followed by another (R172). -/
theorem replyFrames_done (r : QueuedRequest) (bodies : List (List Byte)) :
    replyFrames (r.kind + 0x80) r.tag .done bodies =
      bodies.dropLast.map (moreFrame r) ++ bodies.getLast?.toList.map (replyFrame r 3) := by
  induction bodies with
  | nil => rfl
  | cons b bs ih =>
    cases bs with
    | nil => rfl
    | cons b' bs =>
      rw [replyFrames, ih]
      rfl

/-! ## Read requests (R75, R76, R162, R169, R177) -/

theorem configGetReply_item (s : State) (it : Item) : configGetReply s [BitVec.ofNat 8 it.number] = .one .done
    (u8 it.number ++ u8 (if it = .maskS ∨ it = .maskM then 1 else 0) ++ it.bytes (s.cfg it)
      ++ opt it.bytes (s.mpc.pendingCfg[it.idx])) := by
  have hclass : (if it.immediate = true then 1 else 0) = if it = .maskS ∨ it = .maskM then 1 else 0 := by
    cases it <;> rfl
  simp only [configGetReply, it.number_byte, it.ofNumber_number, hclass]
  rfl

theorem onChannel_byte (k : Fin 16) (reply : Fin 16 → Reply) : onChannel [BitVec.ofNat 8 k.val] reply = reply k := by
  simp only [onChannel, channelOf_byte]

theorem sideCode_channelRail (k : Fin 16) : sideCode (channelRail k) = k.val / 8 := by decide +revert

theorem State.ofHeld_held {s : State} {k : Fin 4} {h : HeldSlot} (hk : s.rps.slots[k] = some h) (reply : Report → Reply) :
    s.ofHeld k reply = reply h.report := by
  have hget : s.rps.slots.get k = some h := hk
  simp only [State.ofHeld, hget]

/-- An AXLES READ whose count and detail are in range is answered by the slot. -/
theorem axlesReadReply_eq (s : State) (k : Fin 4) {hi lo n d : Byte} (h1 : 1 ≤ n.toNat) (h8 : n.toNat ≤ 8) (hd : d.toNat ≤ 1) :
    axlesReadReply s [BitVec.ofNat 8 k.val, hi, lo, n, d] = s.ofHeld k fun r =>
      if r.axles.length ≤ nat16 hi lo then .bare .outOfRange
      else { outcome := .done, bodies := axlesBodies (d == 1) ((r.axles.drop (nat16 hi lo)).take n.toNat) } := by
  simp only [axlesReadReply, slotOf_byte]
  exact if_neg (by simp; omega)

/-- A VEHICLES READ whose count is in range is answered by the slot. -/
theorem vehiclesReadReply_eq (s : State) (k : Fin 4) {lo n : Byte} (h1 : 1 ≤ n.toNat) (h16 : n.toNat ≤ 16) :
    vehiclesReadReply s [BitVec.ofNat 8 k.val, lo, n] = s.ofHeld k fun r =>
      if r.vehicles.length ≤ lo.toNat then .bare .outOfRange
      else { outcome := .done, bodies := vehiclesBodies ((r.vehicles.drop lo.toNat).take n.toNat) } := by
  simp only [vehiclesReadReply, slotOf_byte]
  exact if_neg (by simp; omega)

/-- An AXLES READ of recorded axles (R162). -/
theorem axlesReadReply_held {s : State} {k : Fin 4} {h : HeldSlot} (hk : s.rps.slots[k] = some h) {hi lo n d : Byte}
    (h1 : 1 ≤ n.toNat) (h8 : n.toNat ≤ 8) (hd : d.toNat ≤ 1) (hlt : hi.toNat * 256 + lo.toNat < h.report.axles.length) :
    axlesReadReply s [BitVec.ofNat 8 k.val, hi, lo, n, d] =
      { outcome := .done
        bodies := axlesBodies (d == 1) ((h.report.axles.drop (hi.toNat * 256 + lo.toNat)).take n.toNat) } := by
  rw [axlesReadReply_eq s k h1 h8 hd, State.ofHeld_held hk]
  exact if_neg (Nat.not_le.mpr hlt)

/-- A VEHICLES READ of recorded vehicles (R162). -/
theorem vehiclesReadReply_held {s : State} {k : Fin 4} {h : HeldSlot} (hk : s.rps.slots[k] = some h) {lo n : Byte}
    (h1 : 1 ≤ n.toNat) (h16 : n.toNat ≤ 16) (hlt : lo.toNat < h.report.vehicles.length) :
    vehiclesReadReply s [BitVec.ofNat 8 k.val, lo, n] =
      { outcome := .done, bodies := vehiclesBodies ((h.report.vehicles.drop lo.toNat).take n.toNat) } := by
  rw [vehiclesReadReply_eq s k h1 h16, State.ofHeld_held hk]
  exact if_neg (Nat.not_le.mpr hlt)

/-- With detail, AXLES READ returns one frame per axle (R162). -/
theorem replyFrames_details (r : QueuedRequest) (xs : List AxleRecord) :
    replyFrames (r.kind + 0x80) r.tag .done (axlesBodies true xs) =
      xs.dropLast.map (fun x => moreFrame r (1 :: (x.summary ++ x.detail)))
        ++ xs.getLast?.toList.map (fun x => replyFrame r 3 (1 :: (x.summary ++ x.detail))) := by
  have hbodies : axlesBodies true xs = xs.map fun x => 1 :: (x.summary ++ x.detail) := by
    simp [axlesBodies, counted, u8]
  rw [hbodies, replyFrames_done, List.map_dropLast, List.map_dropLast, List.map_map, List.getLast?_map]
  cases xs.getLast? <;> rfl

/-- VEHICLES READ returns at most 10 records in a frame (R172). -/
theorem replyFrames_vehicles (r : QueuedRequest) (vs : List VehicleRecord) :
    replyFrames (r.kind + 0x80) r.tag .done (vehiclesBodies vs) =
      if vs.length ≤ 10 then [replyFrame r 3 (u8 vs.length ++ vs.flatMap VehicleRecord.bytes)]
      else [moreFrame r (10 :: (vs.take 10).flatMap VehicleRecord.bytes),
            replyFrame r 3 (u8 (vs.length - 10) ++ (vs.drop 10).flatMap VehicleRecord.bytes)] := by
  unfold vehiclesBodies
  split
  · rfl
  · have hlen : (vs.take 10).length = 10 := by
      rw [List.length_take]
      omega
    simp only [counted, hlen, List.length_drop]
    rfl

/-! ## The axle summary entry (11.7) -/

theorem flagBits_four (a b c d : Bool) : flagBits [a, b, c, d] =
    (if a = true then 1 else 0) + (if b = true then 2 else 0) + (if c = true then 4 else 0) + (if d = true then 8 else 0) := by
  revert a b c d
  decide

/-- The entry byte by byte. -/
theorem AxleRecord.summary_eq (x : AxleRecord) : x.summary =
    [.ofNat 8 (x.index / 256), .ofNat 8 x.index, .ofNat 8 (x.entryTime.toNat / 16777216), .ofNat 8 (x.entryTime.toNat / 65536),
      .ofNat 8 (x.entryTime.toNat / 256), .ofNat 8 x.entryTime.toNat, .ofNat 8 (x.entrySpeed / 256), .ofNat 8 x.entrySpeed,
      .ofNat 8 ((x.spacing.map (·.1)).getD 0 / 256), .ofNat 8 ((x.spacing.map (·.1)).getD 0), .ofNat 8 (spacingCode x.spacing),
      .ofNat 8 (x.vehicle.getD 0), .ofNat 8 x.pass,
      .ofNat 8 (flagBits [x.vehicle.isSome, x.cribs.a.dirty, x.cribs.b.dirty, x.gateDirty]),
      .ofNat 8 (wheelLoadField x.wheels.a / 256), .ofNat 8 (wheelLoadField x.wheels.a),
      .ofNat 8 (wheelLoadField x.wheels.b / 256), .ofNat 8 (wheelLoadField x.wheels.b),
      .ofNat 8 (wheelByte x.wheels.a), .ofNat 8 (wheelByte x.wheels.b),
      .ofNat 8 ((x.results.map (·.load)).getD 0 / 256), .ofNat 8 ((x.results.map (·.load)).getD 0),
      .ofNat 8 ((x.results.map (·.imbalance)).getD 0),
      .ofNat 8 (qualityCode (x.results.map (·.quality)) * 16 + x.peakWheel.rank), .ofNat 8 x.peakBearing.rank] := by
  simp only [AxleRecord.summary, u8, u16, u32, List.cons_append, List.nil_append]

theorem bytesField_one {bs rest : List Byte} {i n : Nat} (h : bs.drop i = .ofNat 8 n :: rest) : bytesField bs i 1 = n % 256 := by
  simp [bytesField, h]

theorem bytesField_two {bs rest : List Byte} {i n : Nat} (h : bs.drop i = .ofNat 8 (n / 256) :: .ofNat 8 n :: rest) :
    bytesField bs i 2 = n % 65536 := by
  simp only [bytesField, h, List.take_succ_cons, List.take_zero, List.foldl_cons, List.foldl_nil, BitVec.toNat_ofNat]
  omega

theorem bytesField_four {bs rest : List Byte} {i n : Nat}
    (h : bs.drop i = .ofNat 8 (n / 16777216) :: .ofNat 8 (n / 65536) :: .ofNat 8 (n / 256) :: .ofNat 8 n :: rest) :
    bytesField bs i 4 = n % 4294967296 := by
  simp only [bytesField, h, List.take_succ_cons, List.take_zero, List.foldl_cons, List.foldl_nil, BitVec.toNat_ofNat]
  omega

/-- The fields of the entry, before their values are taken apart. -/
theorem AxleRecord.summary_fields (x : AxleRecord) : x.summary.length = 25
    ∧ bytesField x.summary 0 2 = x.index % 65536 ∧ bytesField x.summary 2 4 = x.entryTime.toNat % 4294967296
    ∧ bytesField x.summary 6 2 = x.entrySpeed % 65536 ∧ bytesField x.summary 8 2 = (x.spacing.map (·.1)).getD 0 % 65536
    ∧ bytesField x.summary 10 1 = spacingCode x.spacing % 256 ∧ bytesField x.summary 11 1 = x.vehicle.getD 0 % 256
    ∧ bytesField x.summary 12 1 = x.pass % 256
    ∧ bytesField x.summary 13 1 = flagBits [x.vehicle.isSome, x.cribs.a.dirty, x.cribs.b.dirty, x.gateDirty] % 256
    ∧ bytesField x.summary 14 2 = wheelLoadField x.wheels.a % 65536 ∧ bytesField x.summary 16 2 = wheelLoadField x.wheels.b % 65536
    ∧ bytesField x.summary 18 1 = wheelByte x.wheels.a % 256 ∧ bytesField x.summary 19 1 = wheelByte x.wheels.b % 256
    ∧ bytesField x.summary 20 2 = (x.results.map (·.load)).getD 0 % 65536
    ∧ bytesField x.summary 22 1 = (x.results.map (·.imbalance)).getD 0 % 256
    ∧ bytesField x.summary 23 1 = (qualityCode (x.results.map (·.quality)) * 16 + x.peakWheel.rank) % 256
    ∧ bytesField x.summary 24 1 = x.peakBearing.rank % 256 := by
  rw [x.summary_eq]
  exact ⟨rfl, bytesField_two rfl, bytesField_four rfl, bytesField_two rfl, bytesField_two rfl, bytesField_one rfl,
    bytesField_one rfl, bytesField_one rfl, bytesField_one rfl, bytesField_two rfl, bytesField_two rfl, bytesField_one rfl,
    bytesField_one rfl, bytesField_two rfl, bytesField_one rfl, bytesField_one rfl, bytesField_one rfl⟩

/-- A quality and a level in one byte: the quality in its high half, 0 where absent. -/
def gradeByte (q : Option Quality) (l : ResultLevel) : Nat :=
  16 * (match q with | none => 0 | some .incomplete => 1 | some .degraded => 2 | some .full => 3)
    + (match l with | .absent => 0 | .normal => 1 | .watch => 2 | .alert => 3 | .critical => 4)

theorem gradeByte_eq (q : Option Quality) (l : ResultLevel) : (qualityCode q * 16 + l.rank) % 256 = gradeByte q l := by
  rcases q with _ | q
  · cases l <;> rfl
  · cases q <;> cases l <;> rfl

theorem wheelByte_eq (r : Option WheelResult) : wheelByte r % 256 = match r with
    | none => 0
    | some y => gradeByte (some y.quality) y.level := by
  cases r with
  | none => rfl
  | some y => exact gradeByte_eq (some y.quality) y.level

theorem wheelLoadField_eq (r : Option WheelResult) : wheelLoadField r = match r with
    | none => 0
    | some y => y.w.getD 0 := by
  cases r <;> rfl

/-- A TRAIN LIST entry by the slot's state (R162). -/
theorem State.listEntry_eq (s : State) (k : Fin 4) : s.listEntry k = BitVec.ofNat 8 k.val :: (match s.rps.slots[k] with
    | none => u8 0 ++ u8 0
    | some h => u8 (match h.st with | .filling => 1 | .closing => 2 | .complete => 3 | .released => 4) ++ u8 1
      ++ u16 h.report.header.number
      ++ opt (fun c : ClosureKind => u8 (match c with | .completePass => 0 | .withdrawn => 1 | .standing => 2)) h.report.header.closure
      ++ u8 (if h.report.header.flags.aborted = true then 1 else 0)) := by
  have hget : s.rps.slots.get k = s.rps.slots[k] := rfl
  have hclosure : (fun c : ClosureKind => u8 c.code) =
      fun c => u8 (match c with | .completePass => 0 | .withdrawn => 1 | .standing => 2) := by
    funext c
    cases c <;> rfl
  simp only [State.listEntry, hget, hclosure]
  cases s.rps.slots[k] with
  | none => rfl
  | some h =>
    have hstate : slotCode (some h) = match h.st with | .filling => 1 | .closing => 2 | .complete => 3 | .released => 4 := rfl
    have hflag : flag h.report.header.flags.aborted = u8 (if h.report.header.flags.aborted = true then 1 else 0) := by
      cases h.report.header.flags.aborted <;> rfl
    simp only [hstate, hflag, opt, u8, List.cons_append, List.nil_append, List.append_assoc]
    rfl

/-- Settles O17: each read's reply is computed from the state and answered (`State.Asks.serveRead`); the summary entry's fields are
read off its 25 bytes. -/
theorem readsReturnWhatStands : Obligations.ReadsReturnWhatStands := by
  refine ⟨fun p s r => ?values, fun p s r k h hi lo n hk => ?reports, fun x => ?summary, fun s k => ?entry⟩
  case values =>
    refine ⟨fun it ha => ?config, fun k ha => ?calibration, fun k ha => ?channel, fun ha => ?counts, fun ha => ?list⟩
    case config => exact congrArg Host.Outcome.next (ha.serveRead_one rfl (o := .done) (configGetReply_item s it))
    case calibration =>
      exact congrArg Host.Outcome.next (ha.serveRead_one rfl (o := .done) (onChannel_byte k _))
    case channel =>
      have hrun := ha.serveRead_one rfl (reply := channelStateReply) (onChannel_byte k _)
      simp only [State.channelBytes, sideCode_channelRail] at hrun
      exact congrArg Host.Outcome.next hrun
    case counts => exact congrArg Host.Outcome.next (ha.serveRead_one rfl (o := .done) rfl)
    case list => exact congrArg Host.Outcome.next (ha.serveRead_one rfl (o := .done) rfl)
  case reports =>
    refine ⟨fun ha => ?header, fun h1 h8 hlt => ⟨fun ha => ?summaries, fun ha => ?details⟩, fun h1 h16 hlt ha => ?vehicles⟩
    case header =>
      refine congrArg Host.Outcome.next (ha.serveRead_one rfl (o := .done) ?_)
      simp only [trainHeaderReply, slotOf_byte, State.ofHeld_held hk]
    case summaries =>
      exact congrArg Host.Outcome.next (ha.serveRead_one rfl (o := .done) (axlesReadReply_held hk h1 h8 (by decide) hlt))
    case details =>
      refine congrArg Host.Outcome.next ((ha.serveRead rfl axlesReadReply).trans ?_)
      rw [axlesReadReply_held hk h1 h8 (by decide) hlt]
      exact congrArg (fun fs => s.withPort p ((s.mpc.ports.get p).answered fs)) (replyFrames_details r _)
    case vehicles =>
      refine congrArg Host.Outcome.next ((ha.serveRead rfl vehiclesReadReply).trans ?_)
      rw [vehiclesReadReply_held hk h1 h16 hlt]
      exact congrArg (fun fs => s.withPort p ((s.mpc.ports.get p).answered fs)) (replyFrames_vehicles r _)
  case summary =>
    have htime : x.entryTime.toNat % 4294967296 = x.entryTime.toNat := Nat.mod_eq_of_lt x.entryTime.isLt
    obtain ⟨hlength, h0, h2, h6, h8, h10, h11, h12, h13, h14, h16, h18, h19, h20, h22, h23, h24⟩ := x.summary_fields
    refine ⟨hlength, h0, h2.trans htime, h6, h8.trans ?spacing, h10.trans ?spacingClass, h11, h12, h13.trans ?flags,
      h14.trans ?loadA, h16.trans ?loadB, h18.trans ?wheelA, h19.trans ?wheelB, h20.trans ?load, h22.trans ?imbalance,
      h23.trans ?grade, h24.trans ?bearing⟩
    case spacing => rcases x.spacing with _ | ⟨mm, c⟩ <;> rfl
    case spacingClass =>
      rcases x.spacing with _ | ⟨mm, c⟩
      · rfl
      · cases c <;> rfl
    case flags =>
      have hlt (a b c d : Bool) : flagBits [a, b, c, d] < 256 := by decide +revert
      exact (Nat.mod_eq_of_lt (hlt ..)).trans (flagBits_four ..)
    case loadA => exact congrArg (· % 65536) (wheelLoadField_eq _)
    case loadB => exact congrArg (· % 65536) (wheelLoadField_eq _)
    case wheelA => exact wheelByte_eq _
    case wheelB => exact wheelByte_eq _
    case load => cases x.results <;> rfl
    case imbalance => cases x.results <;> rfl
    case grade => exact gradeByte_eq _ _
    case bearing => cases x.peakBearing <;> rfl
  case entry =>
    exact State.listEntry_eq s k

end Sys2Proof.Machine
end

section
/-! SUPPORT. CalibrationSetClampsTestsAndApplies: the arguments of a CALIBRATION SET, the record taken, and its application
(R72, R75). -/

namespace Sys2Proof.Machine

/-! ## Bytes read back (11) -/

theorem nat16_bytes {n : Nat} (h : n < 65536) : nat16 (BitVec.ofNat 8 (n / 256)) (BitVec.ofNat 8 n) = n := by
  simp only [nat16, BitVec.toNat_ofNat]
  omega

theorem nat32_bytes {n : Nat} (h : n < 4294967296) :
    nat32 (BitVec.ofNat 8 (n / 16777216)) (BitVec.ofNat 8 (n / 65536)) (BitVec.ofNat 8 (n / 256)) (BitVec.ofNat 8 n) = n := by
  simp only [nat32, BitVec.toNat_ofNat]
  omega

/-! ## The arguments (R75) -/

/-- A record that its bytes can carry. -/
structure CalRecord.Sendable (c : CalRecord) : Prop where
  b1 : c.b1 < 4294967296
  b2 : c.b2 < 4294967296
  b3 : c.b3 < 4294967296
  m0 : c.m0 < 65536
  m1 : c.m1 < 65536
  m2 : c.m2 < 65536
  m3 : c.m3 < 65536

/-- A record survives its bytes, and is SET (R75). -/
theorem calArgs_record {c : CalRecord} (h : c.Sendable) (k : Fin 16) :
    calArgs (BitVec.ofNat 8 k.val :: 1 :: (u32 c.b1 ++ u32 c.b2 ++ u32 c.b3 ++ u16 c.m0 ++ u16 c.m1 ++ u16 c.m2 ++ u16 c.m3))
      = .ok (k, some { c with isSet := true }) := by
  simp only [calArgs, calFields, u32, u16, List.cons_append, List.nil_append, channelOf_byte, if_true, nat32_bytes h.b1,
    nat32_bytes h.b2, nat32_bytes h.b3, nat16_bytes h.m0, nat16_bytes h.m1, nat16_bytes h.m2, nat16_bytes h.m3]

theorem calArgs_restore (k : Fin 16) : calArgs [BitVec.ofNat 8 k.val, 0] = .ok (k, none) := by
  simp only [calArgs, calFields, channelOf_byte, if_true]

/-! ## The record taken (R75) -/

theorem clampNat_eq {lo hi : Nat} (h : lo ≤ hi) (x : Nat) : clampNat lo hi x = if x < lo then lo else if hi < x then hi else x := by
  unfold clampNat
  split
  · omega
  · split <;> omega

theorem CalRecord.Sendable.clamp_eq {c : CalRecord} (h : c.Sendable) :
    c.clamp = { c with b1 := clampNat 1 524287 c.b1, b2 := clampNat 1 524287 c.b2, b3 := clampNat 1 524287 c.b3 } := by
  have slope {m : Nat} (hm : m < 65536) : clampNat 0 65535 m = m := by
    unfold clampNat
    omega
  simp only [CalRecord.clamp, slope h.m0, slope h.m1, slope h.m2, slope h.m3]

/-- A CALIBRATION SET whose arguments are read: the reply, then the application (R75, R173). -/
theorem exec_calibrationSet {s : State} {p : Port} {r : QueuedRequest} {payload : List Byte} {k : Fin 16} {c : Option CalRecord}
    (h : s.Asks p r 0x06 payload) (hargs : calArgs payload = .ok (k, c)) :
    exec (.calibrationSet p) s = .next ((s.replying p (replyFrame r (BitVec.ofNat 8 (s.calOutcome (takenRecord c)).code)
      (calBody c))).applyCal k (takenRecord c) (s.calOutcome (takenRecord c))) := by
  show Host.Outcome.next (s.serve p (·.hasKind 0x06) (State.serveCalSet p)) = _
  rw [State.serve_eq h.head, if_pos (h.hasKind 6 rfl), State.serveCalSet, h.payload, hargs]
  dsimp only
  rw [State.answer_one h.orderly]
  rfl

/-- Settles O20: the arguments give the record taken and its clamped mark; the order of the break points and the settle point give
the outcome. -/
theorem calibrationSetClampsTestsAndApplies : Obligations.CalibrationSetClampsTestsAndApplies := by
  intro p s r k given restore hb1 hb2 hb3 hm0 hm1 hm2 hm3 hask limit taken clamped answered
  have hsend : given.Sendable := ⟨hb1, hb2, hb3, hm0, hm1, hm2, hm3⟩
  obtain ⟨c, hargs, htaken, hclamped⟩ : ∃ c, calArgs (BitVec.ofNat 8 k.val :: (if restore then [0] else
        1 :: (u32 given.b1 ++ u32 given.b2 ++ u32 given.b3 ++ u16 given.m0 ++ u16 given.m1 ++ u16 given.m2 ++ u16 given.m3)))
        = .ok (k, c) ∧ takenRecord c = taken ∧ calBody c = flag clamped ++ taken.bytes := by
    cases restore with
    | true => exact ⟨none, calArgs_restore k, rfl, rfl⟩
    | false =>
      have htaken : takenRecord (some { given with isSet := true }) = taken := by
        have hset : CalRecord.Sendable { given with isSet := true } := ⟨hb1, hb2, hb3, hm0, hm1, hm2, hm3⟩
        simp only [takenRecord, hset.clamp_eq, clampNat_eq (show 1 ≤ 524287 by decide)]
        rfl
      refine ⟨some { given with isSet := true }, calArgs_record hsend k, htaken, ?_⟩
      have hmark : decide (({ given with isSet := true } : CalRecord) ≠ taken) = clamped := by
        rw [Bool.eq_iff_iff]
        simp only [taken, clamped, Bool.false_eq_true, if_false, ne_eq, CalRecord.mk.injEq, decide_eq_true_eq, Bool.not_false,
          Bool.true_and, Bool.or_eq_true, bne_iff_ne, and_true]
        tauto
      rw [calBody, htaken]
      exact congrArg (fun b => flag b ++ taken.bytes) hmark
  have hrun := exec_calibrationSet hask hargs
  rw [htaken, hclamped] at hrun
  refine ⟨fun hdis => ?conflict, fun h1 h2 hset => ?now, fun h1 h2 hset => ?deferred⟩
  case conflict =>
    have ho : s.calOutcome taken = .conflict := if_pos (by simpa [CalRecord.ordered, imp_iff_not_or] using hdis)
    rw [hrun, ho]; rfl
  case now =>
    have ho : s.calOutcome taken = .now := by simp [State.calOutcome, CalRecord.ordered, h1, h2, hset]
    rw [hrun, ho]; rfl
  case deferred =>
    have ho : s.calOutcome taken = .deferred := by simp [State.calOutcome, CalRecord.ordered, h1, h2, hset]
    rw [hrun, ho]; rfl

end Sys2Proof.Machine
end

section
/-! SUPPORT. RefusedRequestsChangeNothing: the requests that R172 refuses, row by row. -/

namespace Sys2Proof.Machine

theorem State.modPort_eq_withPort (s : State) (p : Port) (f : PortMachine → PortMachine) :
    s.modPort p f = s.withPort p (f (s.mpc.ports.get p)) := by
  cases p <;> rfl

/-! ## A refusal -/

/-- A refusal: the outcome alone, and nothing else changes (R172). -/
def State.refusing (p : Port) (r : QueuedRequest) (o : ReplyOutcome) (s : State) : State :=
  s.replying p (replyFrame r (BitVec.ofNat 8 o.code) [])

theorem State.Asks.serveRead_refusing {s : State} {p : Port} {r : QueuedRequest} {kind : Byte} {payload : List Byte} {o : ReplyOutcome}
    {reply : State → List Byte → Reply} (h : s.Asks p r kind payload) {n : Nat} (hn : kind.toNat = n)
    (hreply : reply s payload = .bare o) : s.serveRead p n reply = s.refusing p r o := h.serveRead_one hn hreply

theorem State.Asks.serve_refusing {s : State} {p : Port} {r : QueuedRequest} {kind : Byte} {payload : List Byte} {o : ReplyOutcome}
    {effect : QueuedRequest → State → State} (h : s.Asks p r kind payload) {n : Nat} (hn : kind.toNat = n)
    (heffect : effect r s = s.answer p r (.bare o)) : s.serve p (·.hasKind n) effect = s.refusing p r o := by
  rw [State.serve_eq h.head, if_pos (h.hasKind n hn), heffect]
  exact State.answer_one h.orderly ..

/-- A SITE CONTROL request of a wrong length or an unknown action is refused by the row of any action (assumption 8). -/
theorem State.Asks.serveControl_refusing {s : State} {p : Port} {r : QueuedRequest} {kind : Byte} {payload : List Byte}
    {o : ReplyOutcome} (h : s.Asks p r kind payload) (hn : kind.toNat = 3) (ho : siteControlRefusal payload = some o)
    (action : Nat) (act : QueuedRequest → State → State) : s.serveControl p action act = s.refusing p r o := by
  have hserves : r.controls action = true := by
    unfold QueuedRequest.controls
    rw [h.hasKind 3 hn, h.payload, Bool.true_and]
    unfold siteControlRefusal at ho
    split at ho
    · rename_i a
      split at ho
      · simp [*]
      · cases ho
    · rename_i hlong
      rfl
  rw [State.serveControl, State.serve_eq h.head, if_pos hserves, h.payload, ho]
  exact State.answer_one h.orderly ..

/-! ## Lengths and forms (R172, step 2) -/

/-- A request of neither CONFIG SET nor CALIBRATION SET has no other form than its length. -/
theorem length_of_misfit {n : Nat} {payload : List Byte} (h4 : n ≠ 4) (h6 : n ≠ 6)
    (h : payload.length ∉ lengthsOf n ∨ wrongForm n payload) : payload.length ∉ lengthsOf n := by
  refine h.resolve_right fun hform => ?_
  unfold wrongForm at hform
  split at hform
  · exact h4 rfl
  · exact h6 rfl
  · exact hform

/-- A CONFIG SET of a wrong length or width (R176, assumption 6). -/
theorem configArgs_misfit {payload : List Byte} (h : payload.length ∉ lengthsOf 4 ∨ wrongForm 4 payload) :
    configArgs payload = .error .badLength := by
  unfold configArgs
  split
  · rename_i i v
    obtain ⟨it, hit, hw⟩ : wrongForm 4 [i, v] := h.resolve_left (by simp [lengthsOf])
    rw [hit]
    exact if_neg (Ne.symm hw)
  · rename_i i a b
    obtain ⟨it, hit, hw⟩ : wrongForm 4 [i, a, b] := h.resolve_left (by simp [lengthsOf])
    rw [hit]
    exact if_neg (Ne.symm hw)
  · rfl

/-- A CALIBRATION SET of a wrong length, or whose form byte and length disagree (R75, assumption 6). -/
theorem calArgs_misfit {payload : List Byte} (h : payload.length ∉ lengthsOf 6 ∨ wrongForm 6 payload) :
    calArgs payload = .error .badLength := by
  unfold calArgs
  split
  · rfl
  · rename_i ch bs
    have hfields : calFields bs = .error .badLength := by
      unfold calFields
      split
      · rename_i x
        have hform : wrongForm 6 [ch, x] := h.resolve_left (by simp [lengthsOf])
        obtain ⟨hx, -⟩ | ⟨-, hlen⟩ := hform
        · rw [hx]; rfl
        · cases hlen
      · rename_i x a1 a2 a3 a4 b1 b2 b3 b4 c1 c2 c3 c4 m1 m2 m3 m4 m5 m6 m7 m8
        have hform := h.resolve_left (by simp [lengthsOf])
        obtain ⟨-, hnil⟩ | ⟨hx, -⟩ := hform
        · cases hnil
        · rw [hx]; rfl
      · rfl
    rw [hfields]

theorem noFields_misfit {payload : List Byte} (h : payload ≠ []) (reply : Reply) : noFields payload reply = .bare .badLength :=
  if_neg h

theorem onChannel_misfit {payload : List Byte} (h : payload.length ∉ [1]) (reply : Fin 16 → Reply) :
    onChannel payload reply = .bare .badLength := by
  unfold onChannel
  split
  · exact (h (.head _)).elim
  · rfl

/-- A request of a length or a form that its kind does not have is answered BAD_LENGTH by every row that serves its kind. -/
theorem exec_badLength {s : State} {p : Port} {r : QueuedRequest} {kind : Byte} {payload : List Byte} {c : Instr}
    (h : s.Asks p r kind payload) {n : Nat} (hn : kind.toNat = n) (hc : c ∈ rowsOf p n)
    (hbad : payload.length ∉ lengthsOf n ∨ wrongForm n payload) : exec c s = .next (s.refusing p r .badLength) := by
  have hlength := length_of_misfit (n := n) (payload := payload)
  have read {reply : State → List Byte → Reply} (hr : reply s payload = .bare .badLength) :
      Host.Outcome.next (s.serveRead p n reply) = (.next (s.refusing p r .badLength) : Host.Outcome State Fault Refusal) :=
    congrArg _ (h.serveRead_refusing hn hr)
  have served {effect : QueuedRequest → State → State} (he : effect r s = s.answer p r (.bare .badLength)) :
      Host.Outcome.next (s.serve p (·.hasKind n) effect) =
        (.next (s.refusing p r .badLength) : Host.Outcome State Fault Refusal) := congrArg _ (h.serve_refusing hn he)
  have hpayload := h.payload
  have hempty (hl : payload.length ∉ [0]) : payload ≠ [] := fun he => hl (by rw [he]; exact .head _)
  unfold rowsOf at hc
  split at hc
  case h_3 =>
    have hlen := hlength (by decide) (by decide) hbad
    have hrefusal : siteControlRefusal payload = some .badLength := by
      unfold siteControlRefusal
      split
      · exact (hlen (.head _)).elim
      · rfl
    have control (action : Nat) (act : QueuedRequest → State → State) :
        Host.Outcome.next (s.serveControl p action act) =
          (.next (s.refusing p r .badLength) : Host.Outcome State Fault Refusal) :=
      congrArg _ (h.serveControl_refusing hn hrefusal action act)
    simp only [List.mem_cons, List.not_mem_nil, or_false] at hc
    rcases hc with rfl | rfl | rfl | rfl | rfl <;> exact control ..
  case h_17 => cases hc
  all_goals obtain rfl := List.mem_singleton.mp hc
  case h_4 => exact served (by simp only [State.serveConfigSet, hpayload, configArgs_misfit hbad])
  case h_6 => exact served (by simp only [State.serveCalSet, hpayload, calArgs_misfit hbad])
  all_goals have hlen := hlength (by decide) (by decide) hbad
  case h_1 => exact read (noFields_misfit (hempty hlen) _)
  case h_2 =>
    refine served ?_
    rw [hpayload]
    have hvalue : clockValue payload = none := by
      unfold clockValue
      split
      · exact (hlen (.head _)).elim
      · rfl
    rw [hvalue]
  case h_5 =>
    refine read ?_
    unfold configGetReply
    split
    · exact (hlen (.head _)).elim
    · rfl
  case h_7 => exact read (onChannel_misfit hlen _)
  case h_8 => exact read (onChannel_misfit hlen _)
  case h_9 => exact read (noFields_misfit (hempty hlen) _)
  case h_10 =>
    refine read ?_
    unfold trainHeaderReply
    split
    · exact (hlen (.head _)).elim
    · rfl
  case h_11 =>
    refine read ?_
    unfold axlesReadReply
    split
    · exact (hlen (.head _)).elim
    · rfl
  case h_12 =>
    refine read ?_
    unfold vehiclesReadReply
    split
    · exact (hlen (.head _)).elim
    · rfl
  case h_13 =>
    refine served ?_
    unfold State.serveStream
    rw [hpayload]
    split
    · exact (hlen (.head _)).elim
    · rfl
  case h_14 =>
    refine served ?_
    unfold State.serveRelease
    rw [hpayload]
    split
    · exact (hlen (.head _)).elim
    · rfl
  case h_15 =>
    refine served ?_
    unfold State.serveTake
    rw [hpayload]
    split
    · exact (hlen (.head _)).elim
    · rfl
  case h_16 => exact read (noFields_misfit (hempty hlen) _)

/-! ## Ranges (R172, step 3) -/

theorem slotOf_outside {b : Byte} (h : 3 < b.toNat) : slotOf b = none := dif_neg (by omega)

theorem channelOf_outside {b : Byte} (h : 15 < b.toNat) : channelOf b = none := dif_neg (by omega)

theorem Item.ofNumber_outside {n : Nat} (h : n < 1 ∨ 54 < n) : Item.ofNumber n = none := by
  rcases n with _ | n
  · rfl
  · exact List.getElem?_eq_none (show 54 ≤ n by omega)

/-- A record of twenty bytes is read if its form byte is 1 (R75, assumption 6). -/
theorem calFields_record {rest : List Byte} (h : rest.length = 20) (form : Byte) : ∃ c, calFields (form :: rest) =
    if form = 1 then .ok (some c) else if form = 0 then .error .badLength else .error .outOfRange := by
  have hrest : rest = List.ofFn fun i : Fin 20 => rest[i] := by
    refine List.ext_getElem (by rw [List.length_ofFn, h]) fun i _ _ => ?_
    rw [List.getElem_ofFn]
    rfl
  rw [hrest]
  exact ⟨_, rfl⟩

/-- A channel outside 0..15 is refused unless the length or the form is (R172). -/
theorem calArgs_channel {k : Byte} {bs : List Byte} (hk : 15 < k.toNat) (h : calFields bs ≠ .error .badLength) :
    calArgs (k :: bs) = .error .outOfRange := by
  simp only [calArgs, channelOf_outside hk]

theorem calArgs_form (k : Byte) {bs : List Byte} (h : calFields bs = .error .outOfRange) : calArgs (k :: bs) = .error .outOfRange := by
  simp only [calArgs, h]
  cases channelOf k <;> rfl

/-- A CALIBRATION SET that names a channel or a form outside its range (R75, assumption 6). -/
theorem calArgs_outside {k form : Byte} {rest : List Byte} (h : namesOutside 6 (k :: form :: rest)) :
    calArgs (k :: form :: rest) = .error .outOfRange := by
  rcases h with ⟨rfl, rfl, hk⟩ | ⟨rfl, hlen, hk⟩ | ⟨hform, hlen⟩
  · exact calArgs_channel hk (by simp [calFields])
  · obtain ⟨c, hc⟩ := calFields_record hlen 1
    exact calArgs_channel hk (by rw [hc, if_pos rfl]; simp)
  · have h0 : form ≠ 0 := by
      rintro rfl
      cases hform
    have h1 : form ≠ 1 := by
      rintro rfl
      exact absurd hform (by decide)
    refine calArgs_form k ?_
    rcases hlen with rfl | hlen
    · exact (if_neg h0).trans (if_neg h1)
    · obtain ⟨c, hc⟩ := calFields_record hlen form
      rw [hc, if_neg h1, if_neg h0]

/-- A request that names something outside its range is answered OUT_OF_RANGE by every row that serves its kind. -/
theorem exec_outOfRange {s : State} {p : Port} {r : QueuedRequest} {kind : Byte} {payload : List Byte} {c : Instr}
    (h : s.Asks p r kind payload) {n : Nat} (hn : kind.toNat = n) (hc : c ∈ rowsOf p n)
    (hout : namesOutside n payload) : exec c s = .next (s.refusing p r .outOfRange) := by
  have read {reply : State → List Byte → Reply} (hr : reply s payload = .bare .outOfRange) :
      Host.Outcome.next (s.serveRead p n reply) = (.next (s.refusing p r .outOfRange) : Host.Outcome State Fault Refusal) :=
    congrArg _ (h.serveRead_refusing hn hr)
  have served {effect : QueuedRequest → State → State} (he : effect r s = s.answer p r (.bare .outOfRange)) :
      Host.Outcome.next (s.serve p (·.hasKind n) effect) =
        (.next (s.refusing p r .outOfRange) : Host.Outcome State Fault Refusal) := congrArg _ (h.serve_refusing hn he)
  have hpayload := h.payload
  unfold namesOutside at hout
  split at hout
  case h_1 => 
    have control (action : Nat) (act : QueuedRequest → State → State) :
        Host.Outcome.next (s.serveControl p action act) =
          (.next (s.refusing p r .outOfRange) : Host.Outcome State Fault Refusal) :=
      congrArg _ (h.serveControl_refusing hn (if_pos hout) action act)
    simp only [rowsOf, List.mem_cons, List.not_mem_nil, or_false] at hc
    rcases hc with rfl | rfl | rfl | rfl | rfl <;> exact control ..
  case h_14 => exact hout.elim
  all_goals obtain rfl := List.mem_singleton.mp hc
  case h_2 => exact served (by simp only [State.serveConfigSet, hpayload, configArgs, Item.ofNumber_outside hout])
  case h_3 => exact served (by simp only [State.serveConfigSet, hpayload, configArgs, Item.ofNumber_outside hout])
  case h_4 => exact read (by simp only [configGetReply, Item.ofNumber_outside hout])
  case h_5 => exact served (by simp only [State.serveCalSet, hpayload, calArgs_outside hout])
  case h_6 => exact read (by simp only [calGetReply, onChannel, channelOf_outside hout])
  case h_7 => exact read (by simp only [channelStateReply, onChannel, channelOf_outside hout])
  case h_8 => exact read (by simp only [trainHeaderReply, slotOf_outside hout])
  case h_9 =>
    refine read ?_
    unfold axlesReadReply
    rcases hout with hk | hcount
    · simp only [slotOf_outside hk]
    · dsimp only
      split
      · rfl
      · exact if_pos (by simp; omega)
  case h_10 =>
    refine read ?_
    unfold vehiclesReadReply
    rcases hout with hk | hcount
    · simp only [slotOf_outside hk]
    · dsimp only
      split
      · rfl
      · exact if_pos (by simp; omega)
  case h_11 => exact served (by simp only [State.serveStream, hpayload, slotOf_outside hout])
  case h_12 => exact served (by simp only [State.serveRelease, hpayload, slotOf_outside hout])
  case h_13 => exact served (by simp only [State.serveTake, hpayload, if_pos hout])

/-! ## Slots in the wrong state (R160, R162, R174, step 4) -/

theorem State.ofHeld_free {s : State} {k : Fin 4} (hk : s.rps.slots[k] = none) (reply : Report → Reply) :
    s.ofHeld k reply = .bare .wrongState := by
  have hget : s.rps.slots.get k = none := hk
  simp only [State.ofHeld, hget]

/-- A port without a stream has none to interrupt. -/
theorem State.interruptStream_of_none {s : State} {p : Port} (h : (s.mpc.ports.get p).stream = none) : s.interruptStream p = s := by
  have hend : (s.mpc.ports.get p).endStream 1 = s.mpc.ports.get p := by
    unfold PortMachine.endStream
    rw [h]
  rw [State.interruptStream, State.modPort_eq_withPort, hend, State.withPort_self]

/-- A TRAIN STREAM of a slot that cannot be streamed, on a port that runs none (R174). -/
theorem State.serveStream_wrongState {s : State} {p : Port} {r : QueuedRequest} {k : Fin 4}
    (hr : r.payload = [BitVec.ofNat 8 k.val]) (hstream : (s.mpc.ports.get p).stream = none)
    (hk : ∀ h, s.rps.slots[k] = some h → h.st = .filling ∨ h.st = .closing) :
    s.serveStream p r = s.answer p r (.bare .wrongState) := by
  simp only [State.serveStream, hr, slotOf_byte, State.interruptStream_of_none hstream, State.startStream]
  split
  · rfl
  · rename_i h hheld
    rw [if_neg]
    rcases hk h hheld with hst | hst <;> simp [HeldSlot.streamable, hst]

/-- A TRAIN RELEASE of a slot that is not COMPLETE (R160). -/
theorem State.serveRelease_wrongState {s : State} {p : Port} {r : QueuedRequest} {k : Fin 4}
    (hr : r.payload = [BitVec.ofNat 8 k.val]) (hk : ∀ h, s.rps.slots[k] = some h → h.st ≠ .complete) :
    s.serveRelease p r = s.answer p r (.bare .wrongState) := by
  simp only [State.serveRelease, hr, slotOf_byte]
  split
  · rename_i h hheld
    exact if_neg (hk h hheld)
  · rfl

/-- Settles O14: BAD_KIND by its own row; the other refusals by the step of R172 that makes them. -/
theorem refusedRequestsChangeNothing : Obligations.RefusedRequestsChangeNothing := by
  refine ⟨fun p s r kind payload h hkind => ?badKind, fun p s r kind payload c h hc hbad => exec_badLength h rfl hc hbad,
    fun p s r kind payload c h hc hout => exec_outOfRange h rfl hc hout, fun p s r k hi lo n d => ⟨fun hk => ?free, fun h hk => ?held⟩⟩
  case badKind =>
    have hserves : (r.kind.toNat == 0 || decide (16 < r.kind.toNat)) = true := by simpa [h.kind] using hkind
    refine congrArg Host.Outcome.next ((State.serve_eq h.head ..).trans ?_)
    rw [if_pos hserves, h.kind, State.modPort_eq_withPort, PortMachine.reply_eq_answered h.orderly]
    rfl
  case free =>
    have wrong (n : Nat) {reply : State → List Byte → Reply} {kind : Byte} {payload : List Byte} (ha : s.Asks p r kind payload)
        (hn : kind.toNat = n) (hr : reply s payload = .bare .wrongState) :
        Host.Outcome.next (s.serveRead p n reply) = (.next (s.refusing p r .wrongState) : Host.Outcome State Fault Refusal) :=
      congrArg _ (ha.serveRead_refusing hn hr)
    have hnone (P : HeldSlot → Prop) : ∀ h, s.rps.slots[k] = some h → P h := fun h hh => nomatch hk.symm.trans hh
    refine ⟨fun ha => wrong 0x0A ha rfl ?_, fun ha h1 h8 hd => wrong 0x0B ha rfl ?_, fun ha h1 h16 => wrong 0x0C ha rfl ?_,
      fun ha hs => ?_, fun ha => ?_⟩
    · simp only [trainHeaderReply, slotOf_byte, State.ofHeld_free hk]
    · rw [axlesReadReply_eq s k h1 h8 hd, State.ofHeld_free hk]
    · rw [vehiclesReadReply_eq s k h1 h16, State.ofHeld_free hk]
    · exact congrArg Host.Outcome.next (ha.serve_refusing rfl (State.serveStream_wrongState ha.payload hs (hnone _)))
    · exact congrArg Host.Outcome.next (ha.serve_refusing rfl (State.serveRelease_wrongState ha.payload (hnone _)))
  case held =>
    have hthis {P : HeldSlot → Prop} (hP : P h) : ∀ h', s.rps.slots[k] = some h' → P h' :=
      fun h' hh => Option.some.inj (hk.symm.trans hh) ▸ hP
    refine ⟨fun ha hs hst => ?_, fun ha hst => ?_, fun ha h1 h8 hd hlen => ?_, fun ha h1 h16 hlen => ?_⟩
    · exact congrArg Host.Outcome.next (ha.serve_refusing rfl (State.serveStream_wrongState ha.payload hs (hthis hst)))
    · exact congrArg Host.Outcome.next (ha.serve_refusing rfl (State.serveRelease_wrongState ha.payload (hthis hst)))
    · refine congrArg Host.Outcome.next (ha.serveRead_refusing rfl (o := .outOfRange) ?_)
      rw [axlesReadReply_eq s k h1 h8 hd, State.ofHeld_held hk]
      exact if_pos hlen
    · refine congrArg Host.Outcome.next (ha.serveRead_refusing rfl (o := .outOfRange) ?_)
      rw [vehiclesReadReply_eq s k h1 h16, State.ofHeld_held hk]
      exact if_pos hlen

end Sys2Proof.Machine
end

section
/-! SUPPORT. Refutations of CapturesCloseAndAreStored and LinkTimersExpire. Both say that a record stored at the far crib leaves a
request under its own lane (`State.Requested`). No hypothesis of theirs keeps a request of another lane out of that lane: the
record's request is merged into such a one (R98), whose grant is an evaluation of the other lane. -/

namespace Sys2Proof.Machine

/-! ## A capture stored beside a mislaid request -/

/-- An open capture of axle 0 of `leavingTrain` beyond Lmin, one low sample short of Nclose. -/
def mislaidCapture : Capture :=
  { slot := 0, axle := some 0, move := some .forward, dir := .east, speed := 10000, staleAtOpen := false, defaultAtOpen := false
    distance := 2000000, peak := 1000, plateauSum := 1000, plateauCount := 1, lowCount := 2, gapCount := 0, gapped := false
    saturated := false, reversed := false }

/-- The passage of `leavingTrain`, that capture open on channel 7, the far crib of the east, whose node is PRESENT; in lane A
waits a request for the capture's axle that bears lane B. -/
def mislaidStore : State := { mislaidPassage with
  nodes := mislaidPassage.nodes.set 1 { mislaidPassage.nodes[1] with status := .present, prev := none, lossTimer := some 100000 }
  units := mislaidPassage.units.set 7 { mislaidPassage.units[7] with capture := some mislaidCapture }
  evu := { Evu.reset with
    lanes := { Evu.reset.lanes with a := [{ lane := .b, slot := 0, number := 1, target := 0, urgent := false }] } } }

/-- A state that does not hold a request of lane A: lane A is empty, and no evaluation is of it. -/
def State.laneAClear (u : State) : Bool :=
  u.evu.lanes.a.isEmpty && u.evu.evals.toList.all fun e => e.all fun ev => ev.req.lane != .a

/-- What the record of `mislaidCapture` is to leave is refuted by a state clear of lane A. -/
theorem mislaidStore_not_stores {u : State} {c : Capture} {truncated lost : Bool} {noise : Prop} (hclear : u.laneAClear = true)
    (hslot : c.slot = 0) (haxle : c.axle = some 0) (hdir : c.dir = .east) (hnoise : ¬noise) :
    ¬mislaidStore.Stores u leavingTrain 7 c truncated lost noise := by
  intro hstores
  have hheld : mislaidStore.rps.slots[c.slot] = some leavingFilling := by
    simp only [hslot]
    rfl
  obtain ⟨-, -, hreq⟩ := hstores 0 haxle (by rw [hdir]; decide) hnoise (by decide) leavingFilling hheld rfl rfl (by decide)
  obtain ⟨hlane, hevals⟩ := Bool.and_eq_true_iff.mp hclear
  exact State.not_requested (u := u) (l := .a) (List.isEmpty_iff.mp hlane) hevals (hreq (by rw [hdir]; rfl) (by decide))

/-! ## The capture closed by a low sample -/

/-- A frame of node 1 whose four samples stand at the rest count, its check right. -/
def restFrame : GaugeFrame :=
  let f : GaugeFrame := { node := 1, seq := 0, overRange := .replicate 4 false, samples := .replicate 4 0, check := 0 }
  { f with check := crc (gaugeFrameBytes f) }

theorem restFrame_good : goodGaugeFrame 1 (.frame restFrame) = some restFrame := by
  have hgood : gaugeFrameGood 1 restFrame = true := by decide +kernel
  simp only [goodGaugeFrame, hgood, if_true]

/-- The frame's low sample closes the capture; lane A is left clear. -/
theorem mislaidStore_frame : (match exec (.gaugeFrame 1 50000 (.frame restFrame)) mislaidStore with
    | .next u => u.laneAClear
    | _ => false) = true := by
  decide +kernel

/-- Refutes O44: the request of the record stored is merged into the mislaid one, whose grant is an evaluation of lane B. -/
theorem not_capturesCloseAndAreStored : ¬ Obligations.CapturesCloseAndAreStored := by
  intro h
  obtain ⟨u, hu, hnormal, -⟩ := h 1 3 50000 (.frame restFrame) restFrame mislaidStore leavingTrain mislaidCapture rfl rfl
    (by decide) restFrame_good (.inl ⟨rfl, .inl rfl⟩) rfl
  obtain ⟨-, -, hstores⟩ := hnormal (by decide)
  have hclear := mislaidStore_frame
  rw [hu] at hclear
  exact mislaidStore_not_stores hclear rfl rfl rfl (by decide) hstores

/-! ## The capture closed by its node's loss -/

/-- The node's loss closes the capture; lane A is left clear. -/
theorem mislaidStore_loss : (match exec (.gaugeLossTimerExpiry 1) mislaidStore with
    | .next u => u.laneAClear
    | _ => false) = true := by
  decide +kernel

/-- Refutes O46: the request of the record that the loss stores is merged into the mislaid one, whose grant is an evaluation of
lane B. -/
theorem not_linkTimersExpire : ¬ Obligations.LinkTimersExpire := by
  intro h
  obtain ⟨hloss, -⟩ := h mislaidStore
  obtain ⟨u, hu, -, -, -, -, hcaptures, -⟩ := hloss 1 100000 rfl (.inr rfl)
  obtain ⟨-, hstores, -⟩ := hcaptures leavingTrain rfl 7 mislaidCapture rfl rfl
  have hclear := mislaidStore_loss
  rw [hu] at hclear
  exact mislaidStore_not_stores hclear rfl rfl rfl not_false hstores

end Sys2Proof.Machine
end

section
/-! SUPPORT. GaugeFrameMovesItsNode: the sequence check, what an accepted frame does to its node, and the row GAUGE_FRAME case by
case (R60 to R66). -/

namespace Sys2Proof.Machine

theorem ms_eq (n : Nat) : ms n = 1000 * n := Nat.mul_comm ..

/-! ## The sequence check (R62) -/

theorem checkSeq_duplicate (q : Byte) : checkSeq (some q) q = .duplicate := by
  have hne : q ≠ q + 1 := by bv_omega
  simp only [checkSeq, if_neg hne, if_true]

theorem checkSeq_next (q : Byte) : checkSeq (some (q - 1)) q = .accepted := by
  have hnext : q = q - 1 + 1 := by bv_omega
  simp only [checkSeq, ← hnext, if_true]

theorem checkSeq_jump {q seq : Byte} (hdup : seq ≠ q) (hnext : seq ≠ q + 1) :
    checkSeq (some q) seq = .jump (seq - q - 1).toNat := by
  simp only [checkSeq, if_neg hdup, if_neg hnext]

/-! ## What a frame does to its node (R61 to R66) -/

/-- The missing count of a node once a frame of sequence `seq`, not a duplicate, is accepted. -/
def GaugeNode.missingAfter (seq : Byte) (n : GaugeNode) : Nat :=
  match n.prev with
  | none => n.missing
  | some q => if seq = q + 1 then n.missing else min (n.missing + (seq - q - 1).toNat) 65535

/-- The node once a frame of sequence `seq`, not a duplicate, is accepted and its loss timer runs to `loss`. -/
def GaugeNode.accepting (seq : Byte) (loss : Nat) (n : GaugeNode) : GaugeNode :=
  { n with prev := some seq, lossTimer := some loss, missing := n.missingAfter seq }

theorem GaugeNode.settleFrame_eq : GaugeNode.settleFrame = fun n =>
    { n with settle := n.settle - 1, status := if n.settle ≤ 1 then .present else .settling } := by
  funext n
  simp only [GaugeNode.settleFrame, Nat.sub_eq_zero_iff_le]

theorem State.modNode_congr {s : State} {g : Fin 4} {f f' : GaugeNode → GaugeNode} (h : f s.nodes[g] = f' s.nodes[g]) :
    s.modNode g f = s.modNode g f' := by
  simp only [State.modNode, vupd, h]

/-- A good frame that is not a duplicate passes the sequence check, as next in sequence or as a jump; either way its node accepts
it (R62). -/
theorem State.acceptsSeq {s : State} {g : Fin 4} {f : GaugeFrame} (h : s.nodes[g].prev ≠ some f.seq) :
    (checkSeq s.nodes[g].prev f.seq = .accepted
      ∧ s.acceptGaugeSeq g f = s.modNode g (GaugeNode.accepting f.seq (s.now + ms (s.cfg .tlost))))
    ∨ ∃ missing, checkSeq s.nodes[g].prev f.seq = .jump missing
      ∧ (s.gaugeMissing g missing).acceptGaugeSeq g f
        = s.modNode g (GaugeNode.accepting f.seq (s.now + ms (s.cfg .tlost))) := by
  have hinOrder (hm : s.nodes[g].missingAfter f.seq = s.nodes[g].missing) :
      s.acceptGaugeSeq g f = s.modNode g (GaugeNode.accepting f.seq (s.now + ms (s.cfg .tlost))) :=
    State.modNode_congr (by simp only [GaugeNode.accepting, hm])
  cases hprev : s.nodes[g].prev with
  | none => exact .inl ⟨rfl, hinOrder (by simp only [GaugeNode.missingAfter, hprev])⟩
  | some q =>
    rw [hprev] at h
    by_cases hnext : f.seq = q + 1
    · exact .inl ⟨if_pos hnext, hinOrder (by simp only [GaugeNode.missingAfter, hprev, if_pos hnext])⟩
    · refine .inr ⟨_, checkSeq_jump (fun he => h (congrArg some he.symm)) hnext, ?_⟩
      refine (State.modNode_modNode ..).trans (State.modNode_congr ?_)
      simp only [GaugeNode.accepting, GaugeNode.missingAfter, hprev, if_neg hnext]
      rfl

theorem State.settlingFrame_accepted {s : State} {g : Fin 4} {f : GaugeFrame} (h : s.nodes[g].prev ≠ some f.seq) :
    s.settlingFrame g f
      = (s.modNode g (GaugeNode.accepting f.seq (s.now + ms (s.cfg .tlost)))).modNode g GaugeNode.settleFrame := by
  rcases State.acceptsSeq h with ⟨hcheck, he⟩ | ⟨missing, hcheck, he⟩
  · simp only [State.settlingFrame, hcheck, he]
  · simp only [State.settlingFrame, hcheck, he]

theorem State.presentFrame_nodes {s : State} {g : Fin 4} {f : GaugeFrame} (h : s.nodes[g].prev ≠ some f.seq) :
    (s.presentFrame g f).nodes = (s.modNode g (GaugeNode.accepting f.seq (s.now + ms (s.cfg .tlost)))).nodes := by
  rcases State.acceptsSeq h with ⟨hcheck, he⟩ | ⟨missing, hcheck, he⟩
  · simp only [State.presentFrame, hcheck, he, State.deliver_frame]
  · simp only [State.presentFrame, hcheck, he, State.deliver_frame, State.gaugeGap_frame]

theorem State.settlingFrame_duplicate {s : State} {g : Fin 4} {f : GaugeFrame} (h : s.nodes[g].prev = some f.seq) :
    s.settlingFrame g f = s.gaugeDuplicate g := by
  simp only [State.settlingFrame, h, checkSeq_duplicate]

theorem State.presentFrame_duplicate {s : State} {g : Fin 4} {f : GaugeFrame} (h : s.nodes[g].prev = some f.seq) :
    s.presentFrame g f = s.gaugeDuplicate g := by
  simp only [State.presentFrame, h, checkSeq_duplicate]

theorem State.acceptGaugeSeq_settle (g : Fin 4) (f : GaugeFrame) (s : State) :
    ((s.acceptGaugeSeq g f).nodes[g]).settle = s.nodes[g].settle := by
  rw [State.acceptGaugeSeq, State.modNode_nodes, vupd_get_self]

theorem State.resyncFrame_discard {s : State} {g : Fin 4} {f : GaugeFrame} (h : 1 ≤ s.nodes[g].settle) :
    s.resyncFrame g f = (s.acceptGaugeSeq g f).modNode g GaugeNode.settleFrame := by
  rw [← State.acceptGaugeSeq_settle g f] at h
  exact if_pos h

theorem State.resyncFrame_back {s : State} {g : Fin 4} {f : GaugeFrame} (h : s.nodes[g].settle = 0) :
    s.resyncFrame g f = ((s.acceptGaugeSeq g f).modNode g fun n => { n with status := .present }).deliver g f := by
  rw [← State.acceptGaugeSeq_settle g f] at h
  exact if_neg (Nat.not_lt_of_le (Nat.le_of_eq h))

/-! ## The row GAUGE_FRAME -/

/-- The state after a GAUGE_FRAME (R60, R61). -/
def State.afterGaugeFrame (g : Fin 4) (t : Nat) (a : GaugeArrival) (s : State) : State :=
  match s.nodes[g].status, goodGaugeFrame g a with
  | .off, _ => s.advance t
  | _, none => (s.advance t).badGaugeFrame g
  | .settling, some f => (s.advance t).settlingFrame g f
  | .present, some f => (s.advance t).presentFrame g f
  | .lost, some f => (s.advance t).resyncFrame g f

theorem exec_gaugeFrame (g : Fin 4) (t : Nat) (a : GaugeArrival) (s : State) :
    exec (.gaugeFrame g t a) s = .next (s.afterGaugeFrame g t a) := by rfl

section
variable {g : Fin 4} {t : Nat} {a : GaugeArrival} {f : GaugeFrame} {s : State}

theorem State.afterGaugeFrame_off (h : s.nodes[g].status = .off) : s.afterGaugeFrame g t a = s.advance t := by
  simp only [State.afterGaugeFrame, h]

theorem State.afterGaugeFrame_bad (h : s.nodes[g].status ≠ .off) (hbad : goodGaugeFrame g a = none) :
    s.afterGaugeFrame g t a = (s.advance t).badGaugeFrame g := by
  cases hst : s.nodes[g].status with
  | off => exact absurd hst h
  | settling | present | lost => simp only [State.afterGaugeFrame, hst, hbad]

theorem State.afterGaugeFrame_settling (h : s.nodes[g].status = .settling) (hgood : goodGaugeFrame g a = some f) :
    s.afterGaugeFrame g t a = (s.advance t).settlingFrame g f := by
  simp only [State.afterGaugeFrame, h, hgood]

theorem State.afterGaugeFrame_present (h : s.nodes[g].status = .present) (hgood : goodGaugeFrame g a = some f) :
    s.afterGaugeFrame g t a = (s.advance t).presentFrame g f := by
  simp only [State.afterGaugeFrame, h, hgood]

theorem State.afterGaugeFrame_lost (h : s.nodes[g].status = .lost) (hgood : goodGaugeFrame g a = some f) :
    s.afterGaugeFrame g t a = (s.advance t).resyncFrame g f := by
  simp only [State.afterGaugeFrame, h, hgood]

theorem State.afterGaugeFrame_duplicate (h : s.nodes[g].status = .settling ∨ s.nodes[g].status = .present)
    (hgood : goodGaugeFrame g a = some f) (hprev : s.nodes[g].prev = some f.seq) :
    s.afterGaugeFrame g t a = (s.advance t).gaugeDuplicate g := by
  rcases h with h | h
  · exact (State.afterGaugeFrame_settling h hgood).trans (State.settlingFrame_duplicate (s := s.advance t) hprev)
  · exact (State.afterGaugeFrame_present h hgood).trans (State.presentFrame_duplicate (s := s.advance t) hprev)

end

/-- A GAUGE_FRAME moves the time and leaves all but the gauge side, the captures, the engine and the store. -/
theorem State.afterGaugeFrame_frame (g : Fin 4) (t : Nat) (a : GaugeArrival) (s : State) :
    (s.afterGaugeFrame g t a).now = max s.now t ∧ (s.afterGaugeFrame g t a).ssq = s.ssq ∧ (s.afterGaugeFrame g t a).axt = s.axt
    ∧ (s.afterGaugeFrame g t a).vsg = s.vsg ∧ (s.afterGaugeFrame g t a).tsu = s.tsu ∧ (s.afterGaugeFrame g t a).atq = s.atq
    ∧ (s.afterGaugeFrame g t a).mpc = s.mpc := by
  unfold State.afterGaugeFrame
  split <;> simp

/-- A frame is good exactly where it arrives complete with the link's node number and the check value of its other fields
(R60). -/
theorem goodGaugeFrame_iff (g : Fin 4) (a : GaugeArrival) (f : GaugeFrame) :
    goodGaugeFrame g a = some f ↔ a = .frame f ∧ f.node.toNat = g.val ∧ f.check = crc (gaugeFrameBytes f) := by
  cases a with
  | incomplete => exact ⟨nofun, fun h => nomatch h.1⟩
  | frame f' =>
    simp only [goodGaugeFrame, gaugeFrameGood, Bool.and_eq_true, beq_iff_eq, Option.ite_none_right_eq_some, Option.some.injEq,
      GaugeArrival.frame.injEq]
    constructor
    · rintro ⟨⟨hcheck, hnode⟩, rfl⟩
      exact ⟨rfl, hnode, hcheck⟩
    · rintro ⟨rfl, hnode, hcheck⟩
      exact ⟨⟨hcheck, hnode⟩, rfl⟩

theorem Vector.toList_four {α : Type} (v : Vector α 4) : v.toList = [v[0], v[1], v[2], v[3]] := by
  obtain ⟨⟨l⟩, hl⟩ := v
  obtain ⟨a, b, c, d, rfl⟩ := List.length_eq_four.mp hl
  rfl

theorem gaugeFrameBytes_eq (f : GaugeFrame) : gaugeFrameBytes f = [f.node, f.seq]
    ++ u8 ((if f.overRange[0] = true then 1 else 0) + (if f.overRange[1] = true then 2 else 0)
      + (if f.overRange[2] = true then 4 else 0) + (if f.overRange[3] = true then 8 else 0))
    ++ i32 (f.samples[0]).toInt ++ i32 (f.samples[1]).toInt ++ i32 (f.samples[2]).toInt ++ i32 (f.samples[3]).toInt := by
  simp only [gaugeFrameBytes, Vector.toList_four, flagBits_four, List.flatMap_cons, List.flatMap_nil, List.append_nil,
    List.append_assoc]

/-- Settles O41, by the status of the node and the sequence check. -/
theorem gaugeFrameMovesItsNode : Obligations.GaugeFrameMovesItsNode := by
  unfold Obligations.GaugeFrameMovesItsNode
  refine ⟨fun g t a s => ?node, fun g a f => ?good⟩
  case good => rw [goodGaugeFrame_iff, gaugeFrameBytes_eq]
  case node =>
    refine ⟨_, exec_gaugeFrame g t a s, State.afterGaugeFrame_off, fun hon hbad => ?bad, fun f hf hst hprev => ?duplicate,
      fun f hf hprev => ⟨fun hst => ?settling, fun hst => ?present⟩,
      fun f hf hst => ⟨fun hsettle => ?discard, fun hsettle => ?back⟩,
      State.afterGaugeFrame_frame g t a s⟩
    case bad => exact State.afterGaugeFrame_bad hon hbad
    case duplicate =>
      rw [State.afterGaugeFrame_duplicate hst hf hprev, State.gaugeDuplicate, ms_eq]
      rfl
    case settling =>
      refine (State.afterGaugeFrame_settling hst hf).trans ((State.settlingFrame_accepted (s := s.advance t) hprev).trans ?_)
      rw [State.modNode_modNode, ms_eq, GaugeNode.settleFrame_eq]
      rfl
    case present =>
      rw [State.afterGaugeFrame_present hst hf, State.presentFrame_nodes (s := s.advance t) hprev, ms_eq]
      rfl
    case discard =>
      refine (State.afterGaugeFrame_lost hst hf).trans ((State.resyncFrame_discard (s := s.advance t) hsettle).trans ?_)
      rw [State.acceptGaugeSeq, State.modNode_modNode, ms_eq, GaugeNode.settleFrame_eq]
      rfl
    case back =>
      rw [State.afterGaugeFrame_lost hst hf, State.resyncFrame_back (s := s.advance t) hsettle, (State.deliver_frame ..).2.2.2.2.1,
        State.acceptGaugeSeq, State.modNode_modNode, ms_eq]
      rfl

end Sys2Proof.Machine
end

section
/-! SUPPORT. What one frame does to one channel: the delivery reaches each channel of the node by its own sample alone, so the unit
and the channel after the frame are those of one `State.channelSample`. -/

namespace Sys2Proof.Machine

/-! ## A delivered frame (R62, R65) -/

/-- The state in which the samples of a frame of sequence `q` are delivered: the node PRESENT and in step. -/
def State.taking (g : Fin 4) (t : Nat) (q : Byte) (s : State) : State :=
  { s with
    now := max s.now t
    nodes := s.nodes.set g { s.nodes[g] with
      status := .present, prev := some q, lossTimer := some (max s.now t + 1000 * s.cfg .tlost) } }

theorem GaugeNode.Delivers.cases {n : GaugeNode} {q : Byte} (h : n.Delivers q) :
    (n.status = .present ∧ checkSeq n.prev q = .accepted) ∨ (n.status = .lost ∧ n.settle = 0) := by
  rcases h with ⟨hst, hprev | hprev⟩ | h
  · exact .inl ⟨hst, by rw [hprev]; rfl⟩
  · exact .inl ⟨hst, by rw [hprev, checkSeq_next]⟩
  · exact .inr h

theorem State.afterGaugeFrame_delivers {g : Fin 4} {t : Nat} {a : GaugeArrival} {f : GaugeFrame} {s : State}
    (hgood : goodGaugeFrame g a = some f) (hd : (s.nodes[g]).Delivers f.seq) :
    s.afterGaugeFrame g t a = (s.taking g t f.seq).deliver g f := by
  rcases hd.cases with ⟨hst, hcheck⟩ | ⟨hst, hsettle⟩
  · have hcheck' : checkSeq (s.advance t).nodes[g].prev f.seq = .accepted := hcheck
    rw [State.afterGaugeFrame_present hst hgood, State.presentFrame, hcheck', State.acceptGaugeSeq, ms_eq, State.taking, ← hst]
    rfl
  · rw [State.afterGaugeFrame_lost hst hgood, State.resyncFrame_back (s := s.advance t) hsettle, State.acceptGaugeSeq,
      State.modNode_modNode, ms_eq]
    rfl

/-! ## One channel among the sixteen -/

/-- Time, site, train and configuration of two states are the same, and so are unit and channel `k`. -/
structure State.SameAt (k : Fin 16) (s u : State) : Prop where
  now     : u.now = s.now
  ssq     : u.ssq = s.ssq
  axt     : u.axt = s.axt
  mpc     : u.mpc = s.mpc
  unit    : u.units[k] = s.units[k]
  channel : u.channels[k] = s.channels[k]

theorem State.SameAt.refl (k : Fin 16) (s : State) : s.SameAt k s := ⟨rfl, rfl, rfl, rfl, rfl, rfl⟩

theorem State.SameAt.trans {k : Fin 16} {s u v : State} (h : s.SameAt k u) (h' : u.SameAt k v) : s.SameAt k v :=
  ⟨h'.now.trans h.now, h'.ssq.trans h.ssq, h'.axt.trans h.axt, h'.mpc.trans h.mpc, h'.unit.trans h.unit,
    h'.channel.trans h.channel⟩

theorem State.SameAt.cfg {k : Fin 16} {s u : State} (h : s.SameAt k u) : u.cfg = s.cfg :=
  State.cfg_congr (congrArg Mpc.active h.mpc)

theorem State.SameAt.stale {k : Fin 16} {s u : State} (h : s.SameAt k u) : u.stale k = s.stale k := by
  rw [State.stale, State.stale, State.baselineAge, State.baselineAge, h.channel, h.now, h.cfg]

section
variable {i k : Fin 16}

theorem State.SameAt.modUnit (h : i ≠ k) (f : CaptureUnit → CaptureUnit) (s : State) : s.SameAt i (s.modUnit k f) :=
  ⟨rfl, rfl, rfl, rfl, vupd_get_ne _ h f, rfl⟩

theorem State.SameAt.modChannel (h : i ≠ k) (f : Channel → Channel) (s : State) : s.SameAt i (s.modChannel k f) :=
  ⟨rfl, rfl, rfl, rfl, rfl, vupd_get_ne _ h f⟩

theorem State.SameAt.openCapture (h : i ≠ k) (t : OpenTrain) (y : Nat) (ovr : Bool) (s : State) :
    s.SameAt i (s.openCapture t k y ovr) := modUnit h ..

theorem State.SameAt.disposeCapture (h : i ≠ k) (t : OpenTrain) (kind : CloseKind) (c : Capture) (s : State) :
    s.SameAt i (s.disposeCapture t k kind c) := by
  have hunit : (s.disposeCapture t k kind c).units[i] = s.units[i] := by
    rcases s.disposeCapture_units t k kind c with he | ⟨f, -, -, he⟩
    · rw [he]
    · rw [he, vupd_get_ne _ h]
  exact ⟨by simp, by simp, by simp, by simp, hunit, by simp⟩

theorem State.SameAt.closeCapture (h : i ≠ k) (t : OpenTrain) (kind : CloseKind) (c : Capture) (s : State) :
    s.SameAt i (s.closeCapture t k kind c) :=
  ((modUnit h ..).trans (modChannel h ..)).trans (disposeCapture h ..)

theorem State.SameAt.followCapture (h : i ≠ k) (t : OpenTrain) (y : Nat) (ovr : Bool) (c : Capture) (s : State) :
    s.SameAt i (s.followCapture t k y ovr c) := by
  unfold State.followCapture
  dsimp only
  split
  · exact closeCapture h ..
  · split
    · split
      · exact (closeCapture h ..).trans (openCapture h ..)
      · exact closeCapture h ..
    · exact modUnit h ..

theorem State.SameAt.captureSample (h : i ≠ k) (y : Nat) (ovr : Bool) (s : State) : s.SameAt i (s.captureSample k y ovr) := by
  unfold State.captureSample
  split
  · exact refl ..
  · split
    · exact refl ..
    · split
      · split
        · exact openCapture h ..
        · exact refl ..
      · split
        · exact followCapture h ..
        · exact modUnit h ..

theorem State.SameAt.trackBaseline (h : i ≠ k) (x : Int) (ovr : Bool) (s : State) : s.SameAt i (s.trackBaseline k x ovr) := by
  unfold State.trackBaseline
  split
  · exact modChannel h ..
  · exact refl ..

theorem State.SameAt.channelSample (h : i ≠ k) (x : Int) (ovr : Bool) (s : State) : s.SameAt i (s.channelSample k x ovr) :=
  (captureSample h ..).trans (trackBaseline h ..)

end

/-- The samples of other channels leave a channel as it is. -/
theorem State.SameAt.samples {i : Fin 16} (f : GaugeFrame) (ks : List (Fin 4 × Fin 16)) (h : ∀ p ∈ ks, i ≠ p.2) (s : State) :
    s.SameAt i (ks.foldl (fun s j => s.channelSample j.2 f.samples[j.1].toInt f.overRange[j.1]) s) :=
  List.foldlRecOn (motive := s.SameAt i) ks _ (refl i s) fun _ hu p hp => hu.trans (channelSample (h p hp) ..)

theorem State.SameAt.deliver {i : Fin 16} {g : Fin 4} (h : i.val / 4 ≠ g.val) (f : GaugeFrame) (s : State) :
    s.SameAt i (s.deliver g f) :=
  samples f _ (by revert h; decide +revert) s

theorem nodeChannels_split (g j : Fin 4) :
    nodeChannels g = (nodeChannels g).take j.val ++ (j, nodeChannel g j) :: (nodeChannels g).drop (j.val + 1)
    ∧ (∀ p ∈ (nodeChannels g).take j.val, nodeChannel g j ≠ p.2)
    ∧ ∀ p ∈ (nodeChannels g).drop (j.val + 1), nodeChannel g j ≠ p.2 := by
  decide +revert

/-- A channel meets of a delivery its own sample alone. -/
theorem State.deliver_channel (g j : Fin 4) (f : GaugeFrame) (s : State) :
    ∃ v, s.SameAt (nodeChannel g j) v
      ∧ (v.channelSample (nodeChannel g j) f.samples[j].toInt f.overRange[j]).SameAt (nodeChannel g j) (s.deliver g f) := by
  obtain ⟨hsplit, hbefore, hafter⟩ := nodeChannels_split g j
  have hdeliver := congrArg (List.foldl (fun s j => s.channelSample j.2 f.samples[j.1].toInt f.overRange[j.1]) s) hsplit
  rw [List.foldl_append, List.foldl_cons] at hdeliver
  refine ⟨_, .samples f _ hbefore s, ?_⟩
  rw [State.deliver, hdeliver]
  exact .samples f _ hafter _

/-- GAUGE_FRAME at a node that delivers it, as one channel of the node sees it. -/
theorem exec_gaugeFrame_channel {g : Fin 4} {a : GaugeArrival} {f : GaugeFrame} {s : State} (t : Nat) (j : Fin 4)
    (hgood : goodGaugeFrame g a = some f) (hd : (s.nodes[g]).Delivers f.seq) :
    ∃ u v, exec (.gaugeFrame g t a) s = .next u ∧ (s.advance t).SameAt (nodeChannel g j) v
      ∧ (v.channelSample (nodeChannel g j) f.samples[j].toInt f.overRange[j]).SameAt (nodeChannel g j) u
      ∧ ∀ i : Fin 16, i.val / 4 ≠ g.val → (s.advance t).SameAt i u := by
  have htaking (i : Fin 16) : (s.advance t).SameAt i (s.taking g t f.seq) := ⟨rfl, rfl, rfl, rfl, rfl, rfl⟩
  obtain ⟨v, hbefore, hafter⟩ := (s.taking g t f.seq).deliver_channel g j f
  refine ⟨_, v, exec_gaugeFrame g t a s, (htaking _).trans hbefore, ?_, fun i hi => ?_⟩
  · rw [State.afterGaugeFrame_delivers hgood hd]
    exact hafter
  · rw [State.afterGaugeFrame_delivers hgood hd]
    exact (htaking i).trans (.deliver hi ..)

end Sys2Proof.Machine
end

section
/-! SUPPORT. CapturesOpenAndFollow: a sample at its capture unit (R80 to R85), and a jump as a gap (R63). -/

namespace Sys2Proof.Machine

/-! ## A sample at its capture unit (R80) -/

theorem State.channelSample_units (k : Fin 16) (x : Int) (ovr : Bool) (s : State) :
    (s.channelSample k x ovr).units = (s.captureSample k (s.channels[k].convert x ovr) ovr).units := by
  simp only [State.channelSample, State.trackBaseline_frame]

section
variable {s : State} {t : OpenTrain} {k : Fin 16} {y : Nat} {ovr : Bool} {c : Capture}

theorem State.captureSample_below (hsite : s.ssq.site = .passage) (ht : s.axt.train = some t)
    (hc : s.units[k].capture = none) (hy : y < s.cfg .ton) : s.captureSample k y ovr = s := by
  simp only [State.captureSample, ht, hsite, hc, ne_eq, not_true_eq_false, if_false, if_neg (Nat.not_le_of_lt hy)]

theorem State.captureSample_opens (hsite : s.ssq.site = .passage) (ht : s.axt.train = some t)
    (hc : s.units[k].capture = none) (hy : s.cfg .ton ≤ y) : s.captureSample k y ovr = s.openCapture t k y ovr := by
  simp only [State.captureSample, ht, hsite, hc, ne_eq, not_true_eq_false, if_false, if_pos hy]

theorem State.captureSample_follows (hsite : s.ssq.site = .passage) (ht : s.axt.train = some t)
    (hc : s.units[k].capture = some c) (hm : t.motion ≠ .halted) :
    s.captureSample k y ovr = s.followCapture t k y ovr c := by
  simp only [State.captureSample, ht, hsite, hc, ne_eq, not_true_eq_false, if_false, OpenTrain.moving_eq, hm, not_false_eq_true,
    decide_true, if_true]

theorem State.captureSample_suspended (hsite : s.ssq.site = .passage) (ht : s.axt.train = some t)
    (hc : s.units[k].capture = some c) (hm : t.motion = .halted) :
    s.captureSample k y ovr = s.suspendedSample k ovr c := by
  simp only [State.captureSample, ht, hsite, hc, ne_eq, not_true_eq_false, if_false, OpenTrain.moving_eq, hm, decide_false,
    Bool.false_eq_true]

end

/-- The fields of a new capture by the motion and the motion taken (R81). -/
theorem newCapture_eq (t : OpenTrain) (r : Option Nat × Nat × Option Move) (stale defaultCal : Bool) (y : Nat) (ovr : Bool) :
    newCapture t r stale defaultCal y ovr =
      { slot := t.slot, axle := r.1, move := r.2.2
        dir := if t.motionTaken = .forward then t.d0 else match t.d0 with | .east => .west | .west => .east
        speed := t.speed, staleAtOpen := stale, defaultAtOpen := defaultCal, distance := 0
        peak := if t.motion ≠ .halted then y else 0
        plateauSum := 0, plateauCount := 0, lowCount := 0, gapCount := 0, gapped := false, saturated := ovr
        reversed := false } := by
  have hdir : t.d0.along t.motionTaken
      = if t.motionTaken = .forward then t.d0 else match t.d0 with | .east => .west | .west => .east := by
    cases t.motionTaken with
    | forward => rfl
    | reverse => rfl
  rw [newCapture, hdir, OpenTrain.moving_eq]
  simp only [decide_eq_true_eq]

theorem applyPointer_forward {taken : RelDir} {pointer n : Nat} (h : taken = .forward ∧ pointer < n) :
    applyPointer taken pointer n = (some pointer, pointer + 1, some .forward) := by
  obtain ⟨rfl, hlt⟩ := h
  exact if_pos hlt

theorem applyPointer_reverse {taken : RelDir} {pointer n : Nat} (h : taken = .reverse ∧ 0 < pointer) :
    applyPointer taken pointer n = (some (pointer - 1), pointer - 1, some .reverse) := by
  obtain ⟨rfl, hlt⟩ := h
  exact if_pos hlt

/-- Beyond either end of the train the pointer stays and names no axle (R82). -/
theorem applyPointer_orphan {taken : RelDir} {pointer n : Nat} (hf : ¬(taken = .forward ∧ pointer < n))
    (hr : ¬(taken = .reverse ∧ 0 < pointer)) : applyPointer taken pointer n = (none, pointer, none) := by
  cases taken with
  | forward => exact if_neg fun h => hf ⟨rfl, h⟩
  | reverse => exact if_neg fun h => hr ⟨rfl, h⟩

/-- An opening attributes its capture and moves the pointer by the motion taken (R81, R82). -/
theorem State.openCapture_unit (t : OpenTrain) (k : Fin 16) (y : Nat) (ovr : Bool) (s : State) :
    (s.openCapture t k y ovr).units[k] = (s.units[k]).opened t (s.stale k) (!s.channels[k].cal.isSet) y ovr := by
  simp only [State.openCapture, State.modUnit_units, vupd_get_self, newCapture_eq]
  by_cases hf : t.motionTaken = .forward ∧ s.units[k].pointer < t.n
  · refine Eq.trans ?_ (if_pos hf).symm
    rw [applyPointer_forward hf]
    rfl
  · refine Eq.trans ?_ (if_neg hf).symm
    by_cases hr : t.motionTaken = .reverse ∧ 0 < s.units[k].pointer
    · refine Eq.trans ?_ (if_pos hr).symm
      rw [applyPointer_reverse hr]
      rfl
    · refine Eq.trans ?_ (if_neg hr).symm
      rw [applyPointer_orphan hf hr]
      rfl

/-- A used sample of R83: distance, peak, SATURATED, plateau and low count. -/
theorem State.useSample_eq (s : State) (speed y : Nat) (ovr : Bool) (c : Capture) : s.useSample speed y ovr c = { c with
    distance := c.distance + speed
    peak := max c.peak y
    saturated := c.saturated || ovr
    plateauSum := if s.cfg .pstart * 10000 ≤ c.distance + speed ∧ c.distance + speed < s.cfg .pend * 10000 ∧ ovr = false
      then c.plateauSum + y else c.plateauSum
    plateauCount := if s.cfg .pstart * 10000 ≤ c.distance + speed ∧ c.distance + speed < s.cfg .pend * 10000 ∧ ovr = false
      then c.plateauCount + 1 else c.plateauCount
    lowCount := if y < s.cfg .toff then c.lowCount + 1 else 0 } := by
  simp only [State.useSample, State.inPlateau, Bool.and_eq_true, decide_eq_true_eq, Bool.not_eq_true', and_assoc]

theorem State.followCapture_open {s : State} {t : OpenTrain} {k : Fin 16} {y : Nat} {ovr : Bool} {c : Capture}
    (hlow : (s.useSample t.speed y ovr c).lowCount < s.cfg .nclose) (hlen : c.distance + t.speed < s.cfg .lmax * 10000) :
    (s.followCapture t k y ovr c).units[k] = { s.units[k] with capture := some (s.useSample t.speed y ovr c) } := by
  have hlen' : ¬ s.cfg .lmax * 10000 ≤ (s.useSample t.speed y ovr c).distance := Nat.not_le_of_lt hlen
  rw [State.followCapture, if_neg (Nat.not_le_of_lt hlow), if_neg hlen', State.modUnit_units, vupd_get_self]

/-! ## A jump (R63) -/

/-- A unit after a gap: an open capture counts it, and is GAPPED beyond Gtol. -/
def CaptureUnit.afterGap (gtol missing : Nat) (u : CaptureUnit) : CaptureUnit :=
  { u with capture := u.capture.map fun c => { c with
      gapCount := min (c.gapCount + missing) 65535
      gapped := c.gapped || decide (gtol < min (c.gapCount + missing) 65535) } }

/-- A gap handed to distinct channels reaches each of their units once. -/
theorem State.captureGaps_unit (missing : Nat) (i : Fin 16) (ks : List (Fin 4 × Fin 16)) (hks : (ks.map Prod.snd).Nodup) :
    ∀ s : State, ((ks.foldl (fun s j => s.captureGap j.2 missing) s).units[i])
      = if i ∈ ks.map Prod.snd then (s.units[i]).afterGap (s.cfg .gtol) missing else s.units[i] := by
  induction ks with
  | nil => exact fun _ => rfl
  | cons p ks ih =>
    intro s
    obtain ⟨hp, hks⟩ := List.nodup_cons.mp hks
    have hcfg : (s.captureGap p.2 missing).cfg = s.cfg := rfl
    rw [List.foldl_cons, ih hks, hcfg]
    simp only [List.map_cons, List.mem_cons]
    by_cases hi : i = p.2
    · subst hi
      rw [if_neg hp, if_pos (.inl rfl)]
      exact vupd_get_self ..
    · have hunit : (s.captureGap p.2 missing).units[i] = s.units[i] := vupd_get_ne _ hi _
      rw [hunit]
      simp only [hi, false_or]

theorem mem_nodeChannels (g : Fin 4) (i : Fin 16) : i ∈ (nodeChannels g).map Prod.snd ↔ i.val / 4 = g.val := by
  decide +revert

theorem nodeChannels_nodup (g : Fin 4) : ((nodeChannels g).map Prod.snd).Nodup := by
  decide +revert

theorem State.gaugeGap_eq (g : Fin 4) (missing : Nat) (s : State) : s.gaugeGap g missing = { s with
    units := Vector.ofFn fun k : Fin 16 =>
      if k.val / 4 = g.val then (s.units[k]).afterGap (s.cfg .gtol) missing else s.units[k] } := by
  have hunits : (s.gaugeGap g missing).units = Vector.ofFn fun k : Fin 16 =>
      if k.val / 4 = g.val then (s.units[k]).afterGap (s.cfg .gtol) missing else s.units[k] := by
    refine Vector.ext fun i hi => ?_
    have hunit := State.captureGaps_unit missing ⟨i, hi⟩ _ (nodeChannels_nodup g) s
    simp only [mem_nodeChannels] at hunit
    rw [Vector.getElem_ofFn]
    exact hunit
  rw [← hunits]
  rfl

/-- The state that a jump of `missing` frames on link `g` leaves before the frame itself, of the sequence after `q`, is taken. -/
def State.afterJump (g : Fin 4) (q : Byte) (missing : Nat) (s : State) : State := { s with
  nodes := s.nodes.set g { s.nodes[g] with prev := some q, missing := min ((s.nodes[g]).missing + missing) 65535 }
  units := Vector.ofFn fun k : Fin 16 =>
    if k.val / 4 = g.val then (s.units[k]).afterGap (s.cfg .gtol) missing else s.units[k] }

theorem State.afterJump_node (g : Fin 4) (q : Byte) (missing : Nat) (s : State) : (s.afterJump g q missing).nodes[g] =
    { s.nodes[g] with prev := some q, missing := min ((s.nodes[g]).missing + missing) 65535 } :=
  Vector.getElem_set_self ..

theorem State.presentFrame_jump {s : State} {g : Fin 4} {f : GaugeFrame} {missing : Nat}
    (h : checkSeq s.nodes[g].prev f.seq = .jump missing) : s.presentFrame g f =
      (((s.gaugeMissing g missing).acceptGaugeSeq g f).gaugeGap g missing).deliver g f := by
  rw [State.presentFrame, h]

/-- The node takes the frame after the jump's own effects, whichever comes first (R62, R63). -/
theorem State.jump_then_taking {s : State} {g : Fin 4} (hst : s.nodes[g].status = .present) (t : Nat) (f : GaugeFrame) (q : Byte)
    (missing : Nat) : (((s.advance t).gaugeMissing g missing).acceptGaugeSeq g f).gaugeGap g missing =
      (s.afterJump g q missing).taking g t f.seq := by
  have hset (n : GaugeNode) : (s.afterJump g q missing).nodes.set g n = s.nodes.set g n := Vector.set_set ..
  rw [State.gaugeGap_eq, State.acceptGaugeSeq, State.gaugeMissing, State.modNode_modNode, ms_eq, State.taking, State.afterJump_node,
    hset, ← hst]
  rfl

/-- Settles O43: the first part by the capture and the motion at the channel's own sample, the second by the sequence check. -/
theorem capturesOpenAndFollow : Obligations.CapturesOpenAndFollow := by
  unfold Obligations.CapturesOpenAndFollow
  refine ⟨fun g j t a f s tr hsite ht hgood hd => ?sample, fun g t a f q s hgood hst hprev hdup hnext => ?jump⟩
  case sample =>
    obtain ⟨u, v, hu, hv, hsampled, -⟩ := exec_gaugeFrame_channel t j hgood hd
    have hvsite : v.ssq.site = .passage := (congrArg Ssq.site hv.ssq).trans hsite
    have hvt : v.axt.train = some tr := (congrArg Axt.train hv.axt).trans ht
    have hunit := hsampled.unit
    rw [State.channelSample_units, hv.channel] at hunit
    have hcfg : v.cfg = s.cfg := hv.cfg
    refine ⟨u, hu, fun hc hy => ?below, fun hc hy => ?opens, fun c hc hm => ?follows, fun c hc hm => ?suspended⟩
    case below =>
      rw [hunit, State.captureSample_below hvsite hvt (hv.unit ▸ hc) (hcfg ▸ hy), hv.unit]
      rfl
    case opens =>
      rw [hunit, State.captureSample_opens hvsite hvt (hv.unit ▸ hc) (hcfg ▸ hy), State.openCapture_unit, hv.unit, hv.stale,
        hv.channel]
      rfl
    case follows =>
      intro distance zone low hlow hlen
      rw [hunit, State.captureSample_follows hvsite hvt (hv.unit ▸ hc) hm, State.followCapture_open, State.useSample_eq, hv.unit,
        hcfg]
      · rfl
      · rw [State.useSample_eq, hcfg]
        exact hlow
      · rw [hcfg]
        exact hlen
    case suspended =>
      rw [hunit, State.captureSample_suspended hvsite hvt (hv.unit ▸ hc) (not_not.mp hm), State.suspendedSample,
        State.modUnit_units, vupd_get_self, hv.unit]
      rfl
  case jump =>
    intro missing gap
    have hcheck : checkSeq (s.advance t).nodes[g].prev f.seq = .jump missing :=
      (congrArg (checkSeq · f.seq) hprev).trans (checkSeq_jump hdup hnext)
    have hnode := s.afterJump_node g (f.seq - 1) missing
    have hdelivers : ((s.afterJump g (f.seq - 1) missing).nodes[g]).Delivers f.seq := by
      rw [hnode]
      exact .inl ⟨hst, .inr rfl⟩
    refine congrArg Host.Outcome.next ?_
    calc s.afterGaugeFrame g t a = (s.advance t).presentFrame g f := State.afterGaugeFrame_present hst hgood
      _ = ((s.afterJump g (f.seq - 1) missing).taking g t f.seq).deliver g f := by
        rw [State.presentFrame_jump hcheck, State.jump_then_taking hst]
      _ = (s.afterJump g (f.seq - 1) missing).afterGaugeFrame g t a :=
        (State.afterGaugeFrame_delivers hgood hdelivers).symm

end Sys2Proof.Machine
end

section
/-! SUPPORT. BaselineFollowsClearSamples: the baseline update, and which channels a sample leaves clear (R67, R69, R70). -/

namespace Sys2Proof.Machine

/-! ## The update of a baseline (R70) -/

theorem baselineStep_some (z x : Int) (kFine kCoarse wfast : Nat) : baselineStep (some z) x kFine kCoarse wfast =
    z + (256 * x - z) / 2 ^ (if 256 * (wfast : Int) < 256 * x - z ∨ 256 * (wfast : Int) < -(256 * x - z) then kCoarse
      else kFine) := by
  simp only [baselineStep, lt_abs]

theorem State.clear_iff {s : State} {k : Fin 16} :
    s.clear k = true ↔ (s.units[k]).capture = none ∧ (s.channels[k]).quiet = none := by
  simp only [State.clear, Bool.and_eq_true, Option.isNone_iff_eq_none]

/-- The channel once its baseline has followed the sample `x` (R70). -/
def State.followed (s : State) (x : Int) (c : Channel) : Channel :=
  { c with z := some (baselineStep c.z x (s.cfg .kFine) (s.cfg .kCoarse) (s.cfg .wfast)), ageFrom := s.now }

theorem State.followed_eq (s : State) (x : Int) (c : Channel) : s.followed x c = { c with
    z := some (match c.z with
      | none => 256 * x
      | some z => z + (256 * x - z) / 2 ^ (if 256 * (s.cfg .wfast : Int) < 256 * x - z
          ∨ 256 * (s.cfg .wfast : Int) < -(256 * x - z) then s.cfg .kCoarse else s.cfg .kFine))
    ageFrom := s.now } := by
  rw [State.followed]
  cases c.z with
  | none => rfl
  | some z => rw [baselineStep_some]

section
variable {s : State} {k : Fin 16} {x : Int} {ovr : Bool}

theorem State.trackBaseline_follows (hsite : s.ssq.site.tracksBaselines = true) (hc : s.clear k = true) (ho : ovr = false) :
    s.trackBaseline k x ovr = s.modChannel k (s.followed x) :=
  if_pos (by rw [hsite, hc, ho]; rfl)

theorem State.trackBaseline_holds (h : ¬(s.clear k = true ∧ ovr = false)) : s.trackBaseline k x ovr = s :=
  if_neg fun htracks => h (by
    simp only [Bool.and_eq_true, Bool.not_eq_true'] at htracks
    exact ⟨htracks.1.1, htracks.2⟩)

theorem State.trackBaseline_idle (h : s.ssq.site.tracksBaselines = false) : s.trackBaseline k x ovr = s :=
  if_neg (by rw [h, Bool.and_false, Bool.false_and]; decide)

end

/-! ## No train (R80) -/

theorem State.channelSample_noTrain {s : State} (ht : s.axt.train = none) (k : Fin 16) (x : Int) (ovr : Bool) :
    s.channelSample k x ovr = s.trackBaseline k x ovr := by
  rw [State.channelSample, State.captureSample, ht]

/-- A state that differs from `s` in its channels alone still does after a change of one of them. -/
theorem State.modChannel_of_channels {s u : State} (h : u = { s with channels := u.channels }) (k : Fin 16)
    (f : Channel → Channel) : u.modChannel k f = { s with channels := (u.modChannel k f).channels } :=
  congrArg (fun w : State => { w with channels := (u.modChannel k f).channels }) h

/-- With no train open a delivery changes channels alone. -/
theorem State.deliver_noTrain {s : State} (ht : s.axt.train = none) (g : Fin 4) (f : GaugeFrame) :
    s.deliver g f = { s with channels := (s.deliver g f).channels } := by
  refine List.foldlRecOn (motive := fun u : State => u = { s with channels := u.channels }) (nodeChannels g) _ rfl
    fun u hu p _ => ?_
  have hut : u.axt.train = none := by rw [hu]; exact ht
  rw [State.channelSample_noTrain hut, State.trackBaseline]
  split
  · exact State.modChannel_of_channels hu ..
  · exact hu

/-- In a site state without baselines nothing changes. -/
theorem State.deliver_idle {s : State} (ht : s.axt.train = none) (hsite : s.ssq.site.tracksBaselines = false) (g : Fin 4)
    (f : GaugeFrame) : s.deliver g f = s := by
  refine List.foldlRecOn (motive := fun u : State => u = s) (nodeChannels g) _ rfl fun u hu p _ => ?_
  rw [hu, State.channelSample_noTrain ht, State.trackBaseline_idle hsite]

/-- With no train open a sample that is not over-range moves the baseline of a clear channel. -/
theorem State.deliver_channel_noTrain {s : State} (ht : s.axt.train = none) (hsite : s.ssq.site.tracksBaselines = true)
    (g j : Fin 4) (f : GaugeFrame) : (s.deliver g f).channels[nodeChannel g j] =
      if (s.units[nodeChannel g j]).capture = none ∧ (s.channels[nodeChannel g j]).quiet = none ∧ f.overRange[j] = false
      then s.followed f.samples[j].toInt s.channels[nodeChannel g j] else s.channels[nodeChannel g j] := by
  obtain ⟨v, hv, hu⟩ := s.deliver_channel g j f
  have hvt : v.axt.train = none := (congrArg Axt.train hv.axt).trans ht
  have hvsite : v.ssq.site.tracksBaselines = true := by rw [hv.ssq, hsite]
  rw [hu.channel, State.channelSample_noTrain hvt]
  split
  · rename_i hclear
    obtain ⟨hcapture, hquiet, hovr⟩ := hclear
    have hvclear : v.clear (nodeChannel g j) = true :=
      State.clear_iff.mpr ⟨by rw [hv.unit, hcapture], by rw [hv.channel, hquiet]⟩
    rw [State.trackBaseline_follows hvsite hvclear hovr, State.modChannel_channels, vupd_get_self, State.followed, State.followed,
      hv.channel, hv.cfg, hv.now]
  · rename_i hnot
    rw [State.trackBaseline_holds, hv.channel]
    rintro ⟨hvclear, hovr⟩
    rw [State.clear_iff, hv.unit, hv.channel] at hvclear
    exact hnot ⟨hvclear.1, hvclear.2, hovr⟩

theorem eq_nodeChannel {g : Fin 4} {k : Fin 16} (h : k.val / 4 = g.val) : ∃ j, k = nodeChannel g j := by
  decide +revert

theorem nodeChannel_mod (g j : Fin 4) : (nodeChannel g j).val % 4 = j.val := by
  decide +revert

/-- Entry `j` of a frame is that of channel `j` of its node. -/
theorem getD_nodeChannel {α : Type} (v : Vector α 4) (d : α) (g j : Fin 4) :
    v.toList.getD ((nodeChannel g j).val % 4) d = v[j] := by
  rw [nodeChannel_mod]
  simp

/-- The channels after a delivery with no train open (R70). -/
theorem State.deliver_channels_noTrain {s : State} (ht : s.axt.train = none) (hsite : s.ssq.site.tracksBaselines = true)
    (g : Fin 4) (f : GaugeFrame) : (s.deliver g f).channels = Vector.ofFn fun k : Fin 16 =>
      if k.val / 4 = g.val ∧ (s.units[k]).capture = none ∧ (s.channels[k]).quiet = none
        ∧ f.overRange.toList.getD (k.val % 4) false = false
      then s.followed (f.samples.toList.getD (k.val % 4) 0).toInt s.channels[k] else s.channels[k] := by
  have hchannel (k : Fin 16) : (s.deliver g f).channels[k] =
      if k.val / 4 = g.val ∧ (s.units[k]).capture = none ∧ (s.channels[k]).quiet = none
        ∧ f.overRange.toList.getD (k.val % 4) false = false
      then s.followed (f.samples.toList.getD (k.val % 4) 0).toInt s.channels[k] else s.channels[k] := by
    by_cases hk : k.val / 4 = g.val
    · obtain ⟨j, rfl⟩ := eq_nodeChannel hk
      simp only [hk, true_and, getD_nodeChannel]
      exact State.deliver_channel_noTrain ht hsite g j f
    · rw [if_neg fun h => hk h.1]
      exact (State.SameAt.deliver hk f s).channel
  refine Vector.ext fun i hi => ?_
  rw [Vector.getElem_ofFn]
  exact hchannel ⟨i, hi⟩

/-! ## In passage (R69) -/

section
variable {s : State} {t : OpenTrain} {k : Fin 16} {y : Nat} {ovr : Bool}

theorem State.closeCapture_channel (t : OpenTrain) (k : Fin 16) (kind : CloseKind) (c : Capture) (s : State) :
    (s.closeCapture t k kind c).channels[k] = { s.channels[k] with quiet := some (s.now + ms (s.cfg .tquiet)) } := by
  rw [State.closeCapture, (State.disposeCapture_frame ..).2.2.2.2.2.1]
  exact vupd_get_self ..

theorem State.openCapture_channel (t : OpenTrain) (k : Fin 16) (y : Nat) (ovr : Bool) (s : State) :
    (s.openCapture t k y ovr).channels[k] = s.channels[k] := rfl

theorem State.modUnit_unit (k : Fin 16) (f : CaptureUnit → CaptureUnit) (s : State) :
    (s.modUnit k f).units[k] = f s.units[k] := vupd_get_self ..

/-- A unit that is given a capture has one. -/
theorem State.modUnit_capture (k : Fin 16) (f : CaptureUnit → CaptureUnit) (s : State) {c : Capture}
    (h : (f s.units[k]).capture = some c) : ((s.modUnit k f).units[k]).capture ≠ none := by
  rw [State.modUnit_unit, h]
  exact Option.some_ne_none c

/-- The capture of a moving train follows its sample, and stays open or starts the quiet timer (R69, R87, R88). -/
theorem State.followCapture_channel (t : OpenTrain) (k : Fin 16) (y : Nat) (ovr : Bool) (c : Capture) (s : State) :
    ((s.followCapture t k y ovr c).channels[k] = s.channels[k] ∧ ((s.followCapture t k y ovr c).units[k]).capture ≠ none)
      ∨ ∃ quiet, (s.followCapture t k y ovr c).channels[k] = { s.channels[k] with quiet := some quiet } := by
  unfold State.followCapture
  dsimp only
  split
  · exact .inr ⟨_, State.closeCapture_channel ..⟩
  · split
    · split
      · exact .inr ⟨_, (State.openCapture_channel ..).trans (State.closeCapture_channel ..)⟩
      · exact .inr ⟨_, State.closeCapture_channel ..⟩
    · exact .inl ⟨rfl, State.modUnit_capture k _ s rfl⟩

/-- A sample of an open capture leaves it open, or the quiet timer of its channel runs. -/
theorem State.captureSample_capture {c : Capture} (hsite : s.ssq.site = .passage) (ht : s.axt.train = some t)
    (hc : (s.units[k]).capture = some c) :
    ((s.captureSample k y ovr).channels[k] = s.channels[k] ∧ ((s.captureSample k y ovr).units[k]).capture ≠ none)
      ∨ ∃ quiet, (s.captureSample k y ovr).channels[k] = { s.channels[k] with quiet := some quiet } := by
  by_cases hm : t.motion = .halted
  · rw [State.captureSample_suspended hsite ht hc hm]
    exact .inl ⟨rfl, State.modUnit_capture k _ s rfl⟩
  · rw [State.captureSample_follows hsite ht hc hm]
    exact State.followCapture_channel ..

/-- What a sample does to its channel before the baseline is looked at: nothing, or its quiet timer starts (R69). -/
theorem State.captureSample_channel (hsite : s.ssq.site = .passage) (ht : s.axt.train = some t) :
    (s.captureSample k y ovr).channels[k] = s.channels[k]
      ∨ ∃ quiet, (s.captureSample k y ovr).channels[k] = { s.channels[k] with quiet := some quiet } := by
  cases hc : (s.units[k]).capture with
  | some c => exact (State.captureSample_capture hsite ht hc).imp_left And.left
  | none =>
    refine .inl ?_
    by_cases hy : s.cfg .ton ≤ y
    · rw [State.captureSample_opens hsite ht hc hy, State.openCapture_channel]
    · rw [State.captureSample_below hsite ht hc (Nat.lt_of_not_le hy)]

/-- A sample leaves its channel clear only where it was clear and the load is below Ton. -/
theorem State.clear_after_captureSample (hsite : s.ssq.site = .passage) (ht : s.axt.train = some t)
    (h : (s.captureSample k y ovr).clear k = true) : s.clear k = true ∧ y < s.cfg .ton := by
  obtain ⟨hcapture, hquiet⟩ := State.clear_iff.mp h
  cases hc : (s.units[k]).capture with
  | some c =>
    rcases State.captureSample_capture hsite ht hc with ⟨-, hopen⟩ | ⟨quiet, he⟩
    · exact absurd hcapture hopen
    · rw [he] at hquiet
      cases hquiet
  | none =>
    by_cases hy : s.cfg .ton ≤ y
    · rw [State.captureSample_opens hsite ht hc hy, State.openCapture, State.modUnit_units, vupd_get_self] at hcapture
      cases hcapture
    · have hlt := Nat.lt_of_not_le hy
      rw [State.captureSample_below hsite ht hc hlt] at h
      exact ⟨h, hlt⟩

end

/-- In passage a sample moves the baseline of its channel exactly where the channel is clear and the load below Ton. -/
theorem State.channelSample_baseline {s : State} {t : OpenTrain} (hsite : s.ssq.site = .passage) (ht : s.axt.train = some t)
    (k : Fin 16) (x : Int) (ovr : Bool) :
    (s.clear k = true → ovr = false → s.channels[k].convert x ovr < s.cfg .ton →
      (s.channelSample k x ovr).channels[k] = s.followed x s.channels[k])
    ∧ (¬(s.clear k = true ∧ ovr = false ∧ s.channels[k].convert x ovr < s.cfg .ton) →
      ((s.channelSample k x ovr).channels[k]).z = s.channels[k].z
      ∧ ((s.channelSample k x ovr).channels[k]).ageFrom = s.channels[k].ageFrom) := by
  refine ⟨fun hclear hovr hy => ?_, fun hnot => ?_⟩
  · rw [State.channelSample, State.captureSample_below hsite ht (State.clear_iff.mp hclear).1 hy,
      State.trackBaseline_follows (by rw [hsite]; rfl) hclear hovr, State.modChannel_channels, vupd_get_self]
  · rw [State.channelSample, State.trackBaseline_holds]
    · rcases State.captureSample_channel hsite ht with he | ⟨quiet, he⟩
      · rw [he]
        exact ⟨rfl, rfl⟩
      · rw [he]
        exact ⟨rfl, rfl⟩
    · rintro ⟨hclear, hovr⟩
      obtain ⟨hbefore, hy⟩ := State.clear_after_captureSample hsite ht hclear
      exact hnot ⟨hbefore, hovr, hy⟩

/-- Settles O42: with no train open by the baseline step alone, in passage by what the sample leaves clear. -/
theorem baselineFollowsClearSamples : Obligations.BaselineFollowsClearSamples := by
  unfold Obligations.BaselineFollowsClearSamples
  refine ⟨fun g t a f s ht hgood hd => ⟨fun hsite => ?tracked, fun hsite => ?armed⟩,
    fun g j t a f s ht hsite hgood hd => ?passage⟩
  case armed =>
    rw [exec_gaugeFrame, State.afterGaugeFrame_delivers hgood hd, State.deliver_idle (s := s.taking g t f.seq) ht
      (congrArg SiteState.tracksBaselines hsite)]
    rfl
  case tracked =>
    have htracks : s.ssq.site.tracksBaselines = true := by
      rcases hsite with hsite | hsite
      · rw [hsite]; rfl
      · rw [hsite]; rfl
    rw [exec_gaugeFrame, State.afterGaugeFrame_delivers hgood hd, State.deliver_noTrain (s := s.taking g t f.seq) ht,
      State.deliver_channels_noTrain (s := s.taking g t f.seq) ht htracks]
    simp only [State.followed_eq]
    rfl
  case passage =>
    obtain ⟨tr, ht⟩ := Option.ne_none_iff_exists'.mp ht
    obtain ⟨u, v, hu, hv, hsampled, hothers⟩ := exec_gaugeFrame_channel t j hgood hd
    have hvsite : v.ssq.site = .passage := (congrArg Ssq.site hv.ssq).trans hsite
    have hvt : v.axt.train = some tr := (congrArg Axt.train hv.axt).trans ht
    have hclear : v.clear (nodeChannel g j) = true ↔ _ := State.clear_iff
    rw [hv.unit, hv.channel] at hclear
    have hbaseline := State.channelSample_baseline hvsite hvt (nodeChannel g j) (f.samples[j]).toInt f.overRange[j]
    rw [hv.channel, hv.cfg, ← hsampled.channel] at hbaseline
    obtain ⟨hfollows, hholds⟩ := hbaseline
    refine ⟨u, hu, fun hnot => hholds ?_, fun htracked => ?_, fun i hi => (hothers i hi).channel⟩
    · rintro ⟨hvclear, hovr, hy⟩
      obtain ⟨hcapture, hquiet⟩ := hclear.mp hvclear
      exact hnot ⟨hcapture, hquiet, hovr, hovr ▸ hy⟩
    · obtain ⟨hcapture, hquiet, hovr, hy⟩ := htracked
      rw [hfollows (hclear.mpr ⟨hcapture, hquiet⟩) hovr (hovr ▸ hy), State.followed_eq]
      refine ⟨hv.now, ?_⟩
      simp only [hv.cfg, State.advance_channels]
      cases s.channels[nodeChannel g j].z with
      | none => rfl
      | some z => rfl

end Sys2Proof.Machine
end
